-- ==== Sys2Proof/Word.lean ====
section
/-! DEFINITION. The words of the device: 32-bit register words, bytes, and the sparse map every indexed store is held in. -/
namespace Sys2Proof

/-- A register word of the host space (R23: the bus is 32 bits wide). -/
abbrev Word := BitVec 32

/-- A byte of a memory or a frame. -/
abbrev Byte := BitVec 8

/-- A store indexed by a number: pairs of index and value with the indices strictly rising and no value equal to the one an
unlisted index has (`SMap.wf`), so that equal stores are equal data. -/
abbrev SMap (α : Type) := List (Nat × α)

end Sys2Proof
end

