-- ==== Sys2Proof/Syntax.lean ====
section
/-! DEFINITION. The commands of the block: one constructor per row of spec/opcode_table.json, with the operands the environment
gives it. A command is a host access, or an event the spec describes (an edge of the period, an event of a sequencer, a
physical event at a ball or a sensor). What the outside world alone decides (a measured code, a test result, a received frame)
is an operand; the device's own arithmetic is the machine's. -/
namespace Sys2Proof

/-- A supply rail of the control domain (R53). -/
inductive Rail where
  | vddc | vddl | vddlh | vddio | vdda
  deriving DecidableEq, Repr

/-- The check bits of a memory word as read: good, a single-bit error, or an uncorrectable one (R30, R411, R412). -/
inductive Ecc where
  | good | single | uncorrectable
  deriving DecidableEq, Repr

/-- The stages of the Cistern charger (R379), with the stop at the end of charge and the stop below 0 °C. -/
inductive ChargeStage where
  | trickle | constantCurrent | constantVoltage | done | cold
  deriving DecidableEq, Repr

/-- The registers that take a handle (R41). -/
inductive Selector where
  | sumpChSel | chanChSel | pfSel | tSel | cellSel | subSel | recProf
  deriving DecidableEq, Repr

/-- The fields of a scalar stroke besides its opcode (R81). -/
structure Scalar where
  pen : Bool
  pneg : Bool
  pidx : BitVec 3
  dst : BitVec 10
  sa : BitVec 10
  sb : BitVec 10
  sc : BitVec 10
  fin : Bool
  out : Bool
  imm : BitVec 8
  deriving DecidableEq, Repr

/-- The fields of a vector stroke besides its opcode (R81). -/
structure Vec where
  pen : Bool
  pneg : Bool
  pidx : BitVec 3
  xd : BitVec 6
  yd : BitVec 6
  sa : BitVec 10
  sb : BitVec 10
  sd : BitVec 10
  fin : Bool
  imm : BitVec 8
  deriving DecidableEq, Repr


/-- What SYNC's observer, frequency-locked loop and phase-locked loop give at an E0: the spec states these blocks by their gains
(R142, R146), not by the arithmetic of their recursions, so their outputs come with the command. All are binary32. -/
structure SyncIn where
  /-- θobs, rad -/
  thetaObs : BitVec 32
  /-- frequency of the FLL, Hz -/
  fll : BitVec 32
  /-- |V+| and |V−|, pu -/
  vp : BitVec 32
  vn : BitVec 32
  /-- lowest and highest phase magnitude, pu -/
  phMin : BitVec 32
  phMax : BitVec 32
  /-- sequence voltages, pu -/
  vpd : BitVec 32
  vpq : BitVec 32
  vnd : BitVec 32
  vnq : BitVec 32
  /-- THETA and OMEGA of the phase-locked loop, rad and rad/s -/
  theta : BitVec 32
  omega : BitVec 32
  deriving DecidableEq, Repr

/-- What training reads and measures of a device: its unique ID, the hop before it and its two forwarding delays in 1/64 UI (R262, R271). -/
structure CellFound where
  uid : BitVec 64
  h : BitVec 32
  f : BitVec 32
  fB : BitVec 32
  deriving DecidableEq, Repr

/-- What ends a training early (RINGn.TRAIN_RESULT codes 4 and 5). -/
inductive TrainFault where
  | noSync | timeout
  deriving DecidableEq, Repr

/-- What the outside world gives at an E0 besides time: SYNC's observer outputs; for each modulator channel the last 63 bits sampled at
its ball, newest in bit 0 (R299); and the sixteen converter codes that the snapshot 1.9 µs later holds (R211, R142). -/
structure EpochIn where
  sync : SyncIn
  mdat : List (BitVec 63)
  adc : List (BitVec 16)
  deriving DecidableEq, Repr

/-- Sums over the 128 samples of a tracked cycle of one voltage channel, before ratio and gain: mean square and the order-1 phasor as RMS
(R310), all binary32. -/
structure ChanSum where
  sq : BitVec 32
  re : BitVec 32
  im : BitVec 32
  deriving DecidableEq, Repr

/-- The same of one phase current, before ratio and gain: of each range the mean square over the whole cycle, the peak magnitude of the
high range, and the parts of mean square, phasor and mean product with the voltage that fall on the samples taken from that range (R309,
R310). In a single-range layout the high range is the channel. -/
structure PairSum where
  hiOwn : BitVec 32
  loOwn : BitVec 32
  hiPeak : BitVec 32
  hi : ChanSum
  hiVi : BitVec 32
  lo : ChanSum
  loVi : BitVec 32
  deriving DecidableEq, Repr

/-- A tracked cycle as it ends (R304): plant time of the boundary in ns, length in eighths of a nanosecond, tracked frequency, whether the
tracker is locked, |V+| in units of x, and the sums of the channels. -/
structure CycleIn where
  at_ : BitVec 64
  len : BitVec 32
  freq : BitVec 32
  lock : Bool
  vpos : BitVec 32
  v : List ChanSum
  i : List PairSum
  deriving DecidableEq, Repr

/-- One synchrophasor estimate (R318): magnitudes in V and A, angles in degrees, indices 0 to 2 the phases and 3 the positive sequence. -/
structure PhasorIn where
  vmag : List (BitVec 32)
  vang : List (BitVec 32)
  imag : List (BitVec 32)
  iang : List (BitVec 32)
  freq : BitVec 32
  deriving DecidableEq, Repr

/-- A frame at a station port (spec/17): the port (true STN1), its bytes from the destination address on, without FCS, whether its FCS is
good, and the plant time in ns of its timestamp point at the ball. -/
structure RxFrame where
  port : Bool
  bytes : List (BitVec 8)
  fcsOk : Bool
  ts : BitVec 64
  deriving DecidableEq, Repr

/-- A link event of a station port (R357): up, down, or held down by a negotiation that offers no gigabit full duplex. -/
inductive StnLink where
  | up | down | refused
  deriving DecidableEq, Repr

/-- The fields of a PTP event or follow-up message (R364, R365): source port identity, domain, sequence, two-step flag, origin timestamp in
ns, and correction field in 2^−16 ns, signed. -/
structure PtpIn where
  src : BitVec 80
  domain : BitVec 8
  seq : BitVec 16
  twoStep : Bool
  origin : BitVec 64
  corr : BitVec 64
  deriving DecidableEq, Repr

/-- A peer-delay answer with what its follow-up adds (R365): sequence, receipt time of the request, time of the answer, and correction. -/
structure PdelayIn where
  seq : BitVec 16
  t2 : BitVec 64
  t3 : BitVec 64
  corr : BitVec 64
  deriving DecidableEq, Repr

/-- An Announce (R365), its interval in ms, and the TTI of its C37.238 TLV where it has one (R364). -/
structure AnnounceIn where
  src : BitVec 80
  domain : BitVec 8
  gm : BitVec 64
  prio1 : BitVec 8
  prio2 : BitVec 8
  cls : BitVec 8
  acc : BitVec 8
  var : BitVec 16
  steps : BitVec 16
  utc : BitVec 16
  utcValid : Bool
  interval : BitVec 32
  tlv : Option (BitVec 32)
  deriving DecidableEq, Repr

/-- An element of a GOOSE dataset: a BOOLEAN, a BIT STRING from its first bit, or any other type (R366). -/
inductive GooseItem where
  | boolean (v : Bool)
  | bits (b : List Bool)
  | other
  deriving DecidableEq, Repr

/-- The fields of a GOOSE frame (R366, R367); `tal` is timeAllowedtoLive in ms. -/
structure GooseIn where
  appid : BitVec 16
  gocbRef : List (BitVec 8)
  confRev : BitVec 32
  sim : Bool
  stNum : BitVec 32
  sqNum : BitVec 32
  tal : BitVec 32
  data : List GooseItem
  deriving DecidableEq, Repr

/-- An identity read that ends (R394–R397): of module `n` its page A0h bytes 0–95 and the sixteen diagnostic bytes of page A2h, of record slot
`r` its 96 bytes, none where three attempts met no acknowledge; or a bus that stays stuck after its recovery. -/
inductive IdmRead where
  | module (n : Fin 16) (data : Option (List (BitVec 8) × List (BitVec 8)))
  | record (r : Fin 16) (data : Option (List (BitVec 8)))
  | stuck (bus : Fin 8)
  deriving DecidableEq, Repr

/-- The commands the block takes: one constructor per row of spec/opcode_table.json. -/
inductive Instr where
  /-- POR_N_RELEASE (R1): Release of POR_N with the control rails in range ends the internal reset, latches the role from ROLE1:0 and starts BOOT from DORMANT. -/
  | porNRelease (roleBalls : BitVec 2)
  /-- POR_N_ASSERT (R54): POR_N driven low asserts the control-domain block, has a last-gasp entry written and sends the device to DORMANT. -/
  | porNAssert
  /-- BROWN_OUT (R54): A control rail falling below its brown-out threshold asserts the control-domain block, has the Keeper write a last-gasp entry and sends the device to DORMANT. -/
  | brownOut (rail : Rail)
  /-- RESET_N_ASSERT (R56): RESET_N low resets the control registers and zeroes Schedule RAM, Table RAM and Sump while keeping Main SRAM and the role latch. -/
  | resetNAssert
  /-- SW_RESET (R56): A write of key 0x6D0F to PWR.SW_RESET performs a software reset; any other key is refused and counted. -/
  | swReset (key : BitVec 16)
  /-- GUARD_RESET (R55): A Guard reset or VDDG brown-out asserts the block line and releases GTRIP0-3, and the profile is reverified on return. -/
  | guardReset
  /-- KEEPER_RESET (R380): A Keeper reset on VKEEP marks the RTC invalid, places the Keeper in START and is reported at the next BOOT. -/
  | keeperReset
  /-- BOOT (R51): BOOT loads OTP, tests and zeroes memories, handshakes with the Guard, verifies the profile, checks island links and the Keeper header, and starts the root PLL. -/
  | boot (otpOk memOk : Bool) (links : BitVec 8) (nvOk : Bool)
  /-- GUARD_HANDSHAKE_TIMEOUT (R51): No answer from the Guard die within 5 ms during BOOT is a fatal result. -/
  | guardHandshakeTimeout
  /-- BOOT_END (R46): At the first E0 after root PLL lock, BOOT ends in CONFIGURE, or in SAFE with PRIOR_ACTIVE when the Keeper record shows ARMED, RUN or SAFE, and then evaluates any pending request. -/
  | bootEnd
  /-- GUARD_LOST (R55): Loss of the Guard handshake for 1 ms in CONFIGURE, ARMED or RUN enters SAFE with cause GUARD_LOST. -/
  | guardLost
  /-- EPOCH (R15): E0 starts a period: samples are latched, PERIOD_CNT increments, channel work, swaps and pending mode requests take effect, commits transfer, the slow-lane slice is chosen, and the blocks write their system words. -/
  | epoch (x : EpochIn)
  /-- PUMP_START (R90): At Pump cycle 1,600 after E0 (E2) the main schedule of the active bank begins to issue. -/
  | pumpStart
  /-- OUT_PHASE (R12): At E4 the output buffer is frozen and each ring's train departs with the current or previous period's complete output set. -/
  | outPhase
  /-- APPLY_PHASE (R13): At E6 each cell, and the Wellhead's own generators, stage the new references and arm their commits. -/
  | applyPhase
  /-- SAFE_AGE_REACHED (R291): When c reaches SAFE_AGE in ARMED or RUN the cell enters SAFE with cause WELLHEAD and FAULT code 0x82. -/
  | safeAgeReached
  /-- PHASOR_STAGE (R287): A cell in phasor form evaluates the phasor and stages fresh fractions at least 200 ns before each transfer point. -/
  | phasorStage (gen : Fin 4)
  /-- SLOW_SLICE_START (R92): The due slow-lane slice begins issuing at Pump cycle E4c + 1. -/
  | slowSliceStart
  /-- NOP (R82): Stroke that performs no operation for IMM + 1 cycles. -/
  | nop (f : Scalar)
  /-- FMA (R82): Stroke computing d = a × b + c with one rounding. -/
  | fma (f : Scalar)
  /-- FMS (R82): Stroke computing d = a × b − c. -/
  | fms (f : Scalar)
  /-- FNMA (R82): Stroke computing d = c − a × b. -/
  | fnma (f : Scalar)
  /-- LERP (R82): Stroke computing d = a + (b − a) × c with one rounding in each of FMA0 and FMA1. -/
  | lerp (f : Scalar)
  /-- MIN (R82): Stroke computing d = min(a, b). -/
  | min (f : Scalar)
  /-- MAX (R82): Stroke computing d = max(a, b). -/
  | max (f : Scalar)
  /-- CLAMP (R82): Stroke computing d = min(max(a, b), c). -/
  | clamp (f : Scalar)
  /-- SEL (R82): Stroke selecting a or b on a predicate; it always writes. -/
  | sel (f : Scalar)
  /-- ABS (R82): Stroke computing d = |a|. -/
  | abs (f : Scalar)
  /-- NEG (R82): Stroke computing d = −a. -/
  | neg (f : Scalar)
  /-- RCP (R82): Stroke computing d = 1/a within 1 ulp. -/
  | rcp (f : Scalar)
  /-- RSQ (R82): Stroke computing d = 1/√a within 2 ulp. -/
  | rsq (f : Scalar)
  /-- WRAP (R82): Stroke reducing a into [0, b). -/
  | wrap (f : Scalar)
  /-- TLU (R82): Stroke interpolating an active-half table at angle a and scaling the result by b. -/
  | tlu (f : Scalar)
  /-- CLT (R82): Compare stroke setting a predicate to a < b. -/
  | clt (f : Scalar)
  /-- CLE (R82): Compare stroke setting a predicate to a ≤ b. -/
  | cle (f : Scalar)
  /-- CEQ (R82): Compare stroke setting a predicate to a = b. -/
  | ceq (f : Scalar)
  /-- CALT (R82): Compare stroke setting a predicate to |a| < b. -/
  | calt (f : Scalar)
  /-- PAND (R82): Stroke forming the AND of two predicates. -/
  | pand (f : Scalar)
  /-- POR (R82): Stroke forming the OR of two predicates. -/
  | por (f : Scalar)
  /-- IADD (R82): Integer addition stroke. -/
  | iadd (f : Scalar)
  /-- ISUB (R82): Integer subtraction stroke. -/
  | isub (f : Scalar)
  /-- IAND (R82): Integer AND stroke. -/
  | iand (f : Scalar)
  /-- IOR (R82): Integer OR stroke. -/
  | ior (f : Scalar)
  /-- IXOR (R82): Integer XOR stroke. -/
  | ixor (f : Scalar)
  /-- ISHL (R82): Integer shift-left stroke. -/
  | ishl (f : Scalar)
  /-- ISHR (R82): Arithmetic shift-right stroke. -/
  | ishr (f : Scalar)
  /-- F2I (R82): Stroke converting binary32 to a saturated integer, rounding to nearest even. -/
  | f2i (f : Scalar)
  /-- I2F (R82): Stroke converting an integer to binary32. -/
  | i2f (f : Scalar)
  /-- ICLT (R82): Stroke setting a predicate to a < b as signed integers. -/
  | iclt (f : Scalar)
  /-- VFMA (R82): Vector stroke computing Y[i] = X[i] × A + B. -/
  | vfma (f : Vec)
  /-- VFMAS (R82): Vector stroke computing Y[i] = X[i] × A + B and the sum D. -/
  | vfmas (f : Vec)
  /-- VSUM (R82): Vector stroke computing D = Σ (X[i] × A + B). -/
  | vsum (f : Vec)
  /-- VMAX (R82): Vector stroke computing D = max X[i]. -/
  | vmax (f : Vec)
  /-- VMIN (R82): Vector stroke computing D = min X[i]. -/
  | vmin (f : Vec)
  /-- VIMAX (R82): Vector stroke returning the index of the first maximum. -/
  | vimax (f : Vec)
  /-- VIMIN (R82): Vector stroke returning the index of the first minimum. -/
  | vimin (f : Vec)
  /-- VCLAMP (R82): Vector stroke clamping each element between A and B. -/
  | vclamp (f : Vec)
  /-- VMOV (R82): Vector stroke copying X to Y. -/
  | vmov (f : Vec)
  /-- VSPLAT (R82): Vector stroke setting every element of Y to A. -/
  | vsplat (f : Vec)
  /-- VGET (R82): Stroke reading one vector element into the Sump. -/
  | vget (f : Vec)
  /-- VPUT (R82): Stroke writing A into one vector element. -/
  | vput (f : Vec)
  /-- VWRAP (R82): Vector stroke computing Y[i] = WRAP(X[i] + A, B). -/
  | vwrap (f : Vec)
  /-- BADOP (R82): An unlisted opcode executes as a one-cycle NOP and is counted in BADOP_CNT. -/
  | badop (stroke : BitVec 64)
  /-- REGISTER_WRITE (R6): A host or Interrogative write to a register with no row of its own acts under its access code, lock, byte enables and range checks. -/
  | registerWrite (ad : Word) (data : Word) (be : BitVec 4)
  /-- SNAP_READ (R36): Reading a SNAP register latches a coherent snapshot of its register group. -/
  | snapRead (ad : Word)
  /-- HOST_MEMORY_WRITE (R28): A host write to Main SRAM, Schedule RAM or Table RAM is stored under the byte enables and the region's rules. -/
  | hostMemoryWrite (ad : Word) (data : Word) (be : BitVec 4)
  /-- GUARD_WRITE_POST (R28): A write to the Guard window or Guard pages is posted to the 16-entry queue, or dropped with cause 5 when the queue is full. -/
  | guardWritePost (ad : Word) (data : Word) (be : BitVec 4)
  /-- GUARD_WRITE_APPLY (R28): A posted write reaches the Guard and takes effect there. -/
  | guardWriteApply
  /-- BUS_CFG_WRITE (R24): A write to HOST.BUS_CFG selects the bus mode and IRQ output type. -/
  | busCfgWrite (data : Word)
  /-- BUS_MODE_APPLY (R24): The newly selected bus mode applies 1 µs after the BUS_CFG write. -/
  | busModeApply
  /-- CLEAR_BUS_ERRORS (R32): HOST.CLEAR bit 0 clears BUS_ERR_CNT, ADDR and CAUSE. -/
  | clearBusErrors
  /-- CLEAR_STALE (R41): HOST.CLEAR bit 1 clears STALE_CNT, HANDLE and WHERE. -/
  | clearStale
  /-- PAGE_LOCK (R35): LOCK key 0x5A with LOCKED = 1 locks the page. -/
  | pageLock (page : Fin 88)
  /-- PAGE_LOCK_STICKY (R35): LOCK key 0x5A with STICKY = 1 locks the page until reset. -/
  | pageLockSticky (page : Fin 88)
  /-- PAGE_UNLOCK (R35): LOCK key 0xA5 unlocks a page that is not sticky, and other key writes are refused. -/
  | pageUnlock (page : Fin 88) (data : Word)
  /-- SHADOW_COMMIT (R37): SHADOW_CTRL.COMMIT arms a commit of every CMT shadow of the page at the block's next commit event. -/
  | shadowCommit (page : Fin 88)
  /-- SHADOW_DISCARD (R34): SHADOW_CTRL.DISCARD reloads the shadows from the values in force and cancels an armed commit. -/
  | shadowDiscard (page : Fin 88)
  /-- EVENT_CNT_CLEAR (R34): PAGE_CTRL.EVCLR clears EVENT_CNT. -/
  | eventCntClear (page : Fin 88)
  /-- HANDLE_SELECT (R41): A write to a selector register validates the handle, or takes null on a stale handle with the stale record. -/
  | handleSelect (sel : Selector) (handle : Word)
  /-- LOAD_START (R43): LOAD_CMD 0x01 starts the loader on the image at LOAD_SRC for LOAD_TARGET. -/
  | loadStart
  /-- LOAD_ABORT (R435): LOAD_CMD 0x02 aborts a load in progress with code 0x0F. -/
  | loadAbort
  /-- LOAD_DONE (R435): The loader completes its ordered checks and stages the image, or refuses it with a result code, and then sets DONE, raises an interrupt and logs. -/
  | loadDone
  /-- MODE_REQUEST_CONFIGURE (R47): MODE_CMD.REQ = 2 places a pending request for CONFIGURE. -/
  | modeRequestConfigure
  /-- MODE_REQUEST_ARMED (R47): MODE_CMD.REQ = 3 places a pending request for ARMED. -/
  | modeRequestArmed
  /-- MODE_REQUEST_RUN (R47): MODE_CMD.REQ = 4 places a pending request for RUN. -/
  | modeRequestRun
  /-- MODE_REQUEST_SAFE (R48): MODE_CMD.REQ = 5 enters SAFE at once with cause HOST. -/
  | modeRequestSafe
  /-- MODE_REQUEST_CANCEL (R47): MODE_CMD.REQ = 7 cancels the pending request. -/
  | modeRequestCancel
  /-- MODE_REQUEST_BAD_CODE (R47): MODE_CMD.REQ of 0, 1 or 6 is refused at the next E0 with BAD_CODE. -/
  | modeRequestBadCode (req : BitVec 3)
  /-- SOFT_OFF_DONE (R49): SOFT_OFF_DONE sets once every local island reports its gate off and every cell in service reports SAFE. -/
  | softOffDone
  /-- CLEARANCE_FIRST (R58): PWR.CLEARANCE key 0xC1 opens a clearance sequence. -/
  | clearanceFirst
  /-- CLEARANCE_SECOND (R58): PWR.CLEARANCE key 0x1C within 1 ms sets CLEARED when every condition holds, and otherwise is refused. -/
  | clearanceSecond
  /-- CLEARED_LAPSE (R58): CLEARED lapses 100 ms after it is set. -/
  | clearedLapse
  /-- RELOCK (R65): RPLL_CTRL.RELOCK in CONFIGURE commits the divider shadows, stops the period generator and selects a band. -/
  | relock
  /-- LOCK_WINDOW_END (R62): At the end of each 1,024-reference-cycle window the count is judged good or bad, setting or clearing LOCKED. -/
  | lockWindowEnd (count : BitVec 20)
  /-- REFERENCE_LOST (R62): No reference edge for 2 µs clears LOCKED and sets REF_LOST. -/
  | referenceLost
  /-- DITHER_WRITE (R63): A write to CLK.DITHER loads SEED into the LFSR on the following reference edge. -/
  | ditherWrite (data : Word)
  /-- SERVO_HOLDOVER (R69): No servo sample for 3 s enters HOLDOVER and holds SERVO_FRAC. -/
  | servoHoldover
  /-- TIME_SET (R70): SET_CMD.SET loads SET_SEC and SET_NS into plant time at the next edge tick. -/
  | timeSet
  /-- TIME_ADJUST (R70): SET_CMD.ADJ adds ADJ_NS to plant time at the next edge tick. -/
  | timeAdjust
  /-- SERVO_FRAC_WRITE (R70): A host write to SERVO_FRAC is accepted only when SRC = 0. -/
  | servoFracWrite (data : Word)
  /-- SERVO_SRC_CHANGE (R70): A change of SERVO_CFG.SRC keeps SERVO_FRAC and resets the integrator to its negation. -/
  | servoSrcChange (src : BitVec 2)
  /-- PPS_IN_EDGE (R71): A PPS_IN edge is timestamped and, when SRC = 2, gives a servo sample; early edges are ignored and counted. -/
  | ppsInEdge
  /-- PPS_OUT_PULSE (R71): PPS_OUT rises on the edge tick at which NS passes 0. -/
  | ppsOutPulse
  /-- PPS_OUT_END (R71): PPS_OUT falls after WIDTH milliseconds. -/
  | ppsOutEnd
  /-- EPOCH_ALIGN (R72): At the next whole second the period in progress is lengthened so that E0 falls on the aligned instant. -/
  | epochAlign
  /-- EPOCH_MARK (R73): A time-lane epoch mark is recognised and used for period learning, E0 placement and slip detection. -/
  | epochMark (port : Fin 8) (frac : Fin 256)
  /-- MARK_MISS (R238): No mark within 2 edge ticks of the expected instant is counted, and two in a row send a cell in ARMED or RUN to SAFE. -/
  | markMiss (port : Fin 8)
  /-- TIMELANE_SEARCH (R73): A pattern absent from the port in use for 10 ms makes the cell search both ports again. -/
  | timelaneSearch
  /-- BANK_DROP (R108): BANK_CMD.DROP returns a staged bank to EMPTY and its channels to LOADING. -/
  | bankDrop
  /-- BANK_STAGE (R436): BANK_CMD.STAGE stages a host-written standby bank as UNVERIFIED and takes its layout. -/
  | bankStage
  /-- CLR_MISSED (R88): BANK_CMD.CLR_MISSED clears SWAP_MISSED. -/
  | clrMissed
  /-- SWAP_AT_WRITE (R88): A write to SWAP_AT rechecks a staged bank against PERIOD_CNT. -/
  | swapAtWrite (data : Word)
  /-- PUMP_CLEAR_FIN_MAX (R99): PUMP.CLEAR bit 0 clears FIN_MAX. -/
  | pumpClearFinMax
  /-- PUMP_CLEAR_COUNTERS (R99): PUMP.CLEAR bit 1 clears the Pump fault counters. -/
  | pumpClearCounters
  /-- CH_QUOTA_WRITE (R96): A CH_QUOTA write is accepted when the pool allows it, possibly setting OVERQUOTA, or is refused and counted. -/
  | chQuotaWrite (data : Word)
  /-- CH_CREATE (R103): Channel CREATE takes a FREE slot into LOADING and writes the new handle. -/
  | chCreate (slot : Option (Fin 128))
  /-- CH_DRAIN (R106): DRAIN composes the standby bank without the selected LIVE channel and marks it for release. -/
  | chDrain
  /-- DRAIN_DONE (R106): The DRAIN composition completes like a load with result 0x00, or ends with 0x0A. -/
  | drainDone
  /-- CH_DESTROY (R102): Channel DESTROY frees a LOADING channel or drops the bank of a STAGED one. -/
  | chDestroy
  /-- CH_MANUAL (R111): A MANUAL command is recorded for the channel's next due E0. -/
  | chManual
  /-- CH_AUTO (R111): An AUTO command is recorded for the channel's next due E0. -/
  | chAuto
  /-- CHANNEL_FREE (R108): After DRAIN_CFG.PERIODS E0s a DRAINING channel becomes FREE and returns its granules. -/
  | channelFree (slot : Fin 128)
  /-- COEF_WRITE (R112): A COEF_DATA write stores one local word of the selected channel and counts any collision. -/
  | coefWrite (data : Word)
  /-- FOLLOWING_ERROR_FIRE (R115): A following-error timer exceeding FE_TIME sets OVER and FIRED and performs the flag, hold or trip action. -/
  | followingErrorFire (slot : Fin 128)
  /-- FE_CLR (R115): FE_CLR clears FIRED and HELD of the selected channel. -/
  | feClr
  /-- PF_CREATE (R118): Profile CREATE takes a FREE slot and writes the class-3 handle. -/
  | pfCreate (slot : Option (Fin 16))
  /-- PF_DESTROY (R118): Profile DESTROY returns the slot to FREE outside RUN. -/
  | pfDestroy
  /-- PF_HOLD (R122): HOLD freezes y, zeroes v and a and enters HELD. -/
  | pfHold
  /-- PF_RELEASE (R122): RELEASE replans toward TARGET and enters MOVING. -/
  | pfRelease
  /-- PF_FSTOP (R123): FSTOP ramps y toward FS_TARGET at FS_RATE. -/
  | pfFstop
  /-- FS_ALL (R123): FS_ALL applies FSTOP to every allocated profile slot. -/
  | fsAll
  /-- PF_RESUME (R123): RESUME replans from the present state toward TARGET. -/
  | pfResume
  /-- PF_SET (R124): SET loads y and TARGET from INIT and enters SETTLED outside RUN. -/
  | pfSet
  /-- PROFILE_SETTLED (R120): When its trajectory ends the profile writes TARGET exactly, becomes SETTLED and raises an interrupt. -/
  | profileSettled (slot : Fin 16)
  /-- FSTOP_REACHED (R123): The fast-stop ramp ends on FS_TARGET and the slot becomes FSTOPPED. -/
  | fstopReached (slot : Fin 16)
  /-- T_CREATE (R127): Tracker CREATE takes a slot in STOPPED and writes the class-2 handle. -/
  | tCreate (slot : Option (Fin 64))
  /-- T_DESTROY (R127): Tracker DESTROY frees a STOPPED tracker. -/
  | tDestroy
  /-- T_START (R127): START loads Vref from V_START and enters TRACKING with a baseline step. -/
  | tStart
  /-- T_STOP (R127): STOP returns the tracker to STOPPED and holds Vref. -/
  | tStop
  /-- T_SCAN (R131): SCAN requests a global scan at once. -/
  | tScan
  /-- TRACKER_STEP (R130): At a due E0 the tracker averages its samples and makes an incremental-conductance step or a scan point. -/
  | trackerStep (slot : Fin 64)
  /-- SCAN_INTERVAL_EXPIRE (R131): INTERVAL seconds after the last scan a new scan is requested. -/
  | scanIntervalExpire (slot : Fin 64)
  /-- TABLE_SWAP_ARM (R135): A write of bit k to COMP.SWAP arms a swap of table k at the next E0. -/
  | tableSwapArm (mask : BitVec 8)
  /-- COPY_BACK_DONE (R135): Copy of the new active half into the edit half completes and sets IRQ_RAW bit 1. -/
  | copyBackDone (table : Fin 8)
  /-- SYNC_LOCK (R146): After LOCK_N qualifying E0s SYNC enters TRACKING. -/
  | syncLock
  /-- SYNC_UNLOCK (R146): After LOCK_N E0s of large error SYNC returns to ACQUIRE and logs. -/
  | syncUnlock
  /-- SYNC_LOST (R151): A coast lasting beyond COAST_MAX enters LOST. -/
  | syncLost
  /-- LOST_RETURN (R151): RET_SETTLE good E0s in LOST set THETA to θobs and enter ACQUIRE. -/
  | lostReturn
  /-- JUMP_MEASURE (R152): On voltage return after RET_SETTLE E0s the phase jump is measured and SYNC snaps or begins slewing. -/
  | jumpMeasure
  /-- SLEW_DONE (R153): The slew reaches θobs and SYNC returns to TRACKING. -/
  | slewDone
  /-- SYNC_MODE_WRITE (R148): A write to SYNC.CFG.MODE selects grid-following or grid-forming from the next E0. -/
  | syncModeWrite (gridForming : Bool)
  /-- RIDE_POINT_FIRE (R155): A curve point timer exceeding TIME fires and RIDE enters TRIP_REQUEST. -/
  | ridePointFire (point : Fin 24)
  /-- RIDE_RECOVERY (R156): EXIT_T consecutive good E0s move SUPPORT to RECOVERY and resume the recovery profile. -/
  | rideRecovery
  /-- ISLD_DECISION (R161): A detection method reaches its decision, latching REQ and asserting the island request line to the Guard. -/
  | isldDecision (method : Fin 4)
  /-- ISLD_CLR (R161): ISLD.CLR clears REQ outside RUN. -/
  | isldClr
  /-- PWM_BOUNDARY (R170): The generator reaches t = 0, transfers commits, resumes after a trip or block and releases cycle-by-cycle latches. -/
  | pwmBoundary (gen : Fin 12)
  /-- PWM_MID (R170): The generator reaches t = PRD/2 in up-down counting and transfers commits when XFER selects MID. -/
  | pwmMid (gen : Fin 12)
  /-- PWM_COMPARE_EDGE (R169): The counter reaches a compare position and an output edge is placed after dead time and the minimum-pulse check. -/
  | pwmCompareEdge (gen : Fin 12)
  /-- TRIGGER_COMPARE_EVENT (R176): CMPC or CMPD matches t and fires a converter trigger and an optional interrupt. -/
  | triggerCompareEvent (gen : Fin 12) (cmpd : Bool)
  /-- SYNC_OUT_PULSE (R181): The source generator reaches SYNCO_PHASE and SYNC_OUT pulses for 50 ns. -/
  | syncOutPulse
  /-- TZ_ASSERT (R177): A TZn input asserting after polarity and filter trips every generator that selects it. -/
  | tzAssert (tz : Fin 4) (level : Bool)
  /-- PWM_TRIP_CLR (R177): TRIP_CLR clears TRIP_STAT and the one-shot latch. -/
  | pwmTripClr (gen : Fin 12)
  /-- TZ_CLR (R184): TZ_CLR clears the sticky TZ status. -/
  | tzClr
  /-- SYNC_IN_EDGE (R180): A SYNC_IN edge loads t := SYNCI_PHASE on generators with SYNCI_EN. -/
  | syncInEdge (falling : Bool)
  /-- PWM_START (R180): A PWMC.START write starts the named generators on a common edge tick. -/
  | pwmStart (mask : BitVec 12)
  /-- GCOMMIT (R170): A PWMC.GCOMMIT write arms the commits of several generators. -/
  | gcommit (mask : BitVec 12)
  /-- CMPA_WRITE (R170): A write to CMPA, refused when SRC = 1, arms the commit when AUTOCOMMIT = 1. -/
  | cmpaWrite (gen : Fin 12) (data : Word)
  /-- PWM_CTRL_WRITE (R185): A write to PWMn.CTRL changes configuration in CONFIGURE, and EN = 0 stops the counter and forces the outputs off at once. -/
  | pwmCtrlWrite (gen : Fin 12) (data : Word)
  /-- PWM_STAT_CLR_FLAGS (R172): STAT_CLR bit 0 clears SPLIT_UPDATE and CLAMPED. -/
  | pwmStatClrFlags (gen : Fin 12)
  /-- PWM_STAT_CLR_COUNTERS (R185): STAT_CLR bit 1 clears the generator counters. -/
  | pwmStatClrCounters (gen : Fin 12)
  /-- ISLAND_COMMAND_RISE (R191): A rising command starts the turn-on sequence, DSAT charge and blanking, unless it is suppressed. -/
  | islandCommandRise (isl : Fin 8)
  /-- ISLAND_COMMAND_FALL (R191): A falling command starts the turn-off sequence. -/
  | islandCommandFall (isl : Fin 8)
  /-- ISLAND_BLOCK (R190): The island block asserting starts soft turn-off on a conducting island. -/
  | islandBlock (isl : Fin 8)
  /-- SOFT_TURN_OFF_END (R192): Soft turn-off ends when the gate falls below VEE + 2 V or SOFT_MAX elapses, and the Miller clamp closes. -/
  | softTurnOffEnd (isl : Fin 8) (gateLow : Bool)
  /-- ILK_HOLD_EXPIRE (R194): With HOLD = 1 the pair's interlock hold ends at the second E0 after the block. -/
  | ilkHoldExpire (pair : Fin 4)
  /-- ILK_CLR (R194): ILK_CLR releases an interlocked pair while neither command is high. -/
  | ilkClr (mask : BitVec 4)
  /-- ISLAND_LINK_TIMEOUT (R187): An island receiving no valid link frame for 200 ns turns off softly and latches a link fault. -/
  | islandLinkTimeout (isl : Fin 8)
  /-- LINK_REPORT_TIMEOUT (R187): The main die receiving no island report for 300 ns clears LINK_OK, logs the loss and may enter SAFE. -/
  | linkReportTimeout (isl : Fin 8)
  /-- BLANKING_END (R195): The end of blanking with the desaturation comparator still asserted starts soft turn-off, TYPE 2. -/
  | blankingEnd (isl : Fin 8)
  /-- DESAT_DETECT (R195): A desaturation assertion persisting 50 ns after blanking starts soft turn-off, TYPE 1. -/
  | desatDetect (isl : Fin 8)
  /-- HARD_FAULT (R196): The hard-fault comparator asserting starts soft turn-off at once, TYPE 3. -/
  | hardFault (isl : Fin 8)
  /-- ISL_FAULT_CLR (R197): ISLn.FAULT_CLR clears the fault latch when the cause is absent and the command is low. -/
  | islFaultClr (isl : Fin 8)
  /-- ISLC_FAULT_CLR (R199): ISLC.FAULT_CLR clears the first-fault record and the scope hold and re-arms capture. -/
  | islcFaultClr
  /-- UVLO_ENTRY (R200): An island supply entering undervoltage starts soft turn-off and latches TYPE 5 or 6. -/
  | uvloEntry (isl : Fin 8) (vee : Bool)
  /-- SUPPLY_GOOD (R200): A supply out of undervoltage for 100 µs is reported good. -/
  | supplyGood (isl : Fin 8) (vee : Bool)
  /-- NTC_CONVERSION (R201): Each millisecond the island converts its NTC and checks the warning and trip limits. -/
  | ntcConversion (isl : Fin 8) (raw : BitVec 10)
  /-- ISL_STAT_CLR (R204): ISLn.STAT_CLR clears the island fault counters. -/
  | islStatClr (isl : Fin 8)
  /-- ISL_CTRL_WRITE (R190): A write to ISLn.CTRL changes settings in CONFIGURE, and EN = 0 turns a conducting island off softly. -/
  | islCtrlWrite (isl : Fin 8) (data : Word)
  /-- ADC_TRIGGER (R207): A selected trigger source starts the sequence's delay, or is ignored and counted when the sequence is busy. -/
  | adcTrigger (adc : Fin 2) (inj : Bool)
  /-- ADC_SW_TRIG_REGULAR (R207): SW_TRIG bit 0 triggers the regular sequence. -/
  | adcSwTrigRegular (adc : Fin 2)
  /-- ADC_SW_TRIG_INJECTED (R207): SW_TRIG bit 1 triggers the injected sequence. -/
  | adcSwTrigInjected (adc : Fin 2)
  /-- ADC_TRIGGER_DELAY_END (R207): The trigger delay expires and the sequence becomes pending. -/
  | adcTriggerDelayEnd (adc : Fin 2) (inj : Bool)
  /-- ADC_CONVERSION_START (R208): A pending sequence entry starts on the next CK_ADC edge at which the converter is free, injected entries first. -/
  | adcConversionStart (adc : Fin 2)
  /-- ADC_CONVERSION_DONE (R209): A conversion result is written to LV, the queue, RESULT_LAST and INJ_RES, with open-wire and lateness checks. -/
  | adcConversionDone (adc : Fin 2) (code : BitVec 16)
  /-- ADC_ENABLE (R210): A write to ADCn.CTRL.EN enables the converter, or abandons the conversion in progress and clears pending sequences. -/
  | adcEnable (adc : Fin 2) (en : Bool)
  /-- ADC_CLEAR (R222): ADCn.CLEAR clears the converter counters. -/
  | adcClear (adc : Fin 2)
  /-- LV_SNAPSHOT (R211): On fabric tick 380 after E0 the LV registers are snapshotted, aged and optionally copied to Main SRAM. -/
  | lvSnapshot
  /-- Q_RD_WRITE (R212): A write to Q_RD advances the read index, or is refused when it would pass Q_WR. -/
  | qRdWrite (data : Word)
  /-- CMP_RAW_CHANGE (R215): A comparator's raw output changes and the filtered output follows, setting the latch on a rising edge. -/
  | cmpRawChange (cmp : Fin 16) (high low : Bool)
  /-- CMP_SAMPLED_DECISION (R216): A sampled comparator takes its decision at the end of its 2 µs window. -/
  | cmpSampledDecision (cmp : Fin 16) (high low : Bool)
  /-- CMP_LATCH_CLEAR (R217): Writing 1 to CMP.LATCH bit n releases the latch, which sets again if the output is still 1. -/
  | cmpLatchClear (mask : BitVec 16)
  /-- TRIP_MARKER_RECEIVED (R234): A recognised TRIP marker is reported, counted and forwarded, and the cell enters SAFE. -/
  | tripMarkerReceived (lane : Fin 16)
  /-- CODE_VIOLATION (R233): A forbidden run length is counted and reported to the ring block. -/
  | codeViolation (lane : Fin 16)
  /-- CDR_LOCK (R235): The receiver's frequency estimate settles and CDR_LOCK sets. -/
  | cdrLock (lane : Fin 16)
  /-- CDR_LOCK_LOSS (R235): 64 UI without a transition clear CDR_LOCK. -/
  | cdrLockLoss (lane : Fin 16)
  /-- LANE_SYNC (R236): 4,096 UI without a violation after CDR_LOCK set SYNC. -/
  | laneSync (lane : Fin 16)
  /-- EYE_SWEEP_END (R241): An eye sweep ends, FOM is written and checked against the warning and fail limits. -/
  | eyeSweepEnd (lane : Fin 16) (early late up down : Fin 33)
  /-- EYE_POINT_START (R240): EYE_CMD.START with EYE_MAN = 1 measures one eye point. -/
  | eyePointStart (lane : Fin 16) (data : Word)
  /-- EYE_POINT_DONE (R240): The manual eye point measurement completes and EYE_RES is written. -/
  | eyePointDone (lane : Fin 16) (disagree : BitVec 17)
  /-- ADAPT_DECISION (R243): At the E0 ending each adaptation interval the lane keeps or reverts a trial and starts the next one. -/
  | adaptDecision (lane : Fin 16)
  /-- TUNE_COMMAND_APPLY (R244): A received tune command naming the device changes TX_FFE at its next E0, or is refused and counted. -/
  | tuneCommandApply (lane : Fin 16)
  /-- PRBS_LOCK (R245): 64 consecutive matching bits lock the PRBS checker. -/
  | prbsLock (lane : Fin 16)
  /-- PRBS_INJECT_SINGLE (R245): PRBS_INJ.SINGLE inverts one transmitted bit. -/
  | prbsInjectSingle (lane : Fin 16)
  /-- PRBS_INJECT_BURST (R245): PRBS_INJ.BURST inverts LEN consecutive transmitted bits. -/
  | prbsInjectBurst (lane : Fin 16) (len : BitVec 8)
  /-- LANE_CTRL_WRITE (R226): A write to LANEn.CTRL changes the lane mode or polarity, and is refused on an owned lane. -/
  | laneCtrlWrite (lane : Fin 16) (data : Word)
  /-- LANE_CLEAR_COUNTERS (R247): LANEn.CLEAR bit 0 clears the lane counters. -/
  | laneClearCounters (lane : Fin 16)
  /-- LANE_CLEAR_PRBS (R247): LANEn.CLEAR bit 1 clears the PRBS counters. -/
  | laneClearPrbs (lane : Fin 16)
  /-- TRAIN_PASS (R249): A cell receives a train, checks the header and HOP, reads its Imperative part, writes its Indicative part and any Interrogative response, and forwards or turns the train round. -/
  | trainPass (port : Fin 8) (bytes : List (BitVec 8)) (drift : BitVec 16)
  /-- TRAIN_RETURN (R259): The returning train is checked at the serving end and its Indicative parts and responses are taken for the next E0. -/
  | trainReturn (ring : Fin 8) (bytes : List (BitVec 8))
  /-- RING_ENABLE (R265): RINGn.CFG.EN sets the ring's lanes to SERVICE and OWNED and starts linking. -/
  | ringEnable (ring : Fin 8) (data : Word)
  /-- RING_LINKED (R265): The ring's links come up and STATE becomes LINKED. -/
  | ringLinked (ring : Fin 8)
  /-- RING_TRAIN (R262): CMD.TRAIN starts hop measurement and delay computation along the ring. -/
  | ringTrain (ring : Fin 8)
  /-- TRAINING_DONE (R265): Training ends TRAINED with delays written, or FAILED with TRAIN_RESULT. -/
  | trainingDone (ring : Fin 8) (cells : List CellFound) (hN : BitVec 32) (fault : Option (TrainFault × Fin 97))
  /-- RING_REJOIN (R270): CMD.REJOIN trains the repaired hop and returns the ring to whole-ring service. -/
  | ringRejoin (ring : Fin 8)
  /-- REJOIN_DONE (R270): The rejoin completes with whole-ring trains from the A end, or leaves the ring in SPLIT. -/
  | rejoinDone (ring : Fin 8) (h : BitVec 32) (cells : List (Fin 96 × CellFound)) (fault : Option (TrainFault × Fin 97))
  /-- IQ_REQUEST (R274): IQ_CTRL.GO places one Interrogative request in the next departing train. -/
  | iqRequest (ring : Fin 8) (target : BitVec 8) (op : BitVec 2)
  /-- IQ_ABORT (R278): CMD.IQ_ABORT clears BUSY with RESULT 0. -/
  | iqAbort (ring : Fin 8)
  /-- RING_CLEAR (R278): RINGn.CLEAR clears the ring counters and RET_MAX. -/
  | ringClear (ring : Fin 8)
  /-- CELL_ADMIT (R271): ADMIT takes a FOUND entry to READY. -/
  | cellAdmit
  /-- CELL_RETIRE (R271): RETIRE takes an entry to ABSENT. -/
  | cellRetire
  /-- CELL_BYPASS (R271): BYPASS sets the entry's BYPASSED flag and CMD.BYPASS. -/
  | cellBypass
  /-- CELL_UNBYPASS (R271): UNBYPASS clears the entry's BYPASSED flag and CMD.BYPASS. -/
  | cellUnbypass
  /-- CELL_LOST (R271): An entry whose AGE exceeds STALE_AGE becomes LOST. -/
  | cellLost (cell : Fin 768)
  /-- DIGEST_EVALUATE (R282): The cell re-evaluates DIGEST_OK within 1 ms of a change to the announced or calculated digest. -/
  | digestEvaluate
  /-- BYPASS_ASSERT (R293): After every gate is off and BYP_DELAY has elapsed the cell asserts PWM11A. -/
  | bypassAssert
  /-- BYPASS_TIMEOUT (R293): SWIN7 not reporting closed within BYP_TIMEOUT latches FAULT code 0x80. -/
  | bypassTimeout
  /-- BYPASS_FEEDBACK (R293): A change on SWIN7 updates BYPASSED, or latches 0x81 if the bypass opens without command. -/
  | bypassFeedback (level : Bool)
  /-- CELL_FAULT_CLR (R292): CELL.FAULT_CLR clears the FAULT code outside ARMED and RUN with every cause absent. -/
  | cellFaultClr
  /-- BYP_CLR (R293): BYP_CLR clears AUTO_HELD. -/
  | bypClr
  /-- CELL_CLEAR (R296): CELL.CLEAR clears the cell counters. -/
  | cellClear
  /-- STUCK_DETECT (R298): A modulator bit unchanged for 256 clock cycles marks the channel stuck. -/
  | stuckDetect (ch : Fin 24)
  /-- CYCLE_END (R310): At each tracked cycle boundary the point computes its cycle quantities, energies and range decisions. -/
  | cycleEnd (point : Fin 3) (c : CycleIn)
  /-- RANGE_SWITCH_HIGH (R309): A high-channel sample above 0.8 × L changes the pair to its high range at once. -/
  | rangeSwitchHigh (point : Fin 2) (pair : Fin 4) (x : Word) (first : Bool)
  /-- ENERGY_CLR (R315): E_CMD.CLR with key 0xE5 clears all accumulators. -/
  | energyClr (point : Fin 3) (key : BitVec 8)
  /-- ENERGY_LOAD (R315): E_CMD.LOAD copies eighteen accumulator words from Main SRAM. -/
  | energyLoad (point : Fin 3)
  /-- HARMONIC_WINDOW (R317): At the end of each W-cycle window the harmonic buffer is written and HARM_SEQ increments. -/
  | harmonicWindow (point : Fin 3) (start : BitVec 64) (freq : Word) (bins : List (List Word))
  /-- PQ_AGGREGATE (R322): At each W-cycle window PQ writes U_AGG and FLAG. -/
  | pqAggregate (u0 u1 u2 : Word)
  /-- PQ_FREQ10 (R322): Every 10 s of plant time PQ writes FREQ10. -/
  | pqFreq10
  /-- PHASOR_REPORT (R318): At each reporting instant the point estimates and writes synchrophasors. -/
  | phasorReport (point : Fin 3) (n : BitVec 7) (p : PhasorIn)
  /-- PQ_REFRESH (R320): At each half-cycle refresh PQ evaluates dips, swells and interruptions. -/
  | pqRefresh (now : BitVec 64) (u0 u1 u2 : Word)
  /-- EV_RD_WRITE (R321): A write to EV_RD acknowledges event records. -/
  | evRdWrite (data : Word)
  /-- GCURVE_POINT_FIRE (R334): A Guard curve point timer exceeding TIME fires its stage. -/
  | gcurvePointFire (stage : Fin 16) (point : Fin 8)
  /-- GUARD_REQUEST_FIRE (R335): A RIDE, ISLD or transfer-trip request held for its REQ_DELAY fires. -/
  | guardRequestFire (req : Fin 3)
  /-- HEARTBEAT_TIMEOUT (R333): HEARTBEAT unchanged, or no link frame, for HB_T fires function 19. -/
  | heartbeatTimeout
  /-- GUARD_MEAS_LOST (R332): A Guard channel without clock edges for 10 µs or stuck for 256 cycles fires function 20. -/
  | guardMeasLost (channel : Fin 4)
  /-- GTRIP_READBACK_FAULT (R330): A GTRIP ball disagreeing with its command for 50 µs fires function 25. -/
  | gtripReadbackFault (ball : Fin 4)
  /-- TP_READBACK_FAULT (R344): A GTP readback differing from its command for 50 µs sets FAULT.TP and fires function 24. -/
  | tpReadbackFault
  /-- TRIP_RESET (R338): TRIP_RESET with key 0x47 clears the trip latch and releases the block line when permitted. -/
  | tripReset (key : BitVec 8)
  /-- TEST_PULSE (R341): GTP0 and GTP1 emit their 400 µs test pulses every 200 ms. -/
  | testPulse (gtp : Bool) (level : Bool)
  /-- SAFETY_INPUT_CHANGE (R342): A filtered safety channel change is judged as a demand, or as a cross-short. -/
  | safetyInputChange (input : Fin 3) (channelB : Bool) (closed : Bool)
  /-- ESTOP_DELAY_EXPIRE (R342): ESTOP_DELAY after an ESTOP demand the mapped GTRIP outputs release. -/
  | estopDelayExpire
  /-- DISCREPANCY (R343): The two channels of an input differing for longer than DISC_T set FAULT and fire function 24. -/
  | discrepancy (input : Fin 3)
  /-- SAFETY_FAULT_CLR (R343): GSAFE.FAULT_CLR clears an input fault after the open-and-close proof. -/
  | safetyFaultClr (data : Word)
  /-- SEAL_SWITCH_CHANGE (R347): A debounced change of SEAL0-15 is logged and counted. -/
  | sealSwitchChange (pattern : BitVec 16)
  /-- OPEN_CHANGE (R348): GSEAL CMD 1 with valid authorisation opens a profile-change session. -/
  | openChange (key : BitVec 8)
  /-- OPEN_RESTORE (R348): GSEAL CMD 2 with valid authorisation opens a restore session. -/
  | openRestore (key : BitVec 8)
  /-- BURN (R349): GSEAL CMD 3 burns the staged digest into the next free slot. -/
  | burn (key : BitVec 8)
  /-- BURN_DONE (R349): The slot burn completes with verification, and the staged profile becomes active. -/
  | burnDone (verified : Bool)
  /-- SEAL_ABORT (R349): GSEAL CMD 4 closes the session without effect. -/
  | sealAbort (key : BitVec 8)
  /-- SEAL_SESSION_TIMEOUT (R349): A seal session closes without effect after 600 s. -/
  | sealSessionTimeout
  /-- PTP_SYNC_RECEIVE (R365): A PTP Sync message is timestamped and, for a one-step master, yields an offset sample. -/
  | ptpSyncReceive (f : RxFrame) (m : PtpIn)
  /-- PTP_FOLLOW_UP_RECEIVE (R365): A Follow_Up completes a two-step offset sample. -/
  | ptpFollowUpReceive (f : RxFrame) (m : PtpIn)
  /-- PDELAY_REQ_RECEIVE (R364): A received Pdelay_Req is answered one-step or two-step. -/
  | pdelayReqReceive (f : RxFrame) (seq : BitVec 16)
  /-- PDELAY_RESP_RECEIVE (R365): A Pdelay response updates the port's mean path delay. -/
  | pdelayRespReceive (f : RxFrame) (m : PdelayIn)
  /-- ANNOUNCE_RECEIVE (R365): An Announce updates the best-master selection and UTC offset. -/
  | announceReceive (f : RxFrame) (a : AnnounceIn)
  /-- ANNOUNCE_TIMEOUT (R365): No Announce for three intervals times out the master. -/
  | announceTimeout (port : Bool)
  /-- PDELAY_REQ_TX (R364): Each second a Pdelay_Req is sent on each port in service. -/
  | pdelayReqTx (port : Bool)
  /-- STATION_FRAME_RECEIVE (R363): A received station frame is filtered, de-duplicated or forwarded, and delivered to the host ring. -/
  | stationFrameReceive (f : RxFrame)
  /-- GOOSE_RECEIVE (R366): A GOOSE frame is matched to subscriptions and accepted values update the destinations. -/
  | gooseReceive (f : RxFrame) (g : GooseIn)
  /-- GOOSE_STALE (R367): A subscription's supervision timer expires and the entry becomes STALE with its fail value. -/
  | gooseStale (slot : Fin 64)
  /-- GOOSE_PUBLISH (R368): A change of a publisher's source bits increments stNum and sends at once. -/
  | goosePublish (pub : Fin 8)
  /-- GOOSE_RETRANSMIT (R368): A publisher's retransmission interval expires and the frame is resent with sqNum incremented. -/
  | gooseRetransmit (pub : Fin 8)
  /-- SUB_CREATE (R366): SUB_CMD CREATE allocates a subscription slot with a class-5 handle. -/
  | subCreate (slot : Option (Fin 64))
  /-- SUB_DESTROY (R366): SUB_CMD DESTROY frees a subscription slot. -/
  | subDestroy
  /-- SV_FRAME (R369): Every two sample instants an SV frame with two ASDUs of MET0 is sent. -/
  | svFrame (n : Fin 2400) (a b : List Word)
  /-- STATION_LINK_CHANGE (R357): A station link going up or down, or failing negotiation, is recorded. -/
  | stationLinkChange (port : Bool) (e : StnLink)
  /-- TX_HEAD_WRITE (R362): Advancing TX_HEAD gives the device descriptors to send. -/
  | txHeadWrite (port : Bool) (data : Word)
  /-- TX_FRAME_DONE (R362): A host frame has been sent and its descriptor is written back with DONE. -/
  | txFrameDone (port : Bool)
  /-- RX_TAIL_WRITE (R362): Advancing RX_TAIL returns consumed receive descriptors. -/
  | rxTailWrite (port : Bool) (data : Word)
  /-- PRP_SUPERVISION_TX (R360): A PRP supervision frame is sent every LIFE_CHECK. -/
  | prpSupervisionTx
  /-- DD_ENTRY_EXPIRE (R360): A discard-table entry is forgotten after DD_TIME. -/
  | ddEntryExpire
  /-- STN_CLEAR (R373): STNn.CLEAR clears the port error counters. -/
  | stnClear (port : Bool)
  /-- PRP_CLEAR (R374): PRP.CLEAR clears the redundancy counters. -/
  | prpClear
  /-- PTP_CLEAR (R375): PTP.CLEAR clears the PTP counters. -/
  | ptpClear
  /-- GOOSE_CLEAR (R376): GOOSE.CLEAR clears the subscription counters. -/
  | gooseClear
  /-- SV_CLEAR (R377): SV.CLEAR clears OVF_CNT. -/
  | svClear
  /-- KEEPER_WAKE (R378): Once per second the Keeper regulators wake, measure the store, update KPG and state, and admit pending bursts. -/
  | keeperWake (store : BitVec 13) (temp : BitVec 16) (harvest : Word) (vddio : Bool)
  /-- CHARGER_STAGE_CHANGE (R379): The Cistern charger moves between trickle, constant current, constant voltage and stop. -/
  | chargerStageChange (stage : ChargeStage)
  /-- CISTERN_CUTOFF (R379): The Cistern falling below 2.90 V is disconnected. -/
  | cisternCutoff
  /-- GRID_RETURN_SAMPLE (R388): Every INTERVAL the Keeper samples AIN14 and AIN15 and confirms grid return or loss. -/
  | gridReturnSample (a14 a15 : Bool)
  /-- BURST_BROWNOUT_CHECK (R383): During a burst the store is checked every 100 µs and the burst is aborted below the brown-out level. -/
  | burstBrownoutCheck (store : BitVec 13) (frame : Fin 8)
  /-- BURST_END (R389): A beacon burst completes, updates LAST_DV and raises an interrupt. -/
  | burstEnd (store : BitVec 13)
  /-- BEACON_PERIOD_EXPIRE (R389): Every PERIOD seconds a periodic burst falls due. -/
  | beaconPeriodExpire
  /-- BEACON_SEND (R389): BEACON_CMD.SEND makes a burst pending. -/
  | beaconSend
  /-- RTC_SECOND (R384): At each whole second the RTC is loaded from plant time when RTC_SYNC is set and time is trusted. -/
  | rtcSecond
  /-- WAKE_CLR (R388): WAKE_CLR releases KWAKE until the next grid return. -/
  | wakeClr
  /-- KEEP_CLEAR (R391): KEEP.CLEAR clears the Keeper counters. -/
  | keepClear
  /-- IDM_SCAN (R393): IDM.CMD.SCAN reads every module and record identity. -/
  | idmScan
  /-- IDM_POLL (R393): Every POLL seconds the present modules' diagnostics are read and presence is checked. -/
  | idmPoll (modules : List (Option (List Byte))) (records : BitVec 16)
  /-- IDM_READ_DONE (R394): An identity read completes, is copied to Main SRAM, checked, and applied or held. -/
  | idmReadDone (r : IdmRead)
  /-- HALL_EDGE (R399): A filtered Hall state change updates position, speed and commutation. -/
  | hallEdge (port : Fin 2) (h : BitVec 3)
  /-- HALL_STALL (R401): No Hall edge for STALL_T sets SPEED to 0 and STALLED. -/
  | hallStall (port : Fin 2)
  /-- AUXP_CLEAR (R405): P[q].CLEAR clears the port counters. -/
  | auxpClear (port : Fin 2)
  /-- LOG_PERSIST_WRITE (R408): A persistent-class entry is stored in the Keeper ring within 300 µs, or counted as failed. -/
  | logPersistWrite
  /-- VOL_RD_WRITE (R409): A write to VOL_RD acknowledges volatile log entries. -/
  | volRdWrite (data : Word)
  /-- LOG_CLEAR (R415): LOG.CLEAR clears LOST_CNT and P_FAIL_CNT. -/
  | logClear
  /-- SCRUB_STEP (R411): Every 12,807 fabric ticks one memory word is scrubbed and corrected. -/
  | scrubStep (ecc : Ecc)
  /-- TEMP_SAMPLE (R413): Each second the die temperature is sampled and the excursion counters are updated. -/
  | tempSample (tj : BitVec 16)
  /-- AGEING_RECORD (R413): Every 86,400 s a class-9 entry with the excursion counts is written. -/
  | ageingRecord
  /-- AGE_LOAD (R413): AGE_CMD.LOAD loads the excursion counts in CONFIGURE. -/
  | ageLoad
  /-- RO_MEASURE (R414): Every 60 s the ring-oscillator drift is measured against the factory value. -/
  | roMeasure (drift : Word)
  /-- TEST_CLEAR_ERRORS (R416): TEST.CLEAR bit 0 clears the ECC counters and addresses. -/
  | testClearErrors
  /-- TEST_CLEAR_LANE_MIN (R416): TEST.CLEAR bit 1 sets every LANE_MIN to 0xFF. -/
  | testClearLaneMin
  /-- HOST_READ (R23): A host read whose address bits are bad, or whose Main SRAM word holds an uncorrectable error, returns its data and records a bus error and, for the memory error, a log entry. -/
  | hostRead (ad : Word) (ecc : Ecc)
  /-- GATE_OFF (R193): After an ordinary turn-off, the gate sensed at ISn_CLMP falls below ISn_VEE + 2.0 V, so GATE_OFF sets and the Miller clamp closes. -/
  | gateOff (isl : Fin 8)
  /-- BLANK_ARM (R195): A desaturation assertion during blanking arms the island, counts in BLANK_ARM_CNT and sets IRQ_RAW bit 6, and the island disarms if the assertion ends before blanking ends. -/
  | blankArm (isl : Fin 8) (asserted : Bool)
  /-- PRBS_ERROR (R245): A checked PRBS bit in error is counted and sets IRQ_RAW bit 5 on the first error, and 64 errors within 1,024 UI clear LOCK and reload the checker. -/
  | prbsError (lane : Fin 16)
  /-- STUCK_CLEAR (R298): The next transition on a stuck modulator channel clears its STUCK_NOW bit and the point's STAT.STUCK. -/
  | stuckClear (ch : Fin 24)
  /-- ISLAND_LINK_RETURN (R187): Valid island reports resume on the isolator link, and LINK_OK is set again in ISLC.LINK_STAT and ISLn.STAT. -/
  | islandLinkReturn (isl : Fin 8)
  /-- GUARD_RESET_RELEASE (R56): VDDG returns and the Guard leaves reset, reverifies its profile and releases or holds the block line accordingly. -/
  | guardResetRelease
  deriving DecidableEq, Repr

end Sys2Proof
end

