-- ==== Sys2Proof/Decode.lean ====
section
/-! DEFINITION. Commands spelled as words. No row of spec/opcode_table.json gives bits to a command (every row's field list is empty): the
commands reach the block as accesses and events, not as words. So no word spells one. -/
namespace Sys2Proof

/-- The command that the `nbits` bits of `w` spell by the table: none, for no row of the table gives bits. -/
def decodeTableWord (_nbits _w : Nat) : Option Instr := none

end Sys2Proof
end

