-- ==== Sys2Proof/Config.lean ====
section
/-! DEFINITION. What one device fixes outside its registers, and the free values: constants without a body, so that nothing can
be proved of a value the spec leaves open. -/
namespace Sys2Proof.Config

/-- FREE VALUE number `n`: used, in the order the machine needs them, wherever the spec lets an operation end in a value it does
not state. State.freeCtr counts the uses. -/
opaque freeWord : Nat → Word

/-- The 64-bit unique ID held in OTP (R44). -/
opaque uid : BitVec 64
/-- The device key held in OTP: the key of every HMAC (R42, R44, R348). -/
opaque deviceKey : List Byte
/-- ID.REVISION: the revisions of the silicon (R44). -/
opaque revision : Word
/-- ID.OTP_STAT bits other than PARITY_ERR (R44). -/
opaque otpStat : Word
/-- ID.RO_FACTORY (R44). -/
opaque roFactory : Word
/-- ID.TS_TRIM (R44). -/
opaque tsTrim : Word
/-- The factory band table of the root PLL, entry n of 32 (R61). -/
opaque band : Nat → Word
/-- The Guard's seal nonce number `n` (R348: renewed after every refusal, session end and reset). -/
opaque nonce : Nat → BitVec 64

/-- Which of the floats within 1 ulp of 1/a the device gives for operand word a (R82; the same on every device, R80). -/
opaque rcpPick : Word → Nat
/-- Which of the floats within 2 ulp of 1/√a the device gives for operand word a (R82). -/
opaque rsqPick : Word → Nat
/-- The word WRAP writes for a finite operand word a and b = +∞, for which R82 states no value. -/
opaque wrapInf : Word → Word

/-- The sign of MIN (false) or MAX (true) of two zeros of unlike sign, the first with the sign given: R82 states none. -/
opaque zeroSign : Bool → Bool → Bool

/-- SIN_T and COS_T of a THETA word (Sump words 9 and 10): the spec gives them no accuracy. -/
opaque sinOf : Word → Word
opaque cosOf : Word → Word

/-- M_A and M_B: the serialiser offsets of the marks at the A and B ends of ring n, in 1/64 UI, known to the device (R262). -/
opaque markA : Nat → Int
opaque markB : Nat → Int
/-- The cosine of an angle in turns of 2^−32 as the device computes it (R287: correct to 2 × 10^−5). -/
opaque cosPick : Word → Word

end Sys2Proof.Config
end

