-- ==== Sys2Proof/Machine/Bits.lean ====
section
/-! DEFINITION. Bit fields of register words ([msb:lsb], bit 0 least significant, spec/00_scope.md), saturating counters, signed
fields and little-endian byte order. -/
namespace Sys2Proof.Machine

/-- Field of `len` bits of `w` from bit `lo`. -/
def fld (w : Word) (lo len : Nat) : Nat := (w.toNat >>> lo) % 2 ^ len

/-- Bit `i` of `w`. -/
def bit (w : Word) (i : Nat) : Bool := w.getLsbD i

/-- `w` with its field of `len` bits from bit `lo` replaced by `v` (cut to `len` bits). -/
def putFld (w : Word) (lo len v : Nat) : Word :=
  BitVec.ofNat 32 (w.toNat - fld w lo len * 2 ^ lo + v % 2 ^ len * 2 ^ lo)

/-- `w` with bit `i` set to `b`. -/
def putBit (w : Word) (i : Nat) (b : Bool) : Word := putFld w i 1 (if b then 1 else 0)

/-- A truth value as a number. -/
def b2n (b : Bool) : Nat := if b then 1 else 0

/-- `a` with the bits of `mask` taken from `b`. -/
def mergeMask (mask a b : Word) : Word := (a &&& ~~~mask) ||| (b &&& mask)

/-- A field of `len` bits read as a signed number. -/
def signedFld (w : Word) (lo len : Nat) : Int :=
  let v := fld w lo len
  if 2 ^ len ≤ 2 * v then (v : Int) - (2 ^ len : Nat) else v

/-- The signed value of a word. -/
def sint (w : Word) : Int := w.toInt

/-- A number cut to 32 bits. -/
def w32 (n : Nat) : Word := BitVec.ofNat 32 n

/-- A signed number as a word, modulo 2^32. -/
def wInt (i : Int) : Word := BitVec.ofInt 32 i

/-- `n` held within `lo` to `hi`. -/
def clampI (lo hi n : Int) : Int := if n < lo then lo else if hi < n then hi else n

/-- A count of `len` bits one higher, holding at its largest value. -/
def satInc (len n : Nat) : Nat := if n + 1 < 2 ^ len then n + 1 else 2 ^ len - 1

/-- The largest value of a saturating count of `len` bits. -/
def satAdd (len n k : Nat) : Nat := if n + k < 2 ^ len then n + k else 2 ^ len - 1

/-- `n` as `k` bytes, least significant first (spec/00_scope.md: multi-byte fields are little-endian). -/
def leBytes : Nat → Nat → List Byte
  | 0, _ => []
  | k + 1, n => BitVec.ofNat 8 n :: leBytes k (n / 256)

/-- The number whose little-endian bytes are given. -/
def leNat : List Byte → Nat
  | [] => 0
  | b :: bs => b.toNat + 256 * leNat bs

/-- `n` as `k` bytes, most significant first. -/
def beBytes (k n : Nat) : List Byte := (leBytes k n).reverse

/-- The number whose big-endian bytes are given. -/
def beNat (bs : List Byte) : Nat := leNat bs.reverse

/-- The bit mask with the low `n` bits set. -/
def lowMask (n : Nat) : Word := w32 (2 ^ n - 1)

/-- Number of set bits among the low `n` of `v`. -/
def popCount : Nat → Nat → Nat
  | 0, _ => 0
  | n + 1, v => v % 2 + popCount n (v / 2)

end Sys2Proof.Machine
end

