-- ==== Sys2Proof/Machine/Fp.lean ====
section
/-! DEFINITION. The Pump's binary32 arithmetic (R80): operands flushed when subnormal, one rounding to nearest even as though the
exponent were unbounded, NaN written as +0.0 and infinity as ±3.4028235e38, each flagged for its counter. Values between
operations are exact: a sign, a natural mantissa and an exponent. -/
namespace Sys2Proof.Machine

/-- A value between operations: a NaN, an infinity, or ± mant × 2^exp (a signed zero when mant = 0). -/
inductive FVal where
  | nan
  | inf (neg : Bool)
  | fin (neg : Bool) (mant : Nat) (exp : Int)
  deriving DecidableEq, Repr

/-- A result as written: the word, and whether it was a NaN or an infinity (R80). -/
structure FRes where
  w : Word
  nan : Bool
  ofl : Bool
  deriving DecidableEq, Repr

/-- The value of an operand word; a subnormal is a zero of its sign (R80). -/
def fdec (w : Word) : FVal :=
  let s := bit w 31
  let e := fld w 23 8
  let f := fld w 0 23
  if e = 255 then (if f = 0 then .inf s else .nan)
  else if e = 0 then .fin s 0 0
  else .fin s (2 ^ 23 + f) ((e : Int) - 150)

/-- Number of bits of a natural number. -/
def nbits (n : Nat) : Nat := if n = 0 then 0 else Nat.log2 n + 1

/-- `m` divided by 2^k, rounded to nearest, ties to even. -/
def rneShift (m k : Nat) : Nat :=
  let q := m >>> k
  let r := m % 2 ^ k
  if 2 * r < 2 ^ k then q else if 2 ^ k < 2 * r then q + 1 else q + q % 2

/-- A mantissa and exponent brought to 24 bits, rounded to nearest even (exponent unbounded). -/
def round24 (m : Nat) (e : Int) : Nat × Int :=
  let n := nbits m
  if n ≤ 24 then (m * 2 ^ (24 - n), e - (24 - n : Nat))
  else
    let q := rneShift m (n - 24)
    if q = 2 ^ 24 then (2 ^ 23, e + (n - 24 : Nat) + 1) else (q, e + (n - 24 : Nat))

/-- A value rounded once to binary32: overflow gives an infinity, a rounded magnitude below 2^−126 a zero of its sign (R80). -/
def fround (v : FVal) : FVal :=
  match v with
  | .nan => .nan
  | .inf s => .inf s
  | .fin s m e =>
    if m = 0 then .fin s 0 0
    else
      let (q, x) := round24 m e
      if 104 < x then .inf s else if x < -149 then .fin s 0 0 else .fin s q x

/-- The word of a sign. -/
def signWord (s : Bool) : Word := if s then 0x80000000 else 0

/-- A rounded value as written (R80). -/
def fenc (v : FVal) : FRes :=
  match fround v with
  | .nan => ⟨0, true, false⟩
  | .inf s => ⟨signWord s ||| 0x7F7FFFFF, false, true⟩
  | .fin s m e => if m = 0 then ⟨signWord s, false, false⟩
    else ⟨signWord s ||| w32 ((e + 150).toNat * 2 ^ 23 + (m - 2 ^ 23)), false, false⟩

/-- The signed integer mantissas of two finite values over a common exponent. -/
def falign (s1 : Bool) (m1 : Nat) (e1 : Int) (s2 : Bool) (m2 : Nat) (e2 : Int) : Int × Int × Int :=
  let e := min e1 e2
  let a : Int := (m1 * 2 ^ (e1 - e).toNat : Nat)
  let b : Int := (m2 * 2 ^ (e2 - e).toNat : Nat)
  ((if s1 then -a else a), (if s2 then -b else b), e)

/-- The exact sum; a zero sum of unlike signs is +0 (round to nearest). -/
def fadd (x y : FVal) : FVal :=
  match x, y with
  | .nan, _ => .nan
  | _, .nan => .nan
  | .inf s, .inf t => if s = t then .inf s else .nan
  | .inf s, .fin _ _ _ => .inf s
  | .fin _ _ _, .inf t => .inf t
  | .fin s1 m1 e1, .fin s2 m2 e2 =>
    let (a, b, e) := falign s1 m1 e1 s2 m2 e2
    let c := a + b
    if c = 0 then .fin (s1 && s2 && decide (m1 = 0)) 0 0 else .fin (decide (c < 0)) c.natAbs e

/-- The exact product. -/
def fmul (x y : FVal) : FVal :=
  match x, y with
  | .nan, _ => .nan
  | _, .nan => .nan
  | .inf s, .inf t => .inf (s != t)
  | .inf s, .fin t m _ => if m = 0 then .nan else .inf (s != t)
  | .fin s m _, .inf t => if m = 0 then .nan else .inf (s != t)
  | .fin s m e, .fin t n f => .fin (s != t) (m * n) (e + f)

/-- The value with its sign changed. -/
def fneg (x : FVal) : FVal :=
  match x with
  | .nan => .nan
  | .inf s => .inf (!s)
  | .fin s m e => .fin (!s) m e

/-- The magnitude. -/
def fabs (x : FVal) : FVal :=
  match x with
  | .nan => .nan
  | .inf _ => .inf false
  | .fin _ m e => .fin false m e

/-- Fused multiply-add, not yet rounded. -/
def ffma (a b c : FVal) : FVal := fadd (fmul a b) c

/-- `x < y`; none when either is a NaN. -/
def flt (x y : FVal) : Option Bool :=
  match x, y with
  | .nan, _ => none
  | _, .nan => none
  | .inf s, .inf t => some (s && !t)
  | .inf s, .fin _ _ _ => some s
  | .fin _ _ _, .inf t => some (!t)
  | .fin s1 m1 e1, .fin s2 m2 e2 =>
    let (a, b, _) := falign s1 m1 e1 s2 m2 e2
    some (decide (a < b))

/-- `x = y`; +0 equals −0; none when either is a NaN. -/
def feq (x y : FVal) : Option Bool :=
  match flt x y, flt y x with
  | some a, some b => some (!a && !b)
  | _, _ => none

/-- Zeros of unlike sign: the sign of the first. -/
def unlikeZeros : FVal → FVal → Option Bool
  | .fin s m _, .fin t n _ => if m = 0 ∧ n = 0 ∧ s ≠ t then some s else none
  | _, _ => none

/-- min(x, y) (R82). Which zero it is of zeros of unlike sign the spec does not say: a free value. -/
def fmin (x y : FVal) : FVal :=
  match flt y x, unlikeZeros x y with
  | none, _ => .nan
  | some _, some s => .fin (Config.zeroSign false s) 0 0
  | some c, none => if c then y else x

/-- max(x, y) (R82), with the same free value. -/
def fmax (x y : FVal) : FVal :=
  match flt x y, unlikeZeros x y with
  | none, _ => .nan
  | some _, some s => .fin (Config.zeroSign true s) 0 0
  | some c, none => if c then y else x

/-- x − b × floor(x / b) for finite values with b > 0, exact; the sign of the result is positive. -/
def fmodPos (s1 : Bool) (m1 : Nat) (e1 : Int) (m2 : Nat) (e2 : Int) : FVal :=
  let (a, b, e) := falign s1 m1 e1 false m2 e2
  .fin false (a % b).toNat e

/-- WRAP (R82): d = a for b ≤ 0; the rounded result equal to b is +0.0. An infinite b with a finite a has no stated result: the free
value is given by `fr`. -/
def fwrap (a b : FVal) (fr : Word) : FRes :=
  match a, b with
  | .nan, _ => fenc .nan
  | _, .nan => fenc .nan
  | _, .inf t => if t then fenc a else match a with
      | .fin _ _ _ => ⟨fr, false, false⟩
      | _ => fenc .nan
  | .inf s, .fin t n _ => if t || decide (n = 0) then fenc (.inf s) else fenc .nan
  | .fin s m e, .fin t n f =>
    if t || decide (n = 0) then fenc a
    else
      let r := fenc (fmodPos s m e n f)
      if r.w = (fenc b).w then ⟨0, false, false⟩ else r

/-- The floats within `u` units in the last place of a positive value, counted in halves of that unit: `n` is the value truncated, 25
bits long, and `exact` says that nothing was cut. Below 2^24 halves the floats lie twice as close, from 2^25 on half as close. -/
def withinUlps (n : Nat) (exact : Bool) (u : Nat) : List Nat :=
  ((List.range (4 * u + 1)).map (· + n - 2 * u)).filter (fun m =>
    (exact || decide (n - 2 * u < m)) && (decide (m < 2 ^ 24) || (decide (m % 2 = 0) && (decide (m < 2 ^ 25) || decide (m % 4 = 0)))))

/-- One of those floats, by a free choice. -/
def pickUlps (v : Nat × Int × Bool) (shift : Int) (u choice : Nat) : FVal :=
  let l := withinUlps v.1 v.2.2 u
  .fin false (l.getD (choice % l.length) v.1) (v.2.1 + shift)

/-- 1/a for a finite non-zero mantissa: truncated to 25 bits, and whether that is exact. -/
def rcpTrunc (m : Nat) : Nat × Int × Bool :=
  -- 2^k / m with k so that the quotient has 25 bits
  let n := nbits m
  let k := n + 24
  let q := 2 ^ k / m
  if q < 2 ^ 25 then (q, -(k : Int), decide (2 ^ k % m = 0)) else (q / 2, -(k : Int) + 1, decide (2 ^ k % m = 0 ∧ q % 2 = 0))

/-- RCP within 1 ulp (R82): one of the floats that lie within one unit in the last place of 1/a, the same for the same operand on every
device (R80); which one is the free value Config.rcpPick. -/
def frcp (w : Word) : FRes :=
  match fdec w with
  | .nan => fenc .nan
  | .inf s => ⟨signWord s, false, false⟩
  | .fin s m e =>
    if m = 0 then fenc (.inf s)
    else
      let r := fenc (pickUlps (rcpTrunc m) (-e) 1 (Config.rcpPick w))
      { r with w := r.w ||| signWord s }

/-- 1/√a for a positive value: truncated to 25 bits, and whether that is exact. -/
def rsqTrunc (m : Nat) (e : Int) : Nat × Int × Bool :=
  -- make the exponent even, then take isqrt(2^(2k) / m)
  let (m1, e1) := if e % 2 = 0 then (m, e) else (2 * m, e - 1)
  let k := nbits m1 + 24
  let q := Nat.sqrt (2 ^ (2 * k) / m1)
  let d := nbits q - 25
  (q / 2 ^ d, (d : Int) - k - e1 / 2, decide (q % 2 ^ d = 0 ∧ q * q * m1 = 2 ^ (2 * k)))

/-- RSQ within 2 ulp (R82), the choice free as for RCP. -/
def frsq (w : Word) : FRes :=
  match fdec w with
  | .nan => fenc .nan
  | .inf s => if s then fenc .nan else ⟨0, false, false⟩
  | .fin s m e =>
    if m = 0 then fenc (.inf s)
    else if s then fenc .nan
    else fenc (pickUlps (rsqTrunc m e) 0 2 (Config.rsqPick w))

/-- 1/2π held to 64 significant bits: this integer × 2^−66, the nearest such value (R82). -/
def invTwoPi : Nat := 0xA2F9836E4E44152A

/-- x = 1,024 × frac(a/2π) truncated to 24 fractional bits, as an integer of 34 bits (R82). -/
def tluIndex (s : Bool) (m : Nat) (e : Int) : Nat :=
  -- a × (1/2π) = ± m × invTwoPi × 2^(e − 66); scaled by 2^34 and floored after frac
  let p : Int := if s then -((m * invTwoPi : Nat) : Int) else (m * invTwoPi : Nat)
  let sh := e - 66
  if 0 ≤ sh then 0
  else
    let k := (-sh).toNat
    ((p % (2 ^ k : Nat)).toNat * 2 ^ 34) / 2 ^ k

/-- T[k] + f × (T[k+1] − T[k]) with difference and product exact, rounded once by the caller; f in units of 2^−24 (R82). -/
def tluLerp (t0 t1 : FVal) (f : Nat) : FVal := fadd t0 (fmul (.fin false f (-24)) (fadd t1 (fneg t0)))

/-- F2I: to nearest even, saturating (R80). The second part says whether the operand was a NaN. -/
def ff2i (w : Word) : Word × Bool :=
  match fdec w with
  | .nan => (0, true)
  | .inf s => ((if s then 0x80000000 else 0x7FFFFFFF), false)
  | .fin s m e =>
    let a := if 0 ≤ e then m * 2 ^ e.toNat else rneShift m (-e).toNat
    if s then (if 2 ^ 31 ≤ a then (0x80000000, false) else (wInt (-(a : Int)), false))
    else (if 2 ^ 31 ≤ a then (0x7FFFFFFF, false) else (w32 a, false))

/-- I2F: binary32 of a signed integer, rounded to nearest even. -/
def fi2f (w : Word) : Word := (fenc (.fin (decide (w.toInt < 0)) w.toInt.natAbs 0)).w

/-- binary32 of a rational p / q (q > 0), rounded to nearest even: device-formed words such as T_S. -/
def fOfRat (p : Int) (q : Nat) : Word :=
  if p = 0 then 0
  else
    let n := p.natAbs
    let k := 64 + nbits q
    let d := n * 2 ^ k / q
    -- a sticky bit below keeps the rounding exact
    let m := 2 * d + (if n * 2 ^ k % q = 0 then 0 else 1)
    (fenc (.fin (decide (p < 0)) m (-(k : Int) - 1))).w

/-- Is the word a NaN pattern or an infinity? -/
def fNonFinite (w : Word) : Bool := decide (fld w 23 8 = 255)

/-- Binary32 comparison of two words, false when either is a NaN. -/
def fltW (a b : Word) : Bool := (flt (fdec a) (fdec b)).getD false

/-- `a ≤ b`, false when either is a NaN. -/
def fleW (a b : Word) : Bool := ((flt (fdec b) (fdec a)).map (!·)).getD false

/-- Rounded operations on words, as written under R80. -/
def faddW (a b : Word) : FRes := fenc (fadd (fdec a) (fdec b))
def fsubW (a b : Word) : FRes := fenc (fadd (fdec a) (fneg (fdec b)))
def fmulW (a b : Word) : FRes := fenc (fmul (fdec a) (fdec b))
def fmaW (a b c : Word) : FRes := fenc (ffma (fdec a) (fdec b) (fdec c))

/-- Numerator and denominator of the quotient of two finite values, the second not 0. -/
def fratio (s : Bool) (m : Nat) (e : Int) (t : Bool) (n : Nat) (f : Int) : Int × Nat :=
  let d := e - f
  let p : Nat := m * 2 ^ d.toNat
  ((if s != t then -(p : Int) else p), n * 2 ^ (-d).toNat)

/-- The correctly rounded quotient of two words under the rules of R80. -/
def fdivW (a b : Word) : FRes :=
  match fdec a, fdec b with
  | .nan, _ => fenc .nan
  | _, .nan => fenc .nan
  | .inf _, .inf _ => fenc .nan
  | .inf s, .fin t _ _ => fenc (.inf (s != t))
  | .fin s _ _, .inf t => fenc (.fin (s != t) 0 0)
  | .fin s m e, .fin t n f =>
    if n = 0 then (if m = 0 then fenc .nan else fenc (.inf (s != t)))
    else if m = 0 then fenc (.fin (s != t) 0 0)
    else
      let r := fratio s m e t n f
      let n' := r.1.natAbs
      let k := 64 + nbits r.2
      let d := n' * 2 ^ k / r.2
      fenc (.fin (s != t) (2 * d + (if n' * 2 ^ k % r.2 = 0 then 0 else 1)) (-(k : Int) - 1))

/-- min(max(a, lo), hi) of words. -/
def fclampW (a lo hi : Word) : Word := (fenc (fmin (fmax (fdec a) (fdec lo)) (fdec hi))).w

/-- The magnitude of a word. -/
def fabsW (a : Word) : Word := (fenc (fabs (fdec a))).w

/-- Positive and finite. -/
def fposFin (a : Word) : Bool := fltW 0 a && !fNonFinite a

/-- A word as a fixed-point number with `n` fraction bits, rounded down; 0 for a NaN or an infinity. -/
def fixOf (n : Nat) (a : Word) : Int :=
  match fdec a with
  | .fin s m e =>
    let v : Int := if 0 ≤ e + n then (m * 2 ^ (e + n).toNat : Nat) else (m / 2 ^ (-(e + n)).toNat : Nat)
    if s then -v else v
  | _ => 0

/-- The nearest word to a fixed-point number with `n` fraction bits. -/
def ofFix (n : Nat) (v : Int) : Word := (fenc (.fin (decide (v < 0)) v.natAbs (-(n : Int)))).w

end Sys2Proof.Machine
end

