-- ==== Sys2Proof/Machine/Map.lean ====
section
/-! DEFINITION. The operations of the sparse map: look up, store and test for the canonical form. -/
namespace Sys2Proof.Machine

/-- The value listed at `k`, if any. -/
def SMap.find {α : Type} (k : Nat) : SMap α → Option α
  | [] => none
  | (j, v) :: m => if j = k then some v else SMap.find k m

/-- The value at `k`, which is `d` where nothing is listed. -/
def SMap.get {α : Type} (d : α) (k : Nat) (m : SMap α) : α := (SMap.find k m).getD d

/-- `m` without its entry at `k`. -/
def SMap.erase {α : Type} (k : Nat) : SMap α → SMap α
  | [] => []
  | (j, v) :: m => if j = k then SMap.erase k m else (j, v) :: SMap.erase k m

/-- `m` with `v` listed at `k`, the indices kept rising. -/
def SMap.insert {α : Type} (k : Nat) (v : α) : SMap α → SMap α
  | [] => [(k, v)]
  | (j, w) :: m =>
    if k < j then (k, v) :: (j, w) :: m
    else if j = k then (k, v) :: m
    else (j, w) :: SMap.insert k v m

/-- `m` with `v` at `k`: the entry goes when `v` is the value `d` of an unlisted index. -/
def SMap.set {α : Type} [DecidableEq α] (d : α) (k : Nat) (v : α) (m : SMap α) : SMap α :=
  if v = d then SMap.erase k m else SMap.insert k v m

/-- Every index of `m` is above `lo`, strictly rising, and no value is the one of an unlisted index, `d`. -/
def SMap.wfAbove {α : Type} [DecidableEq α] (d : Nat → α) (lo : Nat) : SMap α → Bool
  | [] => true
  | (j, v) :: m => decide (lo ≤ j) && decide (v ≠ d j) && SMap.wfAbove d (j + 1) m

/-- The canonical form: indices strictly rising and no listed value equal to the unlisted one. -/
def SMap.wf {α : Type} [DecidableEq α] (d : Nat → α) (m : SMap α) : Bool := SMap.wfAbove d 0 m

/-- Every value of the map that satisfies `p`, for tests over all listed entries. -/
def SMap.any {α : Type} (p : Nat → α → Bool) (m : SMap α) : Bool := m.any (fun e => p e.1 e.2)

/-- `m` with every entry that fails `p` removed. -/
def SMap.keep {α : Type} (p : Nat → α → Bool) (m : SMap α) : SMap α := m.filter (fun e => p e.1 e.2)

end Sys2Proof.Machine
end

