-- ==== Sys2Proof/Machine/RegNames.lean ====
section
/-! DEFINITION. The byte address of every register of the page map, under the name the register tables of spec/ give it
(R32: page index in bits [19:12]; R34: the common header; R38: the page index). A register of a page with several instances takes
the instance first; an element of an array takes its index last. -/
namespace Sys2Proof.Machine

/-- Byte address of page `p` (R32). -/
abbrev pageBase (p : Nat) : Nat := p * 4096

/-- Page index of ID (R38). -/
abbrev Pg.ID : Nat := 0x00
/-- Page index of CLK (R38). -/
abbrev Pg.CLK : Nat := 0x01
/-- Page index of PWR (R38). -/
abbrev Pg.PWR : Nat := 0x02
/-- Page index of HOST (R38). -/
abbrev Pg.HOST : Nat := 0x03
/-- Page index of LOG (R38). -/
abbrev Pg.LOG : Nat := 0x04
/-- Page index of KEEP (R38). -/
abbrev Pg.KEEP : Nat := 0x05
/-- Page index of TIME (R38). -/
abbrev Pg.TIME : Nat := 0x06
/-- Page index of SYNC (R38). -/
abbrev Pg.SYNC : Nat := 0x07
/-- Page index of RIDE (R38). -/
abbrev Pg.RIDE : Nat := 0x08
/-- Page index of ISLD (R38). -/
abbrev Pg.ISLD : Nat := 0x09
/-- Page index of PUMP (R38). -/
abbrev Pg.PUMP : Nat := 0x0A
/-- Page index of SUMP (R38). -/
abbrev Pg.SUMP : Nat := 0x0B
/-- Page index of CHAN0 (R38). -/
abbrev Pg.CHAN0 : Nat := 0x0C
/-- Page index of CHAN1 (R38). -/
abbrev Pg.CHAN1 : Nat := 0x0D
/-- Page index of PROF (R38). -/
abbrev Pg.PROF : Nat := 0x0E
/-- Page index of TRACK (R38). -/
abbrev Pg.TRACK : Nat := 0x0F
/-- Page index of COMP (R38). -/
abbrev Pg.COMP : Nat := 0x10
/-- Page index of PWMC (R38). -/
abbrev Pg.PWMC : Nat := 0x11
/-- Page index of PWMn instance `i` (R38). -/
abbrev Pg.PWMn (i : Nat) : Nat := 0x12 + i
/-- Page index of ISLC (R38). -/
abbrev Pg.ISLC : Nat := 0x1E
/-- Page index of ISLn instance `i` (R38). -/
abbrev Pg.ISLn (i : Nat) : Nat := 0x1F + i
/-- Page index of ADCC (R38). -/
abbrev Pg.ADCC : Nat := 0x27
/-- Page index of ADCn instance `i` (R38). -/
abbrev Pg.ADCn (i : Nat) : Nat := 0x28 + i
/-- Page index of ADCQ (R38). -/
abbrev Pg.ADCQ : Nat := 0x2A
/-- Page index of CMP (R38). -/
abbrev Pg.CMP : Nat := 0x2B
/-- Page index of LANEn instance `i` (R38). -/
abbrev Pg.LANEn (i : Nat) : Nat := 0x2C + i
/-- Page index of RINGn instance `i` (R38). -/
abbrev Pg.RINGn (i : Nat) : Nat := 0x3C + i
/-- Page index of CELLS (R38). -/
abbrev Pg.CELLS : Nat := 0x44
/-- Page index of CELL (R38). -/
abbrev Pg.CELL : Nat := 0x45
/-- Page index of METC (R38). -/
abbrev Pg.METC : Nat := 0x46
/-- Page index of METn instance `i` (R38). -/
abbrev Pg.METn (i : Nat) : Nat := 0x47 + i
/-- Page index of PQ (R38). -/
abbrev Pg.PQ : Nat := 0x4A
/-- Page index of STNn instance `i` (R38). -/
abbrev Pg.STNn (i : Nat) : Nat := 0x4B + i
/-- Page index of PRP (R38). -/
abbrev Pg.PRP : Nat := 0x4D
/-- Page index of PTP (R38). -/
abbrev Pg.PTP : Nat := 0x4E
/-- Page index of GOOSE (R38). -/
abbrev Pg.GOOSE : Nat := 0x4F
/-- Page index of SV (R38). -/
abbrev Pg.SV : Nat := 0x50
/-- Page index of GRD (R38). -/
abbrev Pg.GRD : Nat := 0x51
/-- Page index of GCURVE (R38). -/
abbrev Pg.GCURVE : Nat := 0x52
/-- Page index of GSEAL (R38). -/
abbrev Pg.GSEAL : Nat := 0x53
/-- Page index of GSAFE (R38). -/
abbrev Pg.GSAFE : Nat := 0x54
/-- Page index of AUXP (R38). -/
abbrev Pg.AUXP : Nat := 0x55
/-- Page index of IDM (R38). -/
abbrev Pg.IDM : Nat := 0x56
/-- Page index of TEST (R38). -/
abbrev Pg.TEST : Nat := 0x57

/-- PAGE_ID of page `p` (R34). -/
abbrev Hdr.PAGE_ID (p : Nat) : Nat := p * 4096 + 0x000
/-- PAGE_CTRL of page `p` (R34). -/
abbrev Hdr.PAGE_CTRL (p : Nat) : Nat := p * 4096 + 0x004
/-- PAGE_STAT of page `p` (R34). -/
abbrev Hdr.PAGE_STAT (p : Nat) : Nat := p * 4096 + 0x008
/-- IRQ_RAW of page `p` (R34). -/
abbrev Hdr.IRQ_RAW (p : Nat) : Nat := p * 4096 + 0x00C
/-- IRQ_EN of page `p` (R34). -/
abbrev Hdr.IRQ_EN (p : Nat) : Nat := p * 4096 + 0x010
/-- IRQ_MASKED of page `p` (R34). -/
abbrev Hdr.IRQ_MASKED (p : Nat) : Nat := p * 4096 + 0x014
/-- LOCK of page `p` (R34). -/
abbrev Hdr.LOCK (p : Nat) : Nat := p * 4096 + 0x018
/-- SHADOW_CTRL of page `p` (R34). -/
abbrev Hdr.SHADOW_CTRL (p : Nat) : Nat := p * 4096 + 0x01C
/-- EVENT_CNT of page `p` (R34). -/
abbrev Hdr.EVENT_CNT (p : Nat) : Nat := p * 4096 + 0x020

/-! ## ID: R44, 02_register_pages_host_bus.md -/
abbrev Reg.ID_PART : Nat := 0x00040
abbrev Reg.ID_REVISION : Nat := 0x00044
abbrev Reg.ID_UID_LO : Nat := 0x00048
abbrev Reg.ID_UID_HI : Nat := 0x0004C
abbrev Reg.ID_ROLE : Nat := 0x00050
abbrev Reg.ID_GRADE : Nat := 0x00054
abbrev Reg.ID_OTP_STAT : Nat := 0x00058
abbrev Reg.ID_RO_FACTORY : Nat := 0x0005C
abbrev Reg.ID_TS_TRIM : Nat := 0x00060
abbrev Reg.ID_RESOURCES : Nat := 0x00064

/-! ## CLK: R76, 04_clocks_timebase.md -/
abbrev Reg.CLK_RPLL_CTRL : Nat := 0x01040
abbrev Reg.CLK_RPLL_STAT : Nat := 0x01044
abbrev Reg.CLK_RPLL_DIV : Nat := 0x01048
abbrev Reg.CLK_RPLL_FRAC : Nat := 0x0104C
abbrev Reg.CLK_DIV_EFF : Nat := 0x01050
abbrev Reg.CLK_LOCK_TOL : Nat := 0x01054
abbrev Reg.CLK_DITHER : Nat := 0x01058
abbrev Reg.CLK_WIN_COUNT : Nat := 0x0105C
abbrev Reg.CLK_WIN_EXPECT : Nat := 0x01060
abbrev Reg.CLK_REF_KHZ : Nat := 0x01064
abbrev Reg.CLK_UNLOCK_CNT : Nat := 0x01068
abbrev Reg.CLK_BAND (k : Nat) : Nat := 0x01080 + k * 4

/-! ## PWR: R59, 03_modes_power_up.md -/
abbrev Reg.PWR_MODE_CMD : Nat := 0x02040
abbrev Reg.PWR_MODE_STAT : Nat := 0x02044
abbrev Reg.PWR_SAFE_CAUSE : Nat := 0x02048
abbrev Reg.PWR_SAFE_ACTIVE : Nat := 0x0204C
abbrev Reg.PWR_REFUSE_WHY : Nat := 0x02050
abbrev Reg.PWR_BOOT_RESULT : Nat := 0x02054
abbrev Reg.PWR_RESET_CAUSE : Nat := 0x02058
abbrev Reg.PWR_CLEARANCE : Nat := 0x0205C
abbrev Reg.PWR_SW_RESET : Nat := 0x02060
abbrev Reg.PWR_PRECHARGE_EN : Nat := 0x02064
abbrev Reg.PWR_MODE_SINCE : Nat := 0x02068
abbrev Reg.PWR_SUPPLY_STAT : Nat := 0x0206C

/-! ## HOST: R435, 02_register_pages_host_bus.md -/
abbrev Reg.HOST_BUS_CFG : Nat := 0x03040
abbrev Reg.HOST_BUS_STAT : Nat := 0x03044
abbrev Reg.HOST_BUS_ERR_CNT : Nat := 0x03048
abbrev Reg.HOST_BUS_ERR_ADDR : Nat := 0x0304C
abbrev Reg.HOST_BUS_ERR_CAUSE : Nat := 0x03050
abbrev Reg.HOST_IRQ_SUMMARY (k : Nat) : Nat := 0x03054 + k * 4
abbrev Reg.HOST_STALE_CNT : Nat := 0x03060
abbrev Reg.HOST_STALE_HANDLE : Nat := 0x03064
abbrev Reg.HOST_STALE_WHERE : Nat := 0x03068
abbrev Reg.HOST_CLEAR : Nat := 0x0306C
abbrev Reg.HOST_LOAD_SRC : Nat := 0x03070
abbrev Reg.HOST_LOAD_TARGET : Nat := 0x03074
abbrev Reg.HOST_LOAD_CFG : Nat := 0x03078
abbrev Reg.HOST_LOAD_CMD : Nat := 0x0307C
abbrev Reg.HOST_LOAD_STAT : Nat := 0x03080
abbrev Reg.HOST_LOAD_TAG : Nat := 0x03084
abbrev Reg.HOST_GPOST_STAT : Nat := 0x03088
abbrev Reg.HOST_SCRATCH (k : Nat) : Nat := 0x03180 + k * 4

/-! ## LOG: R415, 20_service_life_log.md -/
abbrev Reg.LOG_VOL_BASE : Nat := 0x04040
abbrev Reg.LOG_VOL_WR : Nat := 0x04044
abbrev Reg.LOG_VOL_RD : Nat := 0x04048
abbrev Reg.LOG_VOL_STAT : Nat := 0x0404C
abbrev Reg.LOG_WATERMARK : Nat := 0x04050
abbrev Reg.LOG_SEQ_NEXT : Nat := 0x04054
abbrev Reg.LOG_LOST_CNT : Nat := 0x04058
abbrev Reg.LOG_P_COUNT : Nat := 0x0405C
abbrev Reg.LOG_P_SEQ : Nat := 0x04060
abbrev Reg.LOG_PSEL : Nat := 0x04064
abbrev Reg.LOG_PENT (k : Nat) : Nat := 0x04068 + k * 4
abbrev Reg.LOG_P_WR_CNT : Nat := 0x04088
abbrev Reg.LOG_P_FAIL_CNT : Nat := 0x0408C
abbrev Reg.LOG_CLEAR : Nat := 0x04090

/-! ## KEEP: R391, 18_keeper_cistern.md -/
abbrev Reg.KEEP_CTRL : Nat := 0x05040
abbrev Reg.KEEP_STAT : Nat := 0x05044
abbrev Reg.KEEP_STORE_V : Nat := 0x05048
abbrev Reg.KEEP_STORE_MEASURE : Nat := 0x0504C
abbrev Reg.KEEP_STORE_TRANSMIT : Nat := 0x05050
abbrev Reg.KEEP_STORE_BROWN : Nat := 0x05054
abbrev Reg.KEEP_CHG_CFG : Nat := 0x05058
abbrev Reg.KEEP_CHG_STAT : Nat := 0x0505C
abbrev Reg.KEEP_TEMP : Nat := 0x05060
abbrev Reg.KEEP_HARVEST : Nat := 0x05064
abbrev Reg.KEEP_RTC_FRAC : Nat := 0x05068
abbrev Reg.KEEP_RTC_SEC_LO : Nat := 0x0506C
abbrev Reg.KEEP_RTC_SEC_HI : Nat := 0x05070
abbrev Reg.KEEP_RTC_TRIM : Nat := 0x05074
abbrev Reg.KEEP_GR_CFG : Nat := 0x05078
abbrev Reg.KEEP_GR_STAT : Nat := 0x0507C
abbrev Reg.KEEP_GR_THR : Nat := 0x05080
abbrev Reg.KEEP_BEACON_CFG : Nat := 0x05084
abbrev Reg.KEEP_BEACON_CMD : Nat := 0x05088
abbrev Reg.KEEP_BURST_STAT : Nat := 0x0508C
abbrev Reg.KEEP_BURST_DV : Nat := 0x05090
abbrev Reg.KEEP_WAKE_CLR : Nat := 0x05094
abbrev Reg.KEEP_BURST_CNT : Nat := 0x05098
abbrev Reg.KEEP_ABORT_CNT : Nat := 0x0509C
abbrev Reg.KEEP_DENY_CNT : Nat := 0x050A0
abbrev Reg.KEEP_SKIP_CNT : Nat := 0x050A4
abbrev Reg.KEEP_GR_CNT : Nat := 0x050A8
abbrev Reg.KEEP_NV_STAT : Nat := 0x050AC
abbrev Reg.KEEP_MODE_REC : Nat := 0x050B0
abbrev Reg.KEEP_CLEAR : Nat := 0x050B4

/-! ## TIME: R77, 04_clocks_timebase.md -/
abbrev Reg.TIME_PERIOD : Nat := 0x06040
abbrev Reg.TIME_OUT_PHASE : Nat := 0x06044
abbrev Reg.TIME_APPLY_PHASE : Nat := 0x06048
abbrev Reg.TIME_PERIOD_CNT : Nat := 0x0604C
abbrev Reg.TIME_EPOCH_CTRL : Nat := 0x06050
abbrev Reg.TIME_EPOCH_OFFSET : Nat := 0x06054
abbrev Reg.TIME_EPOCH_ERR : Nat := 0x06058
abbrev Reg.TIME_NOW_NS : Nat := 0x0605C
abbrev Reg.TIME_NOW_SEC_LO : Nat := 0x06060
abbrev Reg.TIME_NOW_SEC_HI : Nat := 0x06064
abbrev Reg.TIME_EPOCH_NS : Nat := 0x06068
abbrev Reg.TIME_EPOCH_SEC_LO : Nat := 0x0606C
abbrev Reg.TIME_EPOCH_SEC_HI : Nat := 0x06070
abbrev Reg.TIME_SET_NS : Nat := 0x06074
abbrev Reg.TIME_SET_SEC_LO : Nat := 0x06078
abbrev Reg.TIME_SET_SEC_HI : Nat := 0x0607C
abbrev Reg.TIME_SET_CMD : Nat := 0x06080
abbrev Reg.TIME_ADJ_NS : Nat := 0x06084
abbrev Reg.TIME_SERVO_CFG : Nat := 0x06088
abbrev Reg.TIME_SERVO_GAIN : Nat := 0x0608C
abbrev Reg.TIME_SERVO_LIM : Nat := 0x06090
abbrev Reg.TIME_SERVO_STEP : Nat := 0x06094
abbrev Reg.TIME_SERVO_LOCK : Nat := 0x06098
abbrev Reg.TIME_SERVO_STAT : Nat := 0x0609C
abbrev Reg.TIME_SERVO_OFFSET : Nat := 0x060A0
abbrev Reg.TIME_SERVO_FRAC : Nat := 0x060A4
abbrev Reg.TIME_SERVO_INTEG : Nat := 0x060A8
abbrev Reg.TIME_PPS_CFG : Nat := 0x060AC
abbrev Reg.TIME_PPS_IN_NS : Nat := 0x060B0
abbrev Reg.TIME_UTC_OFFSET : Nat := 0x060B4
abbrev Reg.TIME_IO_CFG : Nat := 0x060B8
abbrev Reg.TIME_CELL_TL : Nat := 0x060BC
abbrev Reg.TIME_CELL_LEARNED : Nat := 0x060C0
abbrev Reg.TIME_SERVO_SAMPLES : Nat := 0x060C4

/-! ## SYNC: R164, 08_grid_sync_ride_through.md -/
abbrev Reg.SYNC_CFG : Nat := 0x07040
abbrev Reg.SYNC_STAT : Nat := 0x07044
abbrev Reg.SYNC_VSRC : Nat := 0x07048
abbrev Reg.SYNC_ISRC : Nat := 0x0704C
abbrev Reg.SYNC_V_SCALE : Nat := 0x07050
abbrev Reg.SYNC_I_SCALE : Nat := 0x07054
abbrev Reg.SYNC_F_NOM : Nat := 0x07058
abbrev Reg.SYNC_SOGI_K : Nat := 0x0705C
abbrev Reg.SYNC_FLL_GAIN : Nat := 0x07060
abbrev Reg.SYNC_PLL_KP : Nat := 0x07064
abbrev Reg.SYNC_PLL_KI : Nat := 0x07068
abbrev Reg.SYNC_LOCK_TOL : Nat := 0x0706C
abbrev Reg.SYNC_LOCK_N : Nat := 0x07070
abbrev Reg.SYNC_COAST_LEVEL : Nat := 0x07074
abbrev Reg.SYNC_COAST_HYST : Nat := 0x07078
abbrev Reg.SYNC_COAST_MAX : Nat := 0x0707C
abbrev Reg.SYNC_COAST_AVG : Nat := 0x07080
abbrev Reg.SYNC_RET_SETTLE : Nat := 0x07084
abbrev Reg.SYNC_JUMP_SNAP : Nat := 0x07088
abbrev Reg.SYNC_PHASE_SLEW : Nat := 0x0708C
abbrev Reg.SYNC_SLEW_REL : Nat := 0x07090
abbrev Reg.SYNC_GF_CFG : Nat := 0x07094
abbrev Reg.SYNC_GF_DROOP : Nat := 0x07098
abbrev Reg.SYNC_GF_H : Nat := 0x0709C
abbrev Reg.SYNC_GF_D : Nat := 0x070A0
abbrev Reg.SYNC_THETA_V : Nat := 0x070A4
abbrev Reg.SYNC_OMEGA_V : Nat := 0x070A8
abbrev Reg.SYNC_FREQ : Nat := 0x070AC
abbrev Reg.SYNC_VP_MAG : Nat := 0x070B0
abbrev Reg.SYNC_VN_MAG : Nat := 0x070B4
abbrev Reg.SYNC_VPH_MIN : Nat := 0x070B8
abbrev Reg.SYNC_VPH_MAX : Nat := 0x070BC
abbrev Reg.SYNC_GF_THETA_V : Nat := 0x070C0
abbrev Reg.SYNC_GF_OMEGA_V : Nat := 0x070C4
abbrev Reg.SYNC_JUMP_LAST : Nat := 0x070C8
abbrev Reg.SYNC_COAST_LAST : Nat := 0x070CC
abbrev Reg.SYNC_COAST_CNT : Nat := 0x070D0
abbrev Reg.SYNC_JUMP_CNT : Nat := 0x070D4
abbrev Reg.SYNC_LOSS_CNT : Nat := 0x070D8

/-! ## RIDE: R165, 08_grid_sync_ride_through.md -/
abbrev Reg.RIDE_CFG : Nat := 0x08040
abbrev Reg.RIDE_STAT : Nat := 0x08044
abbrev Reg.RIDE_LV_ENTER : Nat := 0x08048
abbrev Reg.RIDE_LV_EXIT : Nat := 0x0804C
abbrev Reg.RIDE_HV_ENTER : Nat := 0x08050
abbrev Reg.RIDE_HV_EXIT : Nat := 0x08054
abbrev Reg.RIDE_CESS_ENTER : Nat := 0x08058
abbrev Reg.RIDE_CESS_EXIT : Nat := 0x0805C
abbrev Reg.RIDE_EXIT_T : Nat := 0x08060
abbrev Reg.RIDE_K_FACTOR : Nat := 0x08064
abbrev Reg.RIDE_PRE_T : Nat := 0x08068
abbrev Reg.RIDE_I_MAX : Nat := 0x0806C
abbrev Reg.RIDE_I_SUP : Nat := 0x08070
abbrev Reg.RIDE_I_RIDE : Nat := 0x08074
abbrev Reg.RIDE_REC_PROF : Nat := 0x08078
abbrev Reg.RIDE_REC_START : Nat := 0x0807C
abbrev Reg.RIDE_REC_RATE : Nat := 0x08080
abbrev Reg.RIDE_REC_ACCEL : Nat := 0x08084
abbrev Reg.RIDE_REC_JERK : Nat := 0x08088
abbrev Reg.RIDE_REC_FS_RATE : Nat := 0x0808C
abbrev Reg.RIDE_V_PRE : Nat := 0x08090
abbrev Reg.RIDE_IQ_PRE : Nat := 0x08094
abbrev Reg.RIDE_IQ_RIDE_V : Nat := 0x08098
abbrev Reg.RIDE_I_LIM_V : Nat := 0x0809C
abbrev Reg.RIDE_SUPPORT_CNT : Nat := 0x080A0
abbrev Reg.RIDE_TRIPREQ_CNT : Nat := 0x080A4
abbrev Reg.RIDE_FAULT_PERIODS : Nat := 0x080A8
abbrev Reg.RIDE_LV_PT (k : Nat) : Nat := 0x080C0 + k * 4
abbrev Reg.RIDE_HV_PT (k : Nat) : Nat := 0x080E0 + k * 4
abbrev Reg.RIDE_UF_PT (k : Nat) : Nat := 0x08100 + k * 4
abbrev Reg.RIDE_OF_PT (k : Nat) : Nat := 0x08110 + k * 4

/-! ## ISLD: R166, 08_grid_sync_ride_through.md -/
abbrev Reg.ISLD_CFG : Nat := 0x09040
abbrev Reg.ISLD_STAT : Nat := 0x09044
abbrev Reg.ISLD_ROCOF_TH : Nat := 0x09048
abbrev Reg.ISLD_ROCOF_WIN : Nat := 0x0904C
abbrev Reg.ISLD_ROCOF_T : Nat := 0x09050
abbrev Reg.ISLD_VS_TH : Nat := 0x09054
abbrev Reg.ISLD_VS_WIN : Nat := 0x09058
abbrev Reg.ISLD_KF : Nat := 0x0905C
abbrev Reg.ISLD_CF0 : Nat := 0x09060
abbrev Reg.ISLD_DF_MAX : Nat := 0x09064
abbrev Reg.ISLD_QV_AMP : Nat := 0x09068
abbrev Reg.ISLD_QV_PER : Nat := 0x0906C
abbrev Reg.ISLD_AF_TH : Nat := 0x09070
abbrev Reg.ISLD_AF_T : Nat := 0x09074
abbrev Reg.ISLD_CLR : Nat := 0x09078
abbrev Reg.ISLD_ROCOF_V : Nat := 0x0907C
abbrev Reg.ISLD_VS_V : Nat := 0x09080
abbrev Reg.ISLD_DF_V : Nat := 0x09084
abbrev Reg.ISLD_DQ_V : Nat := 0x09088
abbrev Reg.ISLD_DET_CNT : Nat := 0x0908C

/-! ## PUMP: R99, 05_pump_and_sump.md -/
abbrev Reg.PUMP_CTRL : Nat := 0x0A040
abbrev Reg.PUMP_BANK_STAT : Nat := 0x0A044
abbrev Reg.PUMP_BANK_CMD : Nat := 0x0A048
abbrev Reg.PUMP_SWAP_CFG : Nat := 0x0A04C
abbrev Reg.PUMP_SWAP_AT : Nat := 0x0A050
abbrev Reg.PUMP_BUDGET_MAIN : Nat := 0x0A054
abbrev Reg.PUMP_BUDGET_SLOW : Nat := 0x0A058
abbrev Reg.PUMP_LOAD_MAIN : Nat := 0x0A05C
abbrev Reg.PUMP_LOAD_SLOW : Nat := 0x0A060
abbrev Reg.PUMP_SLOW_STAT : Nat := 0x0A064
abbrev Reg.PUMP_SLOW_DIV : Nat := 0x0A068
abbrev Reg.PUMP_FIN_LAST : Nat := 0x0A06C
abbrev Reg.PUMP_FIN_MAX : Nat := 0x0A070
abbrev Reg.PUMP_OVR_CNT : Nat := 0x0A074
abbrev Reg.PUMP_OVR_CFG : Nat := 0x0A078
abbrev Reg.PUMP_SLOW_ABANDON_CNT : Nat := 0x0A07C
abbrev Reg.PUMP_NAN_CNT : Nat := 0x0A080
abbrev Reg.PUMP_OFL_CNT : Nat := 0x0A084
abbrev Reg.PUMP_RES_FAULT_CNT : Nat := 0x0A088
abbrev Reg.PUMP_SYSWR_CNT : Nat := 0x0A08C
abbrev Reg.PUMP_BADOP_CNT : Nat := 0x0A090
abbrev Reg.PUMP_CLEAR : Nat := 0x0A094
abbrev Reg.PUMP_PRED : Nat := 0x0A098
abbrev Reg.PUMP_SWAP_CNT : Nat := 0x0A09C
abbrev Reg.PUMP_RES_BASE (k : Nat) : Nat := 0x0A0A0 + k * 4
abbrev Reg.PUMP_RES_LEN (k : Nat) : Nat := 0x0A0C0 + k * 4
abbrev Reg.PUMP_DIRECT_CFG : Nat := 0x0A0E0
abbrev Reg.PUMP_DESC (k : Nat) : Nat := 0x0A100 + k * 4

/-! ## SUMP: R100, 05_pump_and_sump.md -/
abbrev Reg.SUMP_POOL_STAT : Nat := 0x0B040
abbrev Reg.SUMP_CH_SEL : Nat := 0x0B044
abbrev Reg.SUMP_CH_QUOTA : Nat := 0x0B048
abbrev Reg.SUMP_CH_USE : Nat := 0x0B04C
abbrev Reg.SUMP_QREFUSE_CNT : Nat := 0x0B050
abbrev Reg.SUMP_SYS_WORDS : Nat := 0x0B054
abbrev Reg.SUMP_CQ_VIEW (k : Nat) : Nat := 0x0B080 + k * 4
abbrev Reg.SUMP_GOWN (k : Nat) : Nat := 0x0B280 + k * 4

/-! ## CHAN0: R117, 06_channels_handles.md -/
abbrev Reg.CHAN0_CH_CMD : Nat := 0x0C040
abbrev Reg.CHAN0_NEW_HANDLE : Nat := 0x0C044
abbrev Reg.CHAN0_CH_SEL : Nat := 0x0C048
abbrev Reg.CHAN0_CH_STAT : Nat := 0x0C04C
abbrev Reg.CHAN0_CH_RATE : Nat := 0x0C050
abbrev Reg.CHAN0_CH_REPLACES : Nat := 0x0C054
abbrev Reg.CHAN0_COEF_IDX : Nat := 0x0C058
abbrev Reg.CHAN0_COEF_DATA : Nat := 0x0C05C
abbrev Reg.CHAN0_FE_LIMIT : Nat := 0x0C060
abbrev Reg.CHAN0_FE_CFG : Nat := 0x0C064
abbrev Reg.CHAN0_FE_STAT : Nat := 0x0C068
abbrev Reg.CHAN0_FE_CLR : Nat := 0x0C06C
abbrev Reg.CHAN0_DRAIN_CFG : Nat := 0x0C070
abbrev Reg.CHAN0_LINK_FAIL : Nat := 0x0C074
abbrev Reg.CHAN0_SLOT_COUNTS : Nat := 0x0C078
abbrev Reg.CHAN0_COEF_REFUSE_CNT : Nat := 0x0C07C
abbrev Reg.CHAN0_COEF_COLLIDE_CNT : Nat := 0x0C080
abbrev Reg.CHAN0_FE_EVENT_CNT : Nat := 0x0C084
abbrev Reg.CHAN0_CH_VIEW (k : Nat) : Nat := 0x0C100 + k * 4
abbrev Reg.CHAN0_FE_VIEW (k : Nat) : Nat := 0x0C300 + k * 4
abbrev Reg.CHAN0_OUT_VIEW (k : Nat) : Nat := 0x0C500 + k * 4

/-! ## CHAN1: R117, 06_channels_handles.md -/
abbrev Reg.CHAN1_FE_LIMIT_V (k : Nat) : Nat := 0x0D040 + k * 4
abbrev Reg.CHAN1_FE_CFG_V (k : Nat) : Nat := 0x0D240 + k * 4
abbrev Reg.CHAN1_SEG_VIEW (k : Nat) : Nat := 0x0D440 + k * 4
abbrev Reg.CHAN1_CYC_VIEW (k : Nat) : Nat := 0x0D640 + k * 4

/-! ## PROF: R139, 07_setpoints_trackers_tables.md -/
abbrev Reg.PROF_PF_CMD : Nat := 0x0E040
abbrev Reg.PROF_PF_SEL : Nat := 0x0E044
abbrev Reg.PROF_NEW_HANDLE : Nat := 0x0E048
abbrev Reg.PROF_ALLOC : Nat := 0x0E04C
abbrev Reg.PROF_FS_ALL : Nat := 0x0E050
abbrev Reg.PROF_PS_STAT (k : Nat) : Nat := 0x0E240 + k * 64
abbrev Reg.PROF_PS_TARGET (k : Nat) : Nat := 0x0E244 + k * 64
abbrev Reg.PROF_PS_RATE (k : Nat) : Nat := 0x0E248 + k * 64
abbrev Reg.PROF_PS_ACCEL (k : Nat) : Nat := 0x0E24C + k * 64
abbrev Reg.PROF_PS_JERK (k : Nat) : Nat := 0x0E250 + k * 64
abbrev Reg.PROF_PS_FS_TARGET (k : Nat) : Nat := 0x0E254 + k * 64
abbrev Reg.PROF_PS_FS_RATE (k : Nat) : Nat := 0x0E258 + k * 64
abbrev Reg.PROF_PS_INIT (k : Nat) : Nat := 0x0E25C + k * 64
abbrev Reg.PROF_PS_Y (k : Nat) : Nat := 0x0E260 + k * 64
abbrev Reg.PROF_PS_V (k : Nat) : Nat := 0x0E264 + k * 64
abbrev Reg.PROF_PS_A (k : Nat) : Nat := 0x0E268 + k * 64
abbrev Reg.PROF_PS_REMAIN (k : Nat) : Nat := 0x0E26C + k * 64
abbrev Reg.PROF_PS_CFG (k : Nat) : Nat := 0x0E270 + k * 64
abbrev Reg.PROF_PS_LIM_LO (k : Nat) : Nat := 0x0E274 + k * 64
abbrev Reg.PROF_PS_LIM_HI (k : Nat) : Nat := 0x0E278 + k * 64

/-! ## TRACK: R140, 07_setpoints_trackers_tables.md -/
abbrev Reg.TRACK_T_CMD : Nat := 0x0F040
abbrev Reg.TRACK_T_SEL : Nat := 0x0F044
abbrev Reg.TRACK_NEW_HANDLE : Nat := 0x0F048
abbrev Reg.TRACK_VEC_BASE : Nat := 0x0F04C
abbrev Reg.TRACK_T_SRC : Nat := 0x0F050
abbrev Reg.TRACK_T_RATE : Nat := 0x0F054
abbrev Reg.TRACK_V_MIN : Nat := 0x0F058
abbrev Reg.TRACK_V_MAX : Nat := 0x0F05C
abbrev Reg.TRACK_V_START : Nat := 0x0F060
abbrev Reg.TRACK_VOC : Nat := 0x0F064
abbrev Reg.TRACK_STEP_MIN : Nat := 0x0F068
abbrev Reg.TRACK_STEP_MAX : Nat := 0x0F06C
abbrev Reg.TRACK_STEP_GAIN : Nat := 0x0F070
abbrev Reg.TRACK_G_TOL : Nat := 0x0F074
abbrev Reg.TRACK_DV_MIN : Nat := 0x0F078
abbrev Reg.TRACK_DI_MIN : Nat := 0x0F07C
abbrev Reg.TRACK_SCAN_CFG : Nat := 0x0F080
abbrev Reg.TRACK_P_LIMIT : Nat := 0x0F084
abbrev Reg.TRACK_T_STAT : Nat := 0x0F088
abbrev Reg.TRACK_SKIP : Nat := 0x0F08C
abbrev Reg.TRACK_VREF_V (k : Nat) : Nat := 0x0F200 + k * 4
abbrev Reg.TRACK_P_V (k : Nat) : Nat := 0x0F300 + k * 4
abbrev Reg.TRACK_V_V (k : Nat) : Nat := 0x0F400 + k * 4
abbrev Reg.TRACK_I_V (k : Nat) : Nat := 0x0F500 + k * 4
abbrev Reg.TRACK_STEP_V (k : Nat) : Nat := 0x0F600 + k * 4
abbrev Reg.TRACK_STAT_V (k : Nat) : Nat := 0x0F700 + k * 4

/-! ## COMP: R141, 07_setpoints_trackers_tables.md -/
abbrev Reg.COMP_SWAP : Nat := 0x10040
abbrev Reg.COMP_STAT : Nat := 0x10044
abbrev Reg.COMP_SWAP_CFG : Nat := 0x10048
abbrev Reg.COMP_REFUSE_CNT : Nat := 0x1004C
abbrev Reg.COMP_TC_CFG (k : Nat) : Nat := 0x10060 + k * 4
abbrev Reg.COMP_TC_OFFSET (k : Nat) : Nat := 0x10080 + k * 4
abbrev Reg.COMP_TC_GAIN (k : Nat) : Nat := 0x100A0 + k * 4
abbrev Reg.COMP_TC_MAG_NORM (k : Nat) : Nat := 0x100C0 + k * 4
abbrev Reg.COMP_TC_MAG_MAX (k : Nat) : Nat := 0x100E0 + k * 4
abbrev Reg.COMP_TC_OUT (k : Nat) : Nat := 0x10100 + k * 4

/-! ## PWMC: R184, 09_pwm_generators.md -/
abbrev Reg.PWMC_START : Nat := 0x11040
abbrev Reg.PWMC_GCOMMIT : Nat := 0x11044
abbrev Reg.PWMC_PRECHARGE : Nat := 0x11048
abbrev Reg.PWMC_SYNCO : Nat := 0x1104C
abbrev Reg.PWMC_SYNCO_PHASE : Nat := 0x11050
abbrev Reg.PWMC_SYNCI_CFG : Nat := 0x11054
abbrev Reg.PWMC_BALL_EN : Nat := 0x11058
abbrev Reg.PWMC_TZ_CFG : Nat := 0x1105C
abbrev Reg.PWMC_TZ_STAT : Nat := 0x11060
abbrev Reg.PWMC_TZ_CLR : Nat := 0x11064
abbrev Reg.PWMC_RUN_STAT : Nat := 0x11068
abbrev Reg.PWMC_BLOCK_STAT : Nat := 0x1106C

/-! ## PWMn: R185, 09_pwm_generators.md -/
abbrev Reg.PWMn_CTRL (i : Nat) : Nat := 0x12040 + i * 4096
abbrev Reg.PWMn_STAT (i : Nat) : Nat := 0x12044 + i * 4096
abbrev Reg.PWMn_CNT (i : Nat) : Nat := 0x12048 + i * 4096
abbrev Reg.PWMn_PRD (i : Nat) : Nat := 0x1204C + i * 4096
abbrev Reg.PWMn_CMPA (i : Nat) : Nat := 0x12050 + i * 4096
abbrev Reg.PWMn_CMPB (i : Nat) : Nat := 0x12054 + i * 4096
abbrev Reg.PWMn_CMPC (i : Nat) : Nat := 0x12058 + i * 4096
abbrev Reg.PWMn_CMPD (i : Nat) : Nat := 0x1205C + i * 4096
abbrev Reg.PWMn_DT (i : Nat) : Nat := 0x12060 + i * 4096
abbrev Reg.PWMn_MIN_PULSE (i : Nat) : Nat := 0x12064 + i * 4096
abbrev Reg.PWMn_EPOCH_PHASE (i : Nat) : Nat := 0x12068 + i * 4096
abbrev Reg.PWMn_SYNCI_PHASE (i : Nat) : Nat := 0x1206C + i * 4096
abbrev Reg.PWMn_TRIP_EN (i : Nat) : Nat := 0x12070 + i * 4096
abbrev Reg.PWMn_TRIP_CBC (i : Nat) : Nat := 0x12074 + i * 4096
abbrev Reg.PWMn_TRIP_STAT (i : Nat) : Nat := 0x12078 + i * 4096
abbrev Reg.PWMn_TRIP_CLR (i : Nat) : Nat := 0x1207C + i * 4096
abbrev Reg.PWMn_STG_A (i : Nat) : Nat := 0x12080 + i * 4096
abbrev Reg.PWMn_STG_B (i : Nat) : Nat := 0x12084 + i * 4096
abbrev Reg.PWMn_SPLIT_CNT (i : Nat) : Nat := 0x12088 + i * 4096
abbrev Reg.PWMn_MP_DROP_CNT (i : Nat) : Nat := 0x1208C + i * 4096
abbrev Reg.PWMn_MP_STRETCH_CNT (i : Nat) : Nat := 0x12090 + i * 4096
abbrev Reg.PWMn_TRIP_CNT (i : Nat) : Nat := 0x12094 + i * 4096
abbrev Reg.PWMn_LOCK_SLIP_CNT (i : Nat) : Nat := 0x12098 + i * 4096
abbrev Reg.PWMn_STAT_CLR (i : Nat) : Nat := 0x1209C + i * 4096
abbrev Reg.PWMn_ONTIME_A (i : Nat) : Nat := 0x120A0 + i * 4096
abbrev Reg.PWMn_ONTIME_B (i : Nat) : Nat := 0x120A4 + i * 4096

/-! ## ISLC: R203, 10_drive_islands.md -/
abbrev Reg.ISLC_FAULT_CFG : Nat := 0x1E040
abbrev Reg.ISLC_ILK_CFG : Nat := 0x1E044
abbrev Reg.ISLC_ILK_STAT : Nat := 0x1E048
abbrev Reg.ISLC_ILK_CLR : Nat := 0x1E04C
abbrev Reg.ISLC_PRECHARGE : Nat := 0x1E050
abbrev Reg.ISLC_FAULT_FIRST : Nat := 0x1E054
abbrev Reg.ISLC_FAULT_TICK : Nat := 0x1E058
abbrev Reg.ISLC_FAULT_PCNT : Nat := 0x1E05C
abbrev Reg.ISLC_FAULT_FOLLOW : Nat := 0x1E060
abbrev Reg.ISLC_FAULT_CLR : Nat := 0x1E064
abbrev Reg.ISLC_GATE_STAT : Nat := 0x1E068
abbrev Reg.ISLC_LINK_STAT : Nat := 0x1E06C
abbrev Reg.ISLC_SUPPLY_STAT : Nat := 0x1E070
abbrev Reg.ISLC_ILK_CNT : Nat := 0x1E074
abbrev Reg.ISLC_FAULT_CNT : Nat := 0x1E078

/-! ## ISLn: R204, 10_drive_islands.md -/
abbrev Reg.ISLn_CTRL (i : Nat) : Nat := 0x1F040 + i * 4096
abbrev Reg.ISLn_STAT (i : Nat) : Nat := 0x1F044 + i * 4096
abbrev Reg.ISLn_ON_I (i : Nat) : Nat := 0x1F048 + i * 4096
abbrev Reg.ISLn_ON_T (i : Nat) : Nat := 0x1F04C + i * 4096
abbrev Reg.ISLn_OFF_I (i : Nat) : Nat := 0x1F050 + i * 4096
abbrev Reg.ISLn_OFF_T (i : Nat) : Nat := 0x1F054 + i * 4096
abbrev Reg.ISLn_SOFT_CFG (i : Nat) : Nat := 0x1F058 + i * 4096
abbrev Reg.ISLn_DSAT_CFG (i : Nat) : Nat := 0x1F05C + i * 4096
abbrev Reg.ISLn_HARD_CFG (i : Nat) : Nat := 0x1F060 + i * 4096
abbrev Reg.ISLn_UVLO_CFG (i : Nat) : Nat := 0x1F064 + i * 4096
abbrev Reg.ISLn_NTC_RAW (i : Nat) : Nat := 0x1F068 + i * 4096
abbrev Reg.ISLn_NTC_LIM (i : Nat) : Nat := 0x1F06C + i * 4096
abbrev Reg.ISLn_FAULT_STAT (i : Nat) : Nat := 0x1F070 + i * 4096
abbrev Reg.ISLn_FAULT_TICK (i : Nat) : Nat := 0x1F074 + i * 4096
abbrev Reg.ISLn_FAULT_PCNT (i : Nat) : Nat := 0x1F078 + i * 4096
abbrev Reg.ISLn_FAULT_CLR (i : Nat) : Nat := 0x1F07C + i * 4096
abbrev Reg.ISLn_DSAT_CNT (i : Nat) : Nat := 0x1F080 + i * 4096
abbrev Reg.ISLn_HARD_CNT (i : Nat) : Nat := 0x1F084 + i * 4096
abbrev Reg.ISLn_UVLO_CNT (i : Nat) : Nat := 0x1F088 + i * 4096
abbrev Reg.ISLn_LINK_CNT (i : Nat) : Nat := 0x1F08C + i * 4096
abbrev Reg.ISLn_BLANK_ARM_CNT (i : Nat) : Nat := 0x1F090 + i * 4096
abbrev Reg.ISLn_NTC_EVT_CNT (i : Nat) : Nat := 0x1F094 + i * 4096
abbrev Reg.ISLn_SWITCH_CNT (i : Nat) : Nat := 0x1F098 + i * 4096
abbrev Reg.ISLn_STAT_CLR (i : Nat) : Nat := 0x1F09C + i * 4096

/-! ## ADCC: R221, 11_adc_comparators.md -/
abbrev Reg.ADCC_LV_BASE : Nat := 0x27040
abbrev Reg.ADCC_LV_CTRL : Nat := 0x27044
abbrev Reg.ADCC_TIME_TRIG : Nat := 0x27048
abbrev Reg.ADCC_OW_PU : Nat := 0x2704C
abbrev Reg.ADCC_OW_PD : Nat := 0x27050
abbrev Reg.ADCC_OW_LIM : Nat := 0x27054
abbrev Reg.ADCC_OW_STAT : Nat := 0x27058
abbrev Reg.ADCC_LATE_CNT : Nat := 0x2705C
abbrev Reg.ADCC_LV_TEMP : Nat := 0x27060
abbrev Reg.ADCC_LV (k : Nat) : Nat := 0x27080 + k * 4

/-! ## ADCn: R222, 11_adc_comparators.md -/
abbrev Reg.ADCn_CTRL (i : Nat) : Nat := 0x28040 + i * 4096
abbrev Reg.ADCn_STAT (i : Nat) : Nat := 0x28044 + i * 4096
abbrev Reg.ADCn_REG_CFG (i : Nat) : Nat := 0x28048 + i * 4096
abbrev Reg.ADCn_REG_TRIG (i : Nat) : Nat := 0x2804C + i * 4096
abbrev Reg.ADCn_INJ_CFG (i : Nat) : Nat := 0x28050 + i * 4096
abbrev Reg.ADCn_INJ_TRIG (i : Nat) : Nat := 0x28054 + i * 4096
abbrev Reg.ADCn_SW_TRIG (i : Nat) : Nat := 0x28058 + i * 4096
abbrev Reg.ADCn_CONV_CNT (i : Nat) : Nat := 0x2805C + i * 4096
abbrev Reg.ADCn_INJ_CNT (i : Nat) : Nat := 0x28060 + i * 4096
abbrev Reg.ADCn_TRIG_MISS_CNT (i : Nat) : Nat := 0x28064 + i * 4096
abbrev Reg.ADCn_RESULT_LAST (i : Nat) : Nat := 0x28068 + i * 4096
abbrev Reg.ADCn_CLEAR (i : Nat) : Nat := 0x2806C + i * 4096
abbrev Reg.ADCn_REG_SEQ (i : Nat) (k : Nat) : Nat := 0x28080 + i * 4096 + k * 4
abbrev Reg.ADCn_INJ_SEQ (i : Nat) (k : Nat) : Nat := 0x28100 + i * 4096 + k * 4
abbrev Reg.ADCn_INJ_RES (i : Nat) (k : Nat) : Nat := 0x28120 + i * 4096 + k * 4

/-! ## ADCQ: R223, 11_adc_comparators.md -/
abbrev Reg.ADCQ_Q_BASE : Nat := 0x2A040
abbrev Reg.ADCQ_Q_CFG : Nat := 0x2A044
abbrev Reg.ADCQ_Q_WR : Nat := 0x2A048
abbrev Reg.ADCQ_Q_RD : Nat := 0x2A04C
abbrev Reg.ADCQ_Q_STAT : Nat := 0x2A050
abbrev Reg.ADCQ_Q_OVF_CNT : Nat := 0x2A054

/-! ## CMP: R224, 11_adc_comparators.md -/
abbrev Reg.CMP_LATCH : Nat := 0x2B040
abbrev Reg.CMP_LEVEL : Nat := 0x2B044
abbrev Reg.CMP_OWN : Nat := 0x2B048
abbrev Reg.CMP_CMPOUT_CFG (k : Nat) : Nat := 0x2B050 + k * 4
abbrev Reg.CMP_C_CFG (k : Nat) : Nat := 0x2B140 + k * 48
abbrev Reg.CMP_C_FILT (k : Nat) : Nat := 0x2B144 + k * 48
abbrev Reg.CMP_C_DAC_HI (k : Nat) : Nat := 0x2B148 + k * 48
abbrev Reg.CMP_C_DAC_LO (k : Nat) : Nat := 0x2B14C + k * 48
abbrev Reg.CMP_C_SAMP (k : Nat) : Nat := 0x2B150 + k * 48
abbrev Reg.CMP_C_STAT (k : Nat) : Nat := 0x2B154 + k * 48
abbrev Reg.CMP_C_SET_CNT (k : Nat) : Nat := 0x2B158 + k * 48
abbrev Reg.CMP_C_SET_NS (k : Nat) : Nat := 0x2B15C + k * 48
abbrev Reg.CMP_C_SET_SEC_LO (k : Nat) : Nat := 0x2B160 + k * 48

/-! ## LANEn: R247, 12_wiled_lanes.md -/
abbrev Reg.LANEn_CTRL (i : Nat) : Nat := 0x2C040 + i * 4096
abbrev Reg.LANEn_STAT (i : Nat) : Nat := 0x2C044 + i * 4096
abbrev Reg.LANEn_CDR_CFG (i : Nat) : Nat := 0x2C048 + i * 4096
abbrev Reg.LANEn_TX_FFE (i : Nat) : Nat := 0x2C04C + i * 4096
abbrev Reg.LANEn_RX_EQ (i : Nat) : Nat := 0x2C050 + i * 4096
abbrev Reg.LANEn_EQ_BEST (i : Nat) : Nat := 0x2C054 + i * 4096
abbrev Reg.LANEn_ADAPT_CFG (i : Nat) : Nat := 0x2C058 + i * 4096
abbrev Reg.LANEn_ADAPT_STAT (i : Nat) : Nat := 0x2C05C + i * 4096
abbrev Reg.LANEn_FOM (i : Nat) : Nat := 0x2C060 + i * 4096
abbrev Reg.LANEn_FOM_LIM (i : Nat) : Nat := 0x2C064 + i * 4096
abbrev Reg.LANEn_EYE_CMD (i : Nat) : Nat := 0x2C068 + i * 4096
abbrev Reg.LANEn_EYE_RES (i : Nat) : Nat := 0x2C06C + i * 4096
abbrev Reg.LANEn_CODE_ERR_CNT (i : Nat) : Nat := 0x2C070 + i * 4096
abbrev Reg.LANEn_TSTART_CNT (i : Nat) : Nat := 0x2C074 + i * 4096
abbrev Reg.LANEn_TRIP_RX_CNT (i : Nat) : Nat := 0x2C078 + i * 4096
abbrev Reg.LANEn_SYNC_LOSS_CNT (i : Nat) : Nat := 0x2C07C + i * 4096
abbrev Reg.LANEn_STUFF_CNT (i : Nat) : Nat := 0x2C080 + i * 4096
abbrev Reg.LANEn_MARK_CNT (i : Nat) : Nat := 0x2C084 + i * 4096
abbrev Reg.LANEn_MARK_MISS_CNT (i : Nat) : Nat := 0x2C088 + i * 4096
abbrev Reg.LANEn_MARK_ARR (i : Nat) : Nat := 0x2C08C + i * 4096
abbrev Reg.LANEn_TUNE_STAT (i : Nat) : Nat := 0x2C090 + i * 4096
abbrev Reg.LANEn_PRBS_CFG (i : Nat) : Nat := 0x2C094 + i * 4096
abbrev Reg.LANEn_PRBS_STAT (i : Nat) : Nat := 0x2C098 + i * 4096
abbrev Reg.LANEn_PRBS_INJ (i : Nat) : Nat := 0x2C09C + i * 4096
abbrev Reg.LANEn_PRBS_BITS_LO (i : Nat) : Nat := 0x2C0A0 + i * 4096
abbrev Reg.LANEn_PRBS_BITS_HI (i : Nat) : Nat := 0x2C0A4 + i * 4096
abbrev Reg.LANEn_PRBS_ERR_LO (i : Nat) : Nat := 0x2C0A8 + i * 4096
abbrev Reg.LANEn_PRBS_ERR_HI (i : Nat) : Nat := 0x2C0AC + i * 4096
abbrev Reg.LANEn_PRBS_INJ_CNT (i : Nat) : Nat := 0x2C0B0 + i * 4096
abbrev Reg.LANEn_CLEAR (i : Nat) : Nat := 0x2C0B4 + i * 4096

/-! ## RINGn: R278, 13_rings_trains_cells.md -/
abbrev Reg.RINGn_CFG (i : Nat) : Nat := 0x3C040 + i * 4096
abbrev Reg.RINGn_CMD (i : Nat) : Nat := 0x3C044 + i * 4096
abbrev Reg.RINGn_STAT (i : Nat) : Nat := 0x3C048 + i * 4096
abbrev Reg.RINGn_TRAIN_RESULT (i : Nat) : Nat := 0x3C04C + i * 4096
abbrev Reg.RINGn_IQ_CTRL (i : Nat) : Nat := 0x3C050 + i * 4096
abbrev Reg.RINGn_IQ_ADDR (i : Nat) : Nat := 0x3C054 + i * 4096
abbrev Reg.RINGn_IQ_WDATA (i : Nat) : Nat := 0x3C058 + i * 4096
abbrev Reg.RINGn_IQ_STAT (i : Nat) : Nat := 0x3C05C + i * 4096
abbrev Reg.RINGn_IQ_RDATA (i : Nat) : Nat := 0x3C060 + i * 4096
abbrev Reg.RINGn_RX_OK_CNT (i : Nat) : Nat := 0x3C064 + i * 4096
abbrev Reg.RINGn_CRC32_ERR_CNT (i : Nat) : Nat := 0x3C068 + i * 4096
abbrev Reg.RINGn_HCRC_ERR_CNT (i : Nat) : Nat := 0x3C06C + i * 4096
abbrev Reg.RINGn_SLOT_ERR_CNT (i : Nat) : Nat := 0x3C070 + i * 4096
abbrev Reg.RINGn_SPLIT_CNT (i : Nat) : Nat := 0x3C074 + i * 4096
abbrev Reg.RINGn_RET_LATE_CNT (i : Nat) : Nat := 0x3C078 + i * 4096
abbrev Reg.RINGn_TAIL_D (i : Nat) : Nat := 0x3C07C + i * 4096
abbrev Reg.RINGn_TAIL_TRIM (i : Nat) : Nat := 0x3C080 + i * 4096
abbrev Reg.RINGn_E5_MAX (i : Nat) : Nat := 0x3C084 + i * 4096
abbrev Reg.RINGn_RET_LAST (i : Nat) : Nat := 0x3C088 + i * 4096
abbrev Reg.RINGn_RET_MAX (i : Nat) : Nat := 0x3C08C + i * 4096
abbrev Reg.RINGn_ECHO_AGE (i : Nat) : Nat := 0x3C090 + i * 4096
abbrev Reg.RINGn_CLEAR (i : Nat) : Nat := 0x3C094 + i * 4096

/-! ## CELLS: R279, 13_rings_trains_cells.md -/
abbrev Reg.CELLS_CMD : Nat := 0x44040
abbrev Reg.CELLS_CELL_SEL : Nat := 0x44044
abbrev Reg.CELLS_RES_BASE : Nat := 0x44048
abbrev Reg.CELLS_RES_CFG : Nat := 0x4404C
abbrev Reg.CELLS_ADMIT_CFG : Nat := 0x44050
abbrev Reg.CELLS_STALE_AGE : Nat := 0x44054
abbrev Reg.CELLS_SVC_CNT0 : Nat := 0x44058
abbrev Reg.CELLS_SVC_CNT1 : Nat := 0x4405C
abbrev Reg.CELLS_BYP_CNT : Nat := 0x44060
abbrev Reg.CELLS_LOST_CNT : Nat := 0x44064
abbrev Reg.CELLS_CELL_VIEW (k : Nat) : Nat := 0x44080 + k * 4

/-! ## CELL: R296, 14_cell_role.md -/
abbrev Reg.CELL_CFG : Nat := 0x45040
abbrev Reg.CELL_STAT : Nat := 0x45044
abbrev Reg.CELL_POSITION : Nat := 0x45048
abbrev Reg.CELL_ADMIT_GEN : Nat := 0x4504C
abbrev Reg.CELL_E0_DLY_A : Nat := 0x45050
abbrev Reg.CELL_E0_DLY_B : Nat := 0x45054
abbrev Reg.CELL_COAST_MAX_P : Nat := 0x45058
abbrev Reg.CELL_SAFE_AGE : Nat := 0x4505C
abbrev Reg.CELL_GEN_CFG (k : Nat) : Nat := 0x45060 + k * 4
abbrev Reg.CELL_LPROT_CFG : Nat := 0x45070
abbrev Reg.CELL_BYP_CFG : Nat := 0x45074
abbrev Reg.CELL_MEAS_SRC (k : Nat) : Nat := 0x45078 + k * 4
abbrev Reg.CELL_MEAS_OFS (k : Nat) : Nat := 0x45090 + k * 4
abbrev Reg.CELL_MEAS_GAIN (k : Nat) : Nat := 0x450A8 + k * 4
abbrev Reg.CELL_DIGEST_ANN (k : Nat) : Nat := 0x450C0 + k * 4
abbrev Reg.CELL_DIGEST_CALC (k : Nat) : Nat := 0x450E0 + k * 4
abbrev Reg.CELL_MEAS_V (k : Nat) : Nat := 0x45100 + k * 4
abbrev Reg.CELL_IMP_LAST (k : Nat) : Nat := 0x45118 + k * 4
abbrev Reg.CELL_IND_LAST (k : Nat) : Nat := 0x45124 + k * 4
abbrev Reg.CELL_PHASOR_PHI : Nat := 0x45138
abbrev Reg.CELL_PHASOR_STEP : Nat := 0x4513C
abbrev Reg.CELL_M_LAST : Nat := 0x45140
abbrev Reg.CELL_FAULT_CODE : Nat := 0x45144
abbrev Reg.CELL_LPROT_STAT : Nat := 0x45148
abbrev Reg.CELL_BYP_STAT : Nat := 0x4514C
abbrev Reg.CELL_FAULT_CLR : Nat := 0x45150
abbrev Reg.CELL_BYP_CLR : Nat := 0x45154
abbrev Reg.CELL_COAST_CNT : Nat := 0x45158
abbrev Reg.CELL_BLOCK_CNT : Nat := 0x4515C
abbrev Reg.CELL_IMP_BAD_CNT : Nat := 0x45160
abbrev Reg.CELL_POS_ERR_CNT : Nat := 0x45164
abbrev Reg.CELL_HCRC_BAD_CNT : Nat := 0x45168
abbrev Reg.CELL_LPROT_CNT : Nat := 0x4516C
abbrev Reg.CELL_CLEAR : Nat := 0x45170

/-! ## METC: R326, 15_metering_power_quality.md -/
abbrev Reg.METC_CFG : Nat := 0x46040
abbrev Reg.METC_MCLK_CFG : Nat := 0x46044
abbrev Reg.METC_LV_BASE : Nat := 0x46048
abbrev Reg.METC_LV_CTRL : Nat := 0x4604C
abbrev Reg.METC_STUCK_NOW : Nat := 0x46050
abbrev Reg.METC_STUCK_SEEN : Nat := 0x46054
abbrev Reg.METC_STUCK_CNT : Nat := 0x46058
abbrev Reg.METC_MDAT_CFG (k : Nat) : Nat := 0x46060 + k * 4
abbrev Reg.METC_LV (k : Nat) : Nat := 0x46080 + k * 4

/-! ## METn: R327, 15_metering_power_quality.md -/
abbrev Reg.METn_CFG (i : Nat) : Nat := 0x47040 + i * 4096
abbrev Reg.METn_STAT (i : Nat) : Nat := 0x47044 + i * 4096
abbrev Reg.METn_E_CMD (i : Nat) : Nat := 0x47048 + i * 4096
abbrev Reg.METn_E_LOAD_SRC (i : Nat) : Nat := 0x4704C + i * 4096
abbrev Reg.METn_HARM_BASE (i : Nat) : Nat := 0x47050 + i * 4096
abbrev Reg.METn_FREQ (i : Nat) : Nat := 0x47054 + i * 4096
abbrev Reg.METn_CYCLE_CNT (i : Nat) : Nat := 0x47058 + i * 4096
abbrev Reg.METn_RANGE_SW_CNT (i : Nat) : Nat := 0x4705C + i * 4096
abbrev Reg.METn_VMIN_TRACK (i : Nat) : Nat := 0x47060 + i * 4096
abbrev Reg.METn_PH_RATE (i : Nat) : Nat := 0x47064 + i * 4096
abbrev Reg.METn_REV_CNT (i : Nat) : Nat := 0x47068 + i * 4096
abbrev Reg.METn_HARM_SEQ (i : Nat) : Nat := 0x4706C + i * 4096
abbrev Reg.METn_V_RATIO (i : Nat) (k : Nat) : Nat := 0x47070 + i * 4096 + k * 4
abbrev Reg.METn_I_RATIO (i : Nat) (k : Nat) : Nat := 0x47080 + i * 4096 + k * 4
abbrev Reg.METn_V_GAIN (i : Nat) (k : Nat) : Nat := 0x470A0 + i * 4096 + k * 4
abbrev Reg.METn_V_PHASE (i : Nat) (k : Nat) : Nat := 0x470B0 + i * 4096 + k * 4
abbrev Reg.METn_I_GAIN (i : Nat) (k : Nat) : Nat := 0x470C0 + i * 4096 + k * 4
abbrev Reg.METn_I_PHASE (i : Nat) (k : Nat) : Nat := 0x471C0 + i * 4096 + k * 4
abbrev Reg.METn_VRMS (i : Nat) (k : Nat) : Nat := 0x472C0 + i * 4096 + k * 4
abbrev Reg.METn_VRMS1 (i : Nat) (k : Nat) : Nat := 0x472D0 + i * 4096 + k * 4
abbrev Reg.METn_IRMS (i : Nat) (k : Nat) : Nat := 0x472E0 + i * 4096 + k * 4
abbrev Reg.METn_IRMS1 (i : Nat) (k : Nat) : Nat := 0x472F0 + i * 4096 + k * 4
abbrev Reg.METn_P (i : Nat) (k : Nat) : Nat := 0x47300 + i * 4096 + k * 4
abbrev Reg.METn_P1 (i : Nat) (k : Nat) : Nat := 0x47310 + i * 4096 + k * 4
abbrev Reg.METn_Q1 (i : Nat) (k : Nat) : Nat := 0x47320 + i * 4096 + k * 4
abbrev Reg.METn_S (i : Nat) (k : Nat) : Nat := 0x47330 + i * 4096 + k * 4
abbrev Reg.METn_PF (i : Nat) : Nat := 0x47340 + i * 4096
abbrev Reg.METn_MEAS_CYC (i : Nat) : Nat := 0x47344 + i * 4096
abbrev Reg.METn_EIMP_LO (i : Nat) : Nat := 0x47350 + i * 4096
abbrev Reg.METn_EIMP_HI (i : Nat) : Nat := 0x47354 + i * 4096
abbrev Reg.METn_EEXP_LO (i : Nat) : Nat := 0x47358 + i * 4096
abbrev Reg.METn_EEXP_HI (i : Nat) : Nat := 0x4735C + i * 4096
abbrev Reg.METn_EQ1_LO (i : Nat) : Nat := 0x47360 + i * 4096
abbrev Reg.METn_EQ1_HI (i : Nat) : Nat := 0x47364 + i * 4096
abbrev Reg.METn_EQ2_LO (i : Nat) : Nat := 0x47368 + i * 4096
abbrev Reg.METn_EQ2_HI (i : Nat) : Nat := 0x4736C + i * 4096
abbrev Reg.METn_EQ3_LO (i : Nat) : Nat := 0x47370 + i * 4096
abbrev Reg.METn_EQ3_HI (i : Nat) : Nat := 0x47374 + i * 4096
abbrev Reg.METn_EQ4_LO (i : Nat) : Nat := 0x47378 + i * 4096
abbrev Reg.METn_EQ4_HI (i : Nat) : Nat := 0x4737C + i * 4096
abbrev Reg.METn_ESA_LO (i : Nat) : Nat := 0x47380 + i * 4096
abbrev Reg.METn_ESA_HI (i : Nat) : Nat := 0x47384 + i * 4096
abbrev Reg.METn_ESV_LO (i : Nat) : Nat := 0x47388 + i * 4096
abbrev Reg.METn_ESV_HI (i : Nat) : Nat := 0x4738C + i * 4096
abbrev Reg.METn_ENET_LO (i : Nat) : Nat := 0x47390 + i * 4096
abbrev Reg.METn_ENET_HI (i : Nat) : Nat := 0x47394 + i * 4096
abbrev Reg.METn_FAST (i : Nat) (k : Nat) : Nat := 0x47398 + i * 4096 + k * 4
abbrev Reg.METn_E_CYC (i : Nat) : Nat := 0x473BC + i * 4096
abbrev Reg.METn_DIR_STAT (i : Nat) : Nat := 0x473C0 + i * 4096
abbrev Reg.METn_PH_NS (i : Nat) : Nat := 0x473D0 + i * 4096
abbrev Reg.METn_PH_SEC_LO (i : Nat) : Nat := 0x473D4 + i * 4096
abbrev Reg.METn_PH_VMAG (i : Nat) (k : Nat) : Nat := 0x473D8 + i * 4096 + k * 4
abbrev Reg.METn_PH_VANG (i : Nat) (k : Nat) : Nat := 0x473E8 + i * 4096 + k * 4
abbrev Reg.METn_PH_IMAG (i : Nat) (k : Nat) : Nat := 0x473F8 + i * 4096 + k * 4
abbrev Reg.METn_PH_IANG (i : Nat) (k : Nat) : Nat := 0x47408 + i * 4096 + k * 4
abbrev Reg.METn_PH_FREQ (i : Nat) : Nat := 0x47418 + i * 4096
abbrev Reg.METn_PH_ROCOF (i : Nat) : Nat := 0x4741C + i * 4096

/-! ## PQ: R328, 15_metering_power_quality.md -/
abbrev Reg.PQ_CFG : Nat := 0x4A040
abbrev Reg.PQ_STAT : Nat := 0x4A044
abbrev Reg.PQ_U_DIN : Nat := 0x4A048
abbrev Reg.PQ_SAG_TH : Nat := 0x4A04C
abbrev Reg.PQ_SWELL_TH : Nat := 0x4A050
abbrev Reg.PQ_INT_TH : Nat := 0x4A054
abbrev Reg.PQ_HYST : Nat := 0x4A058
abbrev Reg.PQ_URMS_H (k : Nat) : Nat := 0x4A05C + k * 4
abbrev Reg.PQ_U_AGG (k : Nat) : Nat := 0x4A06C + k * 4
abbrev Reg.PQ_AGG_FLAG : Nat := 0x4A078
abbrev Reg.PQ_AGG_CNT : Nat := 0x4A07C
abbrev Reg.PQ_FREQ10 : Nat := 0x4A080
abbrev Reg.PQ_EV_WR : Nat := 0x4A084
abbrev Reg.PQ_EV_RD : Nat := 0x4A088
abbrev Reg.PQ_EV_OVF_CNT : Nat := 0x4A08C
abbrev Reg.PQ_DIP_CNT : Nat := 0x4A090
abbrev Reg.PQ_SWELL_CNT : Nat := 0x4A094
abbrev Reg.PQ_INT_CNT : Nat := 0x4A098
abbrev Reg.PQ_EV_INFO (k : Nat) : Nat := 0x4A0C0 + k * 16
abbrev Reg.PQ_EV_START_NS (k : Nat) : Nat := 0x4A0C4 + k * 16
abbrev Reg.PQ_EV_START_SEC_LO (k : Nat) : Nat := 0x4A0C8 + k * 16
abbrev Reg.PQ_EV_DURATION (k : Nat) : Nat := 0x4A0CC + k * 16

/-! ## STNn: R373, 17_station_ports.md -/
abbrev Reg.STNn_CFG (i : Nat) : Nat := 0x4B040 + i * 4096
abbrev Reg.STNn_STAT (i : Nat) : Nat := 0x4B044 + i * 4096
abbrev Reg.STNn_MAC_LO (i : Nat) : Nat := 0x4B048 + i * 4096
abbrev Reg.STNn_MAC_HI (i : Nat) : Nat := 0x4B04C + i * 4096
abbrev Reg.STNn_MAX_LEN (i : Nat) : Nat := 0x4B050 + i * 4096
abbrev Reg.STNn_TS_ASYM (i : Nat) : Nat := 0x4B054 + i * 4096
abbrev Reg.STNn_RX_BASE (i : Nat) : Nat := 0x4B058 + i * 4096
abbrev Reg.STNn_RX_CFG (i : Nat) : Nat := 0x4B05C + i * 4096
abbrev Reg.STNn_RX_HEAD (i : Nat) : Nat := 0x4B060 + i * 4096
abbrev Reg.STNn_RX_TAIL (i : Nat) : Nat := 0x4B064 + i * 4096
abbrev Reg.STNn_TX_BASE (i : Nat) : Nat := 0x4B068 + i * 4096
abbrev Reg.STNn_TX_CFG (i : Nat) : Nat := 0x4B06C + i * 4096
abbrev Reg.STNn_TX_HEAD (i : Nat) : Nat := 0x4B070 + i * 4096
abbrev Reg.STNn_TX_TAIL (i : Nat) : Nat := 0x4B074 + i * 4096
abbrev Reg.STNn_RX_FRAMES (i : Nat) : Nat := 0x4B078 + i * 4096
abbrev Reg.STNn_TX_FRAMES (i : Nat) : Nat := 0x4B07C + i * 4096
abbrev Reg.STNn_FCS_ERR_CNT (i : Nat) : Nat := 0x4B080 + i * 4096
abbrev Reg.STNn_LEN_ERR_CNT (i : Nat) : Nat := 0x4B084 + i * 4096
abbrev Reg.STNn_RX_DROP_CNT (i : Nat) : Nat := 0x4B088 + i * 4096
abbrev Reg.STNn_PAUSE_CNT (i : Nat) : Nat := 0x4B08C + i * 4096
abbrev Reg.STNn_LINK_DOWN_CNT (i : Nat) : Nat := 0x4B090 + i * 4096
abbrev Reg.STNn_CLEAR (i : Nat) : Nat := 0x4B094 + i * 4096

/-! ## PRP: R374, 17_station_ports.md -/
abbrev Reg.PRP_CFG : Nat := 0x4D040
abbrev Reg.PRP_DD_TIME : Nat := 0x4D044
abbrev Reg.PRP_LIFE_CHECK : Nat := 0x4D048
abbrev Reg.PRP_TX_SEQ : Nat := 0x4D04C
abbrev Reg.PRP_DUP_CNT : Nat := 0x4D050
abbrev Reg.PRP_WRONG_LAN_CNT : Nat := 0x4D054
abbrev Reg.PRP_DD_FULL_CNT : Nat := 0x4D058
abbrev Reg.PRP_HSR_FWD_CNT : Nat := 0x4D05C
abbrev Reg.PRP_HSR_OWN_CNT : Nat := 0x4D060
abbrev Reg.PRP_CLEAR : Nat := 0x4D064

/-! ## PTP: R375, 17_station_ports.md -/
abbrev Reg.PTP_CFG : Nat := 0x4E040
abbrev Reg.PTP_STAT : Nat := 0x4E044
abbrev Reg.PTP_CLOCK_ID_LO : Nat := 0x4E048
abbrev Reg.PTP_CLOCK_ID_HI : Nat := 0x4E04C
abbrev Reg.PTP_GM_ID_LO : Nat := 0x4E050
abbrev Reg.PTP_GM_ID_HI : Nat := 0x4E054
abbrev Reg.PTP_GM_PRIO : Nat := 0x4E058
abbrev Reg.PTP_UTC_OFFSET : Nat := 0x4E05C
abbrev Reg.PTP_TTI : Nat := 0x4E060
abbrev Reg.PTP_OFFSET : Nat := 0x4E064
abbrev Reg.PTP_MPD0 : Nat := 0x4E068
abbrev Reg.PTP_MPD1 : Nat := 0x4E06C
abbrev Reg.PTP_SYNC_CNT : Nat := 0x4E070
abbrev Reg.PTP_ANN_TMO_CNT : Nat := 0x4E074
abbrev Reg.PTP_PD_FAIL_CNT : Nat := 0x4E078
abbrev Reg.PTP_MASTER_CHG_CNT : Nat := 0x4E07C
abbrev Reg.PTP_TC_CNT : Nat := 0x4E080
abbrev Reg.PTP_CLEAR : Nat := 0x4E084

/-! ## GOOSE: R376, 17_station_ports.md -/
abbrev Reg.GOOSE_CFG : Nat := 0x4F040
abbrev Reg.GOOSE_SUB_CMD : Nat := 0x4F044
abbrev Reg.GOOSE_SUB_SEL : Nat := 0x4F048
abbrev Reg.GOOSE_NEW_HANDLE : Nat := 0x4F04C
abbrev Reg.GOOSE_CTRL_IN : Nat := 0x4F050
abbrev Reg.GOOSE_CIN_BASE : Nat := 0x4F054
abbrev Reg.GOOSE_GIN : Nat := 0x4F058
abbrev Reg.GOOSE_TT_IN : Nat := 0x4F05C
abbrev Reg.GOOSE_STALE_LO : Nat := 0x4F060
abbrev Reg.GOOSE_STALE_HI : Nat := 0x4F064
abbrev Reg.GOOSE_RX_OK_CNT : Nat := 0x4F068
abbrev Reg.GOOSE_STALE_CNT : Nat := 0x4F06C
abbrev Reg.GOOSE_TYPE_ERR_CNT : Nat := 0x4F070
abbrev Reg.GOOSE_SEQ_DROP_CNT : Nat := 0x4F074
abbrev Reg.GOOSE_CLEAR : Nat := 0x4F078
abbrev Reg.GOOSE_TAL_MAX : Nat := 0x4F07C
abbrev Reg.GOOSE_SUB_CFG (k : Nat) : Nat := 0x4F080 + k * 32
abbrev Reg.GOOSE_SUB_APPID (k : Nat) : Nat := 0x4F084 + k * 32
abbrev Reg.GOOSE_SUB_GOCB_HASH (k : Nat) : Nat := 0x4F088 + k * 32
abbrev Reg.GOOSE_SUB_CONF_REV (k : Nat) : Nat := 0x4F08C + k * 32
abbrev Reg.GOOSE_SUB_STAT (k : Nat) : Nat := 0x4F090 + k * 32
abbrev Reg.GOOSE_SUB_ST_NUM (k : Nat) : Nat := 0x4F094 + k * 32
abbrev Reg.GOOSE_SUB_SQ_NUM (k : Nat) : Nat := 0x4F098 + k * 32
abbrev Reg.GOOSE_SUB_TAL_LEFT (k : Nat) : Nat := 0x4F09C + k * 32
abbrev Reg.GOOSE_PUB_CFG (k : Nat) : Nat := 0x4F880 + k * 64
abbrev Reg.GOOSE_PUB_TMPL_BASE (k : Nat) : Nat := 0x4F884 + k * 64
abbrev Reg.GOOSE_PUB_MIN_T (k : Nat) : Nat := 0x4F888 + k * 64
abbrev Reg.GOOSE_PUB_MAX_T (k : Nat) : Nat := 0x4F88C + k * 64
abbrev Reg.GOOSE_PUB_SRC_OW (k : Nat) : Nat := 0x4F890 + k * 64
abbrev Reg.GOOSE_PUB_DATA (k : Nat) : Nat := 0x4F894 + k * 64
abbrev Reg.GOOSE_PUB_ST_NUM (k : Nat) : Nat := 0x4F898 + k * 64
abbrev Reg.GOOSE_PUB_SQ_NUM (k : Nat) : Nat := 0x4F89C + k * 64
abbrev Reg.GOOSE_PUB_LAST_DATA (k : Nat) : Nat := 0x4F8A0 + k * 64
abbrev Reg.GOOSE_PUB_TX_CNT (k : Nat) : Nat := 0x4F8A4 + k * 64
abbrev Reg.GOOSE_PUB_STAT (k : Nat) : Nat := 0x4F8A8 + k * 64

/-! ## SV: R377, 17_station_ports.md -/
abbrev Reg.SV_CFG : Nat := 0x50040
abbrev Reg.SV_STAT : Nat := 0x50044
abbrev Reg.SV_TMPL_BASE : Nat := 0x50048
abbrev Reg.SV_SMP_CNT : Nat := 0x5004C
abbrev Reg.SV_TX_CNT : Nat := 0x50050
abbrev Reg.SV_OVF_CNT : Nat := 0x50054
abbrev Reg.SV_CLEAR : Nat := 0x50058

/-! ## GRD: R353, 16_guard_domain.md -/
abbrev Reg.GRD_STAT : Nat := 0x51040
abbrev Reg.GRD_TRIP_LATCH : Nat := 0x51044
abbrev Reg.GRD_TRIP_ACTIVE : Nat := 0x51048
abbrev Reg.GRD_TRIP_RESET : Nat := 0x5104C
abbrev Reg.GRD_GTRIP_STAT : Nat := 0x51050
abbrev Reg.GRD_PROF_ID : Nat := 0x51054
abbrev Reg.GRD_PROF_VER : Nat := 0x51058
abbrev Reg.GRD_V_SCALE : Nat := 0x5105C
abbrev Reg.GRD_DC_SCALE : Nat := 0x51060
abbrev Reg.GRD_MEAS_CFG : Nat := 0x51064
abbrev Reg.GRD_REQ_CFG : Nat := 0x51068
abbrev Reg.GRD_REQ_DELAY (k : Nat) : Nat := 0x5106C + k * 4
abbrev Reg.GRD_HB_CFG : Nat := 0x51078
abbrev Reg.GRD_FN_MAP0 : Nat := 0x5107C
abbrev Reg.GRD_FN_MAP1 : Nat := 0x51080
abbrev Reg.GRD_GTRIP_CFG : Nat := 0x51084
abbrev Reg.GRD_HB_LAST : Nat := 0x51088
abbrev Reg.GRD_GOOSE_IN : Nat := 0x5108C
abbrev Reg.GRD_TRIP_CNT : Nat := 0x51090
abbrev Reg.GRD_GTRIP_FLT_CNT : Nat := 0x51094
abbrev Reg.GRD_FIRST_FN : Nat := 0x51098
abbrev Reg.GRD_FIRST_NS : Nat := 0x5109C
abbrev Reg.GRD_FIRST_SEC_LO : Nat := 0x510A0

/-! ## GCURVE: R354, 16_guard_domain.md -/
abbrev Reg.GCURVE_STG_CFG (k : Nat) : Nat := 0x52040 + k * 4
abbrev Reg.GCURVE_PT (k : Nat) : Nat := 0x52080 + k * 4
abbrev Reg.GCURVE_STG_STAT (k : Nat) : Nat := 0x52280 + k * 4

/-! ## GSEAL: R355, 16_guard_domain.md -/
abbrev Reg.GSEAL_STAT : Nat := 0x53040
abbrev Reg.GSEAL_CMD : Nat := 0x53044
abbrev Reg.GSEAL_REFUSE : Nat := 0x53048
abbrev Reg.GSEAL_SW_NOW : Nat := 0x5304C
abbrev Reg.GSEAL_SW_SEAL : Nat := 0x53050
abbrev Reg.GSEAL_SW_UNSEAL : Nat := 0x53054
abbrev Reg.GSEAL_SW_CHG_CNT : Nat := 0x53058
abbrev Reg.GSEAL_NONCE_LO : Nat := 0x5305C
abbrev Reg.GSEAL_NONCE_HI : Nat := 0x53060
abbrev Reg.GSEAL_AUTH (k : Nat) : Nat := 0x53064 + k * 4
abbrev Reg.GSEAL_NEW_DIGEST (k : Nat) : Nat := 0x53084 + k * 4
abbrev Reg.GSEAL_ACT_DIGEST (k : Nat) : Nat := 0x530A4 + k * 4
abbrev Reg.GSEAL_ACT_TIME : Nat := 0x530C4
abbrev Reg.GSEAL_SLOT_SEL : Nat := 0x530C8
abbrev Reg.GSEAL_SLOT_VIEW : Nat := 0x530CC
abbrev Reg.GSEAL_SLOT_TIME : Nat := 0x530D0
abbrev Reg.GSEAL_SLOT_DIGEST (k : Nat) : Nat := 0x530D4 + k * 4
abbrev Reg.GSEAL_OPEN_LEFT : Nat := 0x530F4
abbrev Reg.GSEAL_AUTH_FAIL_CNT : Nat := 0x530F8

/-! ## GSAFE: R356, 16_guard_domain.md -/
abbrev Reg.GSAFE_STAT : Nat := 0x54040
abbrev Reg.GSAFE_CFG : Nat := 0x54044
abbrev Reg.GSAFE_DISC_T : Nat := 0x54048
abbrev Reg.GSAFE_ESTOP_DELAY : Nat := 0x5404C
abbrev Reg.GSAFE_FAULT : Nat := 0x54050
abbrev Reg.GSAFE_FAULT_CLR : Nat := 0x54054
abbrev Reg.GSAFE_DEMAND_CNT : Nat := 0x54058
abbrev Reg.GSAFE_FAULT_CNT : Nat := 0x5405C
abbrev Reg.GSAFE_TP_STAT : Nat := 0x54060

/-! ## AUXP: R405, 19_identity_aux_pumps.md -/
abbrev Reg.AUXP_CTRL : Nat := 0x55040
abbrev Reg.AUXP_SPD_BASE : Nat := 0x55044
abbrev Reg.AUXP_P_CFG (k : Nat) : Nat := 0x55080 + k * 64
abbrev Reg.AUXP_P_STAT (k : Nat) : Nat := 0x55084 + k * 64
abbrev Reg.AUXP_P_POS (k : Nat) : Nat := 0x55088 + k * 64
abbrev Reg.AUXP_P_SPEED (k : Nat) : Nat := 0x5508C + k * 64
abbrev Reg.AUXP_P_INTERVAL (k : Nat) : Nat := 0x55090 + k * 64
abbrev Reg.AUXP_P_DUTY_OW (k : Nat) : Nat := 0x55094 + k * 64
abbrev Reg.AUXP_P_MAX_DUTY (k : Nat) : Nat := 0x55098 + k * 64
abbrev Reg.AUXP_P_STALL_T (k : Nat) : Nat := 0x5509C + k * 64
abbrev Reg.AUXP_P_SKIP_CNT (k : Nat) : Nat := 0x550A0 + k * 64
abbrev Reg.AUXP_P_HALL_ERR_CNT (k : Nat) : Nat := 0x550A4 + k * 64
abbrev Reg.AUXP_P_CLEAR (k : Nat) : Nat := 0x550A8 + k * 64

/-! ## IDM: R404, 19_identity_aux_pumps.md -/
abbrev Reg.IDM_CFG : Nat := 0x56040
abbrev Reg.IDM_CMD : Nat := 0x56044
abbrev Reg.IDM_STAT : Nat := 0x56048
abbrev Reg.IDM_MOD_BASE : Nat := 0x5604C
abbrev Reg.IDM_REC_BASE : Nat := 0x56050
abbrev Reg.IDM_BUS_ERR_CNT : Nat := 0x56054
abbrev Reg.IDM_MOD_STAT (k : Nat) : Nat := 0x56080 + k * 4
abbrev Reg.IDM_REC_CFG (k : Nat) : Nat := 0x560C0 + k * 4
abbrev Reg.IDM_REC_STAT (k : Nat) : Nat := 0x56100 + k * 4

/-! ## TEST: R416, 20_service_life_log.md -/
abbrev Reg.TEST_SCRUB_CFG : Nat := 0x57040
abbrev Reg.TEST_SCRUB_STAT : Nat := 0x57044
abbrev Reg.TEST_CE_CNT : Nat := 0x57048
abbrev Reg.TEST_UE_CNT : Nat := 0x5704C
abbrev Reg.TEST_CE_ADDR : Nat := 0x57050
abbrev Reg.TEST_UE_ADDR : Nat := 0x57054
abbrev Reg.TEST_TJ : Nat := 0x57058
abbrev Reg.TEST_SEC_105 : Nat := 0x5705C
abbrev Reg.TEST_SEC_125 : Nat := 0x57060
abbrev Reg.TEST_AGE_LOAD_105 : Nat := 0x57064
abbrev Reg.TEST_AGE_LOAD_125 : Nat := 0x57068
abbrev Reg.TEST_AGE_CMD : Nat := 0x5706C
abbrev Reg.TEST_AGE_STAT : Nat := 0x57070
abbrev Reg.TEST_RO_DRIFT : Nat := 0x57074
abbrev Reg.TEST_RO_LIM : Nat := 0x57078
abbrev Reg.TEST_CLEAR : Nat := 0x5707C
abbrev Reg.TEST_LANE_MIN (k : Nat) : Nat := 0x57080 + k * 4

end Sys2Proof.Machine
end

