-- ==== Sys2Proof/Machine/RegTable.lean ====
section
/-! DEFINITION. The register tables of spec/ as data: for every row its offset, number of elements and stride, access code (R6),
reset value and the bits a write stores (reserved bits and self-clearing command bits store nothing, R7). Reset values marked OTP,
silicon, profile or random are 0 here: those registers are views of Config and of the Guard (readReg). -/
namespace Sys2Proof.Machine

/-- The access codes of R6. SEAL registers are the CMD of GSEAL, a command of its own. -/
inductive Acc where
  | rw | ro | w1c | wo | snap | cmt
  deriving DecidableEq, Repr

/-- One row of a register table. -/
structure RegRow where
  off : Nat
  n : Nat
  stride : Nat
  acc : Acc
  reset : Nat
  store : Nat
  deriving DecidableEq, Repr

/-- Register rows of ID (R44). -/
def rowsIDpart : List RegRow := [
  ⟨0x040, 1, 4, .ro, 0x18760, 0x0⟩,
  ⟨0x044, 1, 4, .ro, 0x0, 0x0⟩,
  ⟨0x048, 1, 4, .ro, 0x0, 0x0⟩,
  ⟨0x04C, 1, 4, .ro, 0x0, 0x0⟩,
  ⟨0x050, 1, 4, .ro, 0x0, 0x0⟩,
  ⟨0x054, 1, 4, .ro, 0x4C, 0x0⟩,
  ⟨0x058, 1, 4, .ro, 0x0, 0x0⟩,
  ⟨0x05C, 1, 4, .ro, 0x0, 0x0⟩,
  ⟨0x060, 1, 4, .ro, 0x0, 0x0⟩,
  ⟨0x064, 1, 4, .ro, 0x3180808, 0x0⟩]
/-- All register rows of ID. -/
def rowsIDAll : List RegRow := rowsIDpart

/-- Register rows of CLK (R76). -/
def rowsCLKpart : List RegRow := [
  ⟨0x040, 1, 4, .rw, 0x0, 0x2⟩,
  ⟨0x044, 1, 4, .ro, 0x0, 0x0⟩,
  ⟨0x048, 1, 4, .cmt, 0x80, 0x1FF⟩,
  ⟨0x04C, 1, 4, .cmt, 0x0, 0xFFFFFF⟩,
  ⟨0x050, 1, 4, .ro, 0x80000000, 0x0⟩,
  ⟨0x054, 1, 4, .rw, 0xC80014, 0xFFFFFFFF⟩,
  ⟨0x058, 1, 4, .rw, 0x0, 0x807FFFFF⟩,
  ⟨0x05C, 1, 4, .ro, 0x0, 0x0⟩,
  ⟨0x060, 1, 4, .ro, 0x0, 0x0⟩,
  ⟨0x064, 1, 4, .rw, 0x61A8, 0x3FFFF⟩,
  ⟨0x068, 1, 4, .ro, 0x0, 0x0⟩,
  ⟨0x080, 32, 4, .rw, 0x0, 0xFFFFFFFF⟩]
/-- All register rows of CLK. -/
def rowsCLKAll : List RegRow := rowsCLKpart

/-- Register rows of PWR (R59). -/
def rowsPWRpart : List RegRow := [
  ⟨0x040, 1, 4, .rw, 0x7, 0x7⟩,
  ⟨0x044, 1, 4, .ro, 0x701, 0x0⟩,
  ⟨0x048, 1, 4, .ro, 0x0, 0x0⟩,
  ⟨0x04C, 1, 4, .ro, 0x0, 0x0⟩,
  ⟨0x050, 1, 4, .ro, 0x0, 0x0⟩,
  ⟨0x054, 1, 4, .ro, 0x0, 0x0⟩,
  ⟨0x058, 1, 4, .ro, 0x0, 0x0⟩,
  ⟨0x05C, 1, 4, .wo, 0x0, 0x0⟩,
  ⟨0x060, 1, 4, .wo, 0x0, 0x0⟩,
  ⟨0x064, 1, 4, .rw, 0x0, 0x1⟩,
  ⟨0x068, 1, 4, .ro, 0x0, 0x0⟩,
  ⟨0x06C, 1, 4, .ro, 0x0, 0x0⟩]
/-- All register rows of PWR. -/
def rowsPWRAll : List RegRow := rowsPWRpart

/-- Register rows of HOST (R435). -/
def rowsHOSTpart : List RegRow := [
  ⟨0x040, 1, 4, .rw, 0x0, 0x3⟩,
  ⟨0x044, 1, 4, .ro, 0x0, 0x0⟩,
  ⟨0x048, 1, 4, .ro, 0x0, 0x0⟩,
  ⟨0x04C, 1, 4, .ro, 0x0, 0x0⟩,
  ⟨0x050, 1, 4, .ro, 0x0, 0x0⟩,
  ⟨0x054, 3, 4, .ro, 0x0, 0x0⟩,
  ⟨0x060, 1, 4, .ro, 0x0, 0x0⟩,
  ⟨0x064, 1, 4, .ro, 0x0, 0x0⟩,
  ⟨0x068, 1, 4, .ro, 0x0, 0x0⟩,
  ⟨0x06C, 1, 4, .wo, 0x0, 0x0⟩,
  ⟨0x070, 1, 4, .rw, 0x0, 0xFFFFFFF8⟩,
  ⟨0x074, 1, 4, .rw, 0x0, 0xFFFFFFFF⟩,
  ⟨0x078, 1, 4, .rw, 0x0, 0x1⟩,
  ⟨0x07C, 1, 4, .wo, 0x0, 0x0⟩,
  ⟨0x080, 1, 4, .ro, 0x0, 0x0⟩,
  ⟨0x084, 1, 4, .ro, 0x0, 0x0⟩,
  ⟨0x088, 1, 4, .ro, 0x0, 0x0⟩,
  ⟨0x180, 64, 4, .rw, 0x0, 0xFFFFFFFF⟩]
/-- All register rows of HOST. -/
def rowsHOSTAll : List RegRow := rowsHOSTpart

/-- Register rows of LOG (R415). -/
def rowsLOGpart : List RegRow := [
  ⟨0x040, 1, 4, .rw, 0x0, 0x3FFFF⟩,
  ⟨0x044, 1, 4, .ro, 0x0, 0x0⟩,
  ⟨0x048, 1, 4, .rw, 0x0, 0x1FFF⟩,
  ⟨0x04C, 1, 4, .ro, 0x0, 0x0⟩,
  ⟨0x050, 1, 4, .rw, 0x800, 0x1FFF⟩,
  ⟨0x054, 1, 4, .ro, 0x0, 0x0⟩,
  ⟨0x058, 1, 4, .ro, 0x0, 0x0⟩,
  ⟨0x05C, 1, 4, .ro, 0x0, 0x0⟩,
  ⟨0x060, 1, 4, .ro, 0x0, 0x0⟩,
  ⟨0x064, 1, 4, .rw, 0x0, 0x3FF⟩,
  ⟨0x068, 8, 4, .snap, 0x0, 0x0⟩,
  ⟨0x088, 1, 4, .ro, 0x0, 0x0⟩,
  ⟨0x08C, 1, 4, .ro, 0x0, 0x0⟩,
  ⟨0x090, 1, 4, .wo, 0x0, 0x0⟩]
/-- All register rows of LOG. -/
def rowsLOGAll : List RegRow := rowsLOGpart

/-- Register rows of KEEP (R391). -/
def rowsKEEPpart : List RegRow := [
  ⟨0x040, 1, 4, .rw, 0x2, 0x3⟩,
  ⟨0x044, 1, 4, .ro, 0x0, 0x0⟩,
  ⟨0x048, 1, 4, .ro, 0x0, 0x0⟩,
  ⟨0x04C, 1, 4, .rw, 0xD48, 0x1FFF⟩,
  ⟨0x050, 1, 4, .rw, 0xE74, 0x1FFF⟩,
  ⟨0x054, 1, 4, .rw, 0xCE4, 0x1FFF⟩,
  ⟨0x058, 1, 4, .rw, 0x114, 0x1FF⟩,
  ⟨0x05C, 1, 4, .ro, 0x0, 0x0⟩,
  ⟨0x060, 1, 4, .ro, 0x0, 0x0⟩,
  ⟨0x064, 1, 4, .ro, 0x0, 0x0⟩,
  ⟨0x068, 1, 4, .snap, 0x0, 0x0⟩,
  ⟨0x06C, 1, 4, .snap, 0x0, 0x0⟩,
  ⟨0x070, 1, 4, .snap, 0x0, 0x0⟩,
  ⟨0x074, 1, 4, .rw, 0x0, 0xFFFF⟩,
  ⟨0x078, 1, 4, .rw, 0x80100, 0xFF0F37⟩,
  ⟨0x07C, 1, 4, .ro, 0x0, 0x0⟩,
  ⟨0x080, 1, 4, .rw, 0x0, 0xFFF0FFF⟩,
  ⟨0x084, 1, 4, .rw, 0xE100010, 0xFFFF00FF⟩,
  ⟨0x088, 1, 4, .wo, 0x0, 0x0⟩,
  ⟨0x08C, 1, 4, .ro, 0x0, 0x0⟩,
  ⟨0x090, 1, 4, .rw, 0x32, 0x1FF⟩,
  ⟨0x094, 1, 4, .wo, 0x0, 0x0⟩,
  ⟨0x098, 1, 4, .ro, 0x0, 0x0⟩,
  ⟨0x09C, 1, 4, .ro, 0x0, 0x0⟩,
  ⟨0x0A0, 1, 4, .ro, 0x0, 0x0⟩,
  ⟨0x0A4, 1, 4, .ro, 0x0, 0x0⟩,
  ⟨0x0A8, 1, 4, .ro, 0x0, 0x0⟩,
  ⟨0x0AC, 1, 4, .ro, 0x0, 0x0⟩,
  ⟨0x0B0, 1, 4, .ro, 0x0, 0x0⟩,
  ⟨0x0B4, 1, 4, .wo, 0x0, 0x0⟩]
/-- All register rows of KEEP. -/
def rowsKEEPAll : List RegRow := rowsKEEPpart

/-- Register rows of TIME (R77). -/
def rowsTIMEpart : List RegRow := [
  ⟨0x040, 1, 4, .cmt, 0x186A0, 0xFFFFFF⟩,
  ⟨0x044, 1, 4, .ro, 0x0, 0x0⟩,
  ⟨0x048, 1, 4, .ro, 0x0, 0x0⟩,
  ⟨0x04C, 1, 4, .ro, 0x0, 0x0⟩,
  ⟨0x050, 1, 4, .rw, 0x64, 0xFFFF⟩,
  ⟨0x054, 1, 4, .rw, 0x0, 0xFFFFFF⟩,
  ⟨0x058, 1, 4, .ro, 0x0, 0x0⟩,
  ⟨0x05C, 1, 4, .snap, 0x0, 0x0⟩,
  ⟨0x060, 1, 4, .snap, 0x0, 0x0⟩,
  ⟨0x064, 1, 4, .snap, 0x0, 0x0⟩,
  ⟨0x068, 1, 4, .snap, 0x0, 0x0⟩,
  ⟨0x06C, 1, 4, .snap, 0x0, 0x0⟩,
  ⟨0x070, 1, 4, .snap, 0x0, 0x0⟩,
  ⟨0x074, 1, 4, .rw, 0x0, 0xFFFFFFFF⟩,
  ⟨0x078, 1, 4, .rw, 0x0, 0xFFFFFFFF⟩,
  ⟨0x07C, 1, 4, .rw, 0x0, 0xFFFF⟩,
  ⟨0x080, 1, 4, .wo, 0x0, 0x0⟩,
  ⟨0x084, 1, 4, .rw, 0x0, 0xFFFFFFFF⟩,
  ⟨0x088, 1, 4, .rw, 0x0, 0x3⟩,
  ⟨0x08C, 1, 4, .rw, 0x200200, 0xFFFFFFFF⟩,
  ⟨0x090, 1, 4, .rw, 0x20000, 0xFFFFFF⟩,
  ⟨0x094, 1, 4, .rw, 0x186A0, 0xFFFFFFFF⟩,
  ⟨0x098, 1, 4, .rw, 0x100064, 0xFFFFFF⟩,
  ⟨0x09C, 1, 4, .ro, 0x100, 0x0⟩,
  ⟨0x0A0, 1, 4, .ro, 0x0, 0x0⟩,
  ⟨0x0A4, 1, 4, .rw, 0x0, 0x1FFFFFF⟩,
  ⟨0x0A8, 1, 4, .ro, 0x0, 0x0⟩,
  ⟨0x0AC, 1, 4, .rw, 0x0, 0x301FF⟩,
  ⟨0x0B0, 1, 4, .ro, 0x0, 0x0⟩,
  ⟨0x0B4, 1, 4, .rw, 0x0, 0xFFFF⟩]
/-- Register rows of TIME (R77). -/
def rowsTIME_1part : List RegRow := [
  ⟨0x0B8, 1, 4, .rw, 0x0, 0x1⟩,
  ⟨0x0BC, 1, 4, .ro, 0x0, 0x0⟩,
  ⟨0x0C0, 1, 4, .ro, 0x0, 0x0⟩,
  ⟨0x0C4, 1, 4, .ro, 0x0, 0x0⟩]
/-- All register rows of TIME. -/
def rowsTIMEAll : List RegRow := rowsTIMEpart ++ rowsTIME_1part

/-- Register rows of SYNC (R164). -/
def rowsSYNCpart : List RegRow := [
  ⟨0x040, 1, 4, .rw, 0x0, 0x3⟩,
  ⟨0x044, 1, 4, .ro, 0x0, 0x0⟩,
  ⟨0x048, 1, 4, .rw, 0x0, 0x19F9F9F⟩,
  ⟨0x04C, 1, 4, .rw, 0x0, 0x19F9F9F⟩,
  ⟨0x050, 1, 4, .rw, 0x3F800000, 0xFFFFFFFF⟩,
  ⟨0x054, 1, 4, .rw, 0x3F800000, 0xFFFFFFFF⟩,
  ⟨0x058, 1, 4, .rw, 0x42480000, 0xFFFFFFFF⟩,
  ⟨0x05C, 1, 4, .rw, 0x3FB504F3, 0xFFFFFFFF⟩,
  ⟨0x060, 1, 4, .rw, 0x42380000, 0xFFFFFFFF⟩,
  ⟨0x064, 1, 4, .rw, 0x42C80000, 0xFFFFFFFF⟩,
  ⟨0x068, 1, 4, .rw, 0x459C4000, 0xFFFFFFFF⟩,
  ⟨0x06C, 1, 4, .rw, 0x3CA3D70A, 0xFFFFFFFF⟩,
  ⟨0x070, 1, 4, .rw, 0xA0, 0xFFFF⟩,
  ⟨0x074, 1, 4, .rw, 0x3DCCCCCD, 0xFFFFFFFF⟩,
  ⟨0x078, 1, 4, .rw, 0x3CA3D70A, 0xFFFFFFFF⟩,
  ⟨0x07C, 1, 4, .rw, 0x7D0, 0xFFFF⟩,
  ⟨0x080, 1, 4, .rw, 0x40, 0x1FF⟩,
  ⟨0x084, 1, 4, .rw, 0x10, 0xFF⟩,
  ⟨0x088, 1, 4, .rw, 0x41200000, 0xFFFFFFFF⟩,
  ⟨0x08C, 1, 4, .rw, 0x41A00000, 0xFFFFFFFF⟩,
  ⟨0x090, 1, 4, .rw, 0x40000000, 0xFFFFFFFF⟩,
  ⟨0x094, 1, 4, .rw, 0x0, 0xF03⟩,
  ⟨0x098, 1, 4, .rw, 0x3CA3D70A, 0xFFFFFFFF⟩,
  ⟨0x09C, 1, 4, .rw, 0x40800000, 0xFFFFFFFF⟩,
  ⟨0x0A0, 1, 4, .rw, 0x41A00000, 0xFFFFFFFF⟩,
  ⟨0x0A4, 1, 4, .ro, 0x0, 0x0⟩,
  ⟨0x0A8, 1, 4, .ro, 0x0, 0x0⟩,
  ⟨0x0AC, 1, 4, .ro, 0x0, 0x0⟩,
  ⟨0x0B0, 1, 4, .ro, 0x0, 0x0⟩,
  ⟨0x0B4, 1, 4, .ro, 0x0, 0x0⟩]
/-- Register rows of SYNC (R164). -/
def rowsSYNC_1part : List RegRow := [
  ⟨0x0B8, 1, 4, .ro, 0x0, 0x0⟩,
  ⟨0x0BC, 1, 4, .ro, 0x0, 0x0⟩,
  ⟨0x0C0, 1, 4, .ro, 0x0, 0x0⟩,
  ⟨0x0C4, 1, 4, .ro, 0x0, 0x0⟩,
  ⟨0x0C8, 1, 4, .ro, 0x0, 0x0⟩,
  ⟨0x0CC, 1, 4, .ro, 0x0, 0x0⟩,
  ⟨0x0D0, 1, 4, .ro, 0x0, 0x0⟩,
  ⟨0x0D4, 1, 4, .ro, 0x0, 0x0⟩,
  ⟨0x0D8, 1, 4, .ro, 0x0, 0x0⟩]
/-- All register rows of SYNC. -/
def rowsSYNCAll : List RegRow := rowsSYNCpart ++ rowsSYNC_1part

/-- Register rows of RIDE (R165). -/
def rowsRIDEpart : List RegRow := [
  ⟨0x040, 1, 4, .rw, 0x0, 0x7⟩,
  ⟨0x044, 1, 4, .ro, 0x0, 0x0⟩,
  ⟨0x048, 1, 4, .rw, 0x3F6147AE, 0xFFFFFFFF⟩,
  ⟨0x04C, 1, 4, .rw, 0x3F666666, 0xFFFFFFFF⟩,
  ⟨0x050, 1, 4, .rw, 0x3F8CCCCD, 0xFFFFFFFF⟩,
  ⟨0x054, 1, 4, .rw, 0x3F8A3D71, 0xFFFFFFFF⟩,
  ⟨0x058, 1, 4, .rw, 0x3F000000, 0xFFFFFFFF⟩,
  ⟨0x05C, 1, 4, .rw, 0x3F0CCCCD, 0xFFFFFFFF⟩,
  ⟨0x060, 1, 4, .rw, 0x20, 0xFFFF⟩,
  ⟨0x064, 1, 4, .rw, 0x40000000, 0xFFFFFFFF⟩,
  ⟨0x068, 1, 4, .rw, 0x40, 0x1FF⟩,
  ⟨0x06C, 1, 4, .rw, 0x3F8CCCCD, 0xFFFFFFFF⟩,
  ⟨0x070, 1, 4, .rw, 0x3F99999A, 0xFFFFFFFF⟩,
  ⟨0x074, 1, 4, .rw, 0x3F000000, 0xFFFFFFFF⟩,
  ⟨0x078, 1, 4, .rw, 0x0, 0xFFFFFFFF⟩,
  ⟨0x07C, 1, 4, .rw, 0x0, 0xFFFFFFFF⟩,
  ⟨0x080, 1, 4, .rw, 0x40000000, 0xFFFFFFFF⟩,
  ⟨0x084, 1, 4, .rw, 0x41A00000, 0xFFFFFFFF⟩,
  ⟨0x088, 1, 4, .rw, 0x43C80000, 0xFFFFFFFF⟩,
  ⟨0x08C, 1, 4, .rw, 0x447A0000, 0xFFFFFFFF⟩,
  ⟨0x090, 1, 4, .ro, 0x0, 0x0⟩,
  ⟨0x094, 1, 4, .ro, 0x0, 0x0⟩,
  ⟨0x098, 1, 4, .ro, 0x0, 0x0⟩,
  ⟨0x09C, 1, 4, .ro, 0x0, 0x0⟩,
  ⟨0x0A0, 1, 4, .ro, 0x0, 0x0⟩,
  ⟨0x0A4, 1, 4, .ro, 0x0, 0x0⟩,
  ⟨0x0A8, 1, 4, .ro, 0x0, 0x0⟩,
  ⟨0x0C0, 8, 4, .rw, 0x0, 0xFFFFFFFF⟩,
  ⟨0x0E0, 8, 4, .rw, 0x0, 0xFFFFFFFF⟩,
  ⟨0x100, 4, 4, .rw, 0x0, 0xFFFFFFFF⟩]
/-- Register rows of RIDE (R165). -/
def rowsRIDE_1part : List RegRow := [
  ⟨0x110, 4, 4, .rw, 0x0, 0xFFFFFFFF⟩]
/-- All register rows of RIDE. -/
def rowsRIDEAll : List RegRow := rowsRIDEpart ++ rowsRIDE_1part

/-- Register rows of ISLD (R166). -/
def rowsISLDpart : List RegRow := [
  ⟨0x040, 1, 4, .rw, 0x20, 0x3F⟩,
  ⟨0x044, 1, 4, .ro, 0x0, 0x0⟩,
  ⟨0x048, 1, 4, .rw, 0x3F800000, 0xFFFFFFFF⟩,
  ⟨0x04C, 1, 4, .rw, 0x140, 0x7FF⟩,
  ⟨0x050, 1, 4, .rw, 0x1F4, 0xFFFF⟩,
  ⟨0x054, 1, 4, .rw, 0x41400000, 0xFFFFFFFF⟩,
  ⟨0x058, 1, 4, .rw, 0x10, 0xFF⟩,
  ⟨0x05C, 1, 4, .rw, 0x3D4CCCCD, 0xFFFFFFFF⟩,
  ⟨0x060, 1, 4, .rw, 0x3DCCCCCD, 0xFFFFFFFF⟩,
  ⟨0x064, 1, 4, .rw, 0x3F800000, 0xFFFFFFFF⟩,
  ⟨0x068, 1, 4, .rw, 0x3CA3D70A, 0xFFFFFFFF⟩,
  ⟨0x06C, 1, 4, .rw, 0x3E80, 0xFFFFFF⟩,
  ⟨0x070, 1, 4, .rw, 0x3F000000, 0xFFFFFFFF⟩,
  ⟨0x074, 1, 4, .rw, 0x12C, 0xFFFF⟩,
  ⟨0x078, 1, 4, .wo, 0x0, 0x0⟩,
  ⟨0x07C, 1, 4, .ro, 0x0, 0x0⟩,
  ⟨0x080, 1, 4, .ro, 0x0, 0x0⟩,
  ⟨0x084, 1, 4, .ro, 0x0, 0x0⟩,
  ⟨0x088, 1, 4, .ro, 0x0, 0x0⟩,
  ⟨0x08C, 1, 4, .ro, 0x0, 0x0⟩]
/-- All register rows of ISLD. -/
def rowsISLDAll : List RegRow := rowsISLDpart

/-- Register rows of PUMP (R99). -/
def rowsPUMPpart : List RegRow := [
  ⟨0x040, 1, 4, .rw, 0x0, 0x1⟩,
  ⟨0x044, 1, 4, .ro, 0x0, 0x0⟩,
  ⟨0x048, 1, 4, .wo, 0x0, 0x0⟩,
  ⟨0x04C, 1, 4, .rw, 0x0, 0x1⟩,
  ⟨0x050, 1, 4, .rw, 0x0, 0xFFFFFFFF⟩,
  ⟨0x054, 1, 4, .ro, 0x0, 0x0⟩,
  ⟨0x058, 1, 4, .ro, 0x0, 0x0⟩,
  ⟨0x05C, 1, 4, .ro, 0x0, 0x0⟩,
  ⟨0x060, 1, 4, .ro, 0x0, 0x0⟩,
  ⟨0x064, 1, 4, .ro, 0xFFFF, 0x0⟩,
  ⟨0x068, 1, 4, .ro, 0x0, 0x0⟩,
  ⟨0x06C, 1, 4, .ro, 0x0, 0x0⟩,
  ⟨0x070, 1, 4, .ro, 0x0, 0x0⟩,
  ⟨0x074, 1, 4, .ro, 0x0, 0x0⟩,
  ⟨0x078, 1, 4, .rw, 0x1, 0xFF⟩,
  ⟨0x07C, 1, 4, .ro, 0x0, 0x0⟩,
  ⟨0x080, 1, 4, .ro, 0x0, 0x0⟩,
  ⟨0x084, 1, 4, .ro, 0x0, 0x0⟩,
  ⟨0x088, 1, 4, .ro, 0x0, 0x0⟩,
  ⟨0x08C, 1, 4, .ro, 0x0, 0x0⟩,
  ⟨0x090, 1, 4, .ro, 0x0, 0x0⟩,
  ⟨0x094, 1, 4, .wo, 0x0, 0x0⟩,
  ⟨0x098, 1, 4, .ro, 0x0, 0x0⟩,
  ⟨0x09C, 1, 4, .ro, 0x0, 0x0⟩,
  ⟨0x0A0, 8, 4, .rw, 0x0, 0x3FFFF⟩,
  ⟨0x0C0, 8, 4, .rw, 0x0, 0x3FFFF⟩,
  ⟨0x0E0, 1, 4, .rw, 0x100, 0x1FFFFFF⟩,
  ⟨0x100, 128, 4, .ro, 0x0, 0x0⟩]
/-- All register rows of PUMP. -/
def rowsPUMPAll : List RegRow := rowsPUMPpart

/-- Register rows of SUMP (R100). -/
def rowsSUMPpart : List RegRow := [
  ⟨0x040, 1, 4, .ro, 0xF0, 0x0⟩,
  ⟨0x044, 1, 4, .rw, 0x0, 0xFFFFFFFF⟩,
  ⟨0x048, 1, 4, .rw, 0x0, 0xFF⟩,
  ⟨0x04C, 1, 4, .ro, 0x0, 0x0⟩,
  ⟨0x050, 1, 4, .ro, 0x0, 0x0⟩,
  ⟨0x054, 1, 4, .ro, 0x40, 0x0⟩,
  ⟨0x080, 128, 4, .ro, 0x0, 0x0⟩,
  ⟨0x280, 64, 4, .ro, 0x0, 0x0⟩]
/-- All register rows of SUMP. -/
def rowsSUMPAll : List RegRow := rowsSUMPpart

/-- Register rows of CHAN0 (R117). -/
def rowsCHAN0part : List RegRow := [
  ⟨0x040, 1, 4, .wo, 0x0, 0x0⟩,
  ⟨0x044, 1, 4, .ro, 0x0, 0x0⟩,
  ⟨0x048, 1, 4, .rw, 0x0, 0xFFFFFFFF⟩,
  ⟨0x04C, 1, 4, .ro, 0x0, 0x0⟩,
  ⟨0x050, 1, 4, .rw, 0x0, 0x3F07⟩,
  ⟨0x054, 1, 4, .rw, 0x0, 0xFFFFFFFF⟩,
  ⟨0x058, 1, 4, .rw, 0x0, 0x103FF⟩,
  ⟨0x05C, 1, 4, .rw, 0x0, 0xFFFFFFFF⟩,
  ⟨0x060, 1, 4, .rw, 0x0, 0xFFFFFFFF⟩,
  ⟨0x064, 1, 4, .rw, 0x0, 0x3FFFF⟩,
  ⟨0x068, 1, 4, .ro, 0x0, 0x0⟩,
  ⟨0x06C, 1, 4, .wo, 0x0, 0x0⟩,
  ⟨0x070, 1, 4, .rw, 0x1, 0xFF⟩,
  ⟨0x074, 1, 4, .ro, 0x0, 0x0⟩,
  ⟨0x078, 1, 4, .ro, 0x0, 0x0⟩,
  ⟨0x07C, 1, 4, .ro, 0x0, 0x0⟩,
  ⟨0x080, 1, 4, .ro, 0x0, 0x0⟩,
  ⟨0x084, 1, 4, .ro, 0x0, 0x0⟩,
  ⟨0x100, 128, 4, .ro, 0x0, 0x0⟩,
  ⟨0x300, 128, 4, .ro, 0x0, 0x0⟩,
  ⟨0x500, 128, 4, .ro, 0x0, 0x0⟩]
/-- All register rows of CHAN0. -/
def rowsCHAN0All : List RegRow := rowsCHAN0part

/-- Register rows of CHAN1 (R117). -/
def rowsCHAN1part : List RegRow := [
  ⟨0x040, 128, 4, .ro, 0x0, 0x0⟩,
  ⟨0x240, 128, 4, .ro, 0x0, 0x0⟩,
  ⟨0x440, 128, 4, .ro, 0x0, 0x0⟩,
  ⟨0x640, 128, 4, .ro, 0x0, 0x0⟩]
/-- All register rows of CHAN1. -/
def rowsCHAN1All : List RegRow := rowsCHAN1part

/-- Register rows of PROF (R139). -/
def rowsPROFpart : List RegRow := [
  ⟨0x040, 1, 4, .wo, 0x0, 0x0⟩,
  ⟨0x044, 1, 4, .rw, 0x0, 0xFFFFFFFF⟩,
  ⟨0x048, 1, 4, .ro, 0x0, 0x0⟩,
  ⟨0x04C, 1, 4, .ro, 0x0, 0x0⟩,
  ⟨0x050, 1, 4, .wo, 0x0, 0x0⟩,
  ⟨0x240, 16, 64, .ro, 0x0, 0x0⟩,
  ⟨0x244, 16, 64, .cmt, 0x0, 0xFFFFFFFF⟩,
  ⟨0x248, 16, 64, .cmt, 0x3DCCCCCD, 0xFFFFFFFF⟩,
  ⟨0x24C, 16, 64, .cmt, 0x3DCCCCCD, 0xFFFFFFFF⟩,
  ⟨0x250, 16, 64, .cmt, 0x3DCCCCCD, 0xFFFFFFFF⟩,
  ⟨0x254, 16, 64, .rw, 0x0, 0xFFFFFFFF⟩,
  ⟨0x258, 16, 64, .rw, 0x3F800000, 0xFFFFFFFF⟩,
  ⟨0x25C, 16, 64, .rw, 0x0, 0xFFFFFFFF⟩,
  ⟨0x260, 16, 64, .ro, 0x0, 0x0⟩,
  ⟨0x264, 16, 64, .ro, 0x0, 0x0⟩,
  ⟨0x268, 16, 64, .ro, 0x0, 0x0⟩,
  ⟨0x26C, 16, 64, .ro, 0x0, 0x0⟩,
  ⟨0x270, 16, 64, .rw, 0x2, 0x3⟩,
  ⟨0x274, 16, 64, .rw, 0xC0000000, 0xFFFFFFFF⟩,
  ⟨0x278, 16, 64, .rw, 0x40000000, 0xFFFFFFFF⟩]
/-- All register rows of PROF. -/
def rowsPROFAll : List RegRow := rowsPROFpart

/-- Register rows of TRACK (R140). -/
def rowsTRACKpart : List RegRow := [
  ⟨0x040, 1, 4, .wo, 0x0, 0x0⟩,
  ⟨0x044, 1, 4, .rw, 0x0, 0xFFFFFFFF⟩,
  ⟨0x048, 1, 4, .ro, 0x0, 0x0⟩,
  ⟨0x04C, 1, 4, .rw, 0x0, 0x3FFFF⟩,
  ⟨0x050, 1, 4, .rw, 0x0, 0xFFFFFFFF⟩,
  ⟨0x054, 1, 4, .rw, 0x10, 0xF1FFFFFF⟩,
  ⟨0x058, 1, 4, .rw, 0x0, 0xFFFFFFFF⟩,
  ⟨0x05C, 1, 4, .rw, 0x44FA0000, 0xFFFFFFFF⟩,
  ⟨0x060, 1, 4, .rw, 0x0, 0xFFFFFFFF⟩,
  ⟨0x064, 1, 4, .rw, 0x0, 0xFFFFFFFF⟩,
  ⟨0x068, 1, 4, .rw, 0x3F000000, 0xFFFFFFFF⟩,
  ⟨0x06C, 1, 4, .rw, 0x41000000, 0xFFFFFFFF⟩,
  ⟨0x070, 1, 4, .rw, 0x3CA3D70A, 0xFFFFFFFF⟩,
  ⟨0x074, 1, 4, .rw, 0x3BA3D70A, 0xFFFFFFFF⟩,
  ⟨0x078, 1, 4, .rw, 0x3F000000, 0xFFFFFFFF⟩,
  ⟨0x07C, 1, 4, .rw, 0x3F000000, 0xFFFFFFFF⟩,
  ⟨0x080, 1, 4, .rw, 0xA0000, 0x3FFFFF⟩,
  ⟨0x084, 1, 4, .rw, 0x0, 0xFFFFFFFF⟩,
  ⟨0x088, 1, 4, .ro, 0x0, 0x0⟩,
  ⟨0x08C, 1, 4, .ro, 0x0, 0x0⟩,
  ⟨0x200, 64, 4, .ro, 0x0, 0x0⟩,
  ⟨0x300, 64, 4, .ro, 0x0, 0x0⟩,
  ⟨0x400, 64, 4, .ro, 0x0, 0x0⟩,
  ⟨0x500, 64, 4, .ro, 0x0, 0x0⟩,
  ⟨0x600, 64, 4, .ro, 0x0, 0x0⟩,
  ⟨0x700, 64, 4, .ro, 0x0, 0x0⟩]
/-- All register rows of TRACK. -/
def rowsTRACKAll : List RegRow := rowsTRACKpart

/-- Register rows of COMP (R141). -/
def rowsCOMPpart : List RegRow := [
  ⟨0x040, 1, 4, .wo, 0x0, 0x0⟩,
  ⟨0x044, 1, 4, .ro, 0x0, 0x0⟩,
  ⟨0x048, 1, 4, .rw, 0x0, 0xFF⟩,
  ⟨0x04C, 1, 4, .ro, 0x0, 0x0⟩,
  ⟨0x060, 8, 4, .rw, 0x0, 0x7FFFF7⟩,
  ⟨0x080, 8, 4, .rw, 0x0, 0xFFFFFFFF⟩,
  ⟨0x0A0, 8, 4, .rw, 0x3F800000, 0xFFFFFFFF⟩,
  ⟨0x0C0, 8, 4, .rw, 0x3F800000, 0xFFFFFFFF⟩,
  ⟨0x0E0, 8, 4, .rw, 0x3F800000, 0xFFFFFFFF⟩,
  ⟨0x100, 8, 4, .ro, 0x0, 0x0⟩]
/-- All register rows of COMP. -/
def rowsCOMPAll : List RegRow := rowsCOMPpart

/-- Register rows of PWMC (R184). -/
def rowsPWMCpart : List RegRow := [
  ⟨0x040, 1, 4, .wo, 0x0, 0x0⟩,
  ⟨0x044, 1, 4, .wo, 0x0, 0x0⟩,
  ⟨0x048, 1, 4, .rw, 0x0, 0xFFF⟩,
  ⟨0x04C, 1, 4, .rw, 0x0, 0x1F⟩,
  ⟨0x050, 1, 4, .rw, 0x0, 0xFFFFFF⟩,
  ⟨0x054, 1, 4, .rw, 0x0, 0x1⟩,
  ⟨0x058, 1, 4, .rw, 0x0, 0xFFF⟩,
  ⟨0x05C, 1, 4, .rw, 0x0, 0xFF0F⟩,
  ⟨0x060, 1, 4, .ro, 0x0, 0x0⟩,
  ⟨0x064, 1, 4, .wo, 0x0, 0x0⟩,
  ⟨0x068, 1, 4, .ro, 0x0, 0x0⟩,
  ⟨0x06C, 1, 4, .ro, 0x0, 0x0⟩]
/-- All register rows of PWMC. -/
def rowsPWMCAll : List RegRow := rowsPWMCpart

/-- Register rows of PWMn (R185). -/
def rowsPWMnpart : List RegRow := [
  ⟨0x040, 1, 4, .rw, 0x0, 0xFFF⟩,
  ⟨0x044, 1, 4, .ro, 0x0, 0x0⟩,
  ⟨0x048, 1, 4, .ro, 0x0, 0x0⟩,
  ⟨0x04C, 1, 4, .cmt, 0x186A0, 0xFFFFFF⟩,
  ⟨0x050, 1, 4, .cmt, 0x0, 0xFFFFFF⟩,
  ⟨0x054, 1, 4, .cmt, 0x0, 0xFFFFFF⟩,
  ⟨0x058, 1, 4, .cmt, 0xFFFFFF, 0xFFFFFF⟩,
  ⟨0x05C, 1, 4, .cmt, 0xFFFFFF, 0xFFFFFF⟩,
  ⟨0x060, 1, 4, .cmt, 0x0, 0xFFF0FFF⟩,
  ⟨0x064, 1, 4, .cmt, 0x0, 0xFFF⟩,
  ⟨0x068, 1, 4, .rw, 0x0, 0xFFFFFF⟩,
  ⟨0x06C, 1, 4, .rw, 0x0, 0xFFFFFF⟩,
  ⟨0x070, 1, 4, .rw, 0x0, 0xFFFFF⟩,
  ⟨0x074, 1, 4, .rw, 0x0, 0xFFFFF⟩,
  ⟨0x078, 1, 4, .ro, 0x0, 0x0⟩,
  ⟨0x07C, 1, 4, .wo, 0x0, 0x0⟩,
  ⟨0x080, 1, 4, .ro, 0x0, 0x0⟩,
  ⟨0x084, 1, 4, .ro, 0x0, 0x0⟩,
  ⟨0x088, 1, 4, .ro, 0x0, 0x0⟩,
  ⟨0x08C, 1, 4, .ro, 0x0, 0x0⟩,
  ⟨0x090, 1, 4, .ro, 0x0, 0x0⟩,
  ⟨0x094, 1, 4, .ro, 0x0, 0x0⟩,
  ⟨0x098, 1, 4, .ro, 0x0, 0x0⟩,
  ⟨0x09C, 1, 4, .wo, 0x0, 0x0⟩,
  ⟨0x0A0, 1, 4, .ro, 0x0, 0x0⟩,
  ⟨0x0A4, 1, 4, .ro, 0x0, 0x0⟩]
/-- All register rows of PWMn. -/
def rowsPWMnAll : List RegRow := rowsPWMnpart

/-- Register rows of ISLC (R203). -/
def rowsISLCpart : List RegRow := [
  ⟨0x040, 1, 4, .rw, 0xA03, 0xFF03⟩,
  ⟨0x044, 1, 4, .rw, 0xF, 0xF0F⟩,
  ⟨0x048, 1, 4, .ro, 0x0, 0x0⟩,
  ⟨0x04C, 1, 4, .wo, 0x0, 0x0⟩,
  ⟨0x050, 1, 4, .rw, 0x0, 0xFF⟩,
  ⟨0x054, 1, 4, .ro, 0x0, 0x0⟩,
  ⟨0x058, 1, 4, .snap, 0x0, 0x0⟩,
  ⟨0x05C, 1, 4, .snap, 0x0, 0x0⟩,
  ⟨0x060, 1, 4, .ro, 0x0, 0x0⟩,
  ⟨0x064, 1, 4, .wo, 0x0, 0x0⟩,
  ⟨0x068, 1, 4, .ro, 0x0, 0x0⟩,
  ⟨0x06C, 1, 4, .ro, 0x0, 0x0⟩,
  ⟨0x070, 1, 4, .ro, 0x0, 0x0⟩,
  ⟨0x074, 1, 4, .ro, 0x0, 0x0⟩,
  ⟨0x078, 1, 4, .ro, 0x0, 0x0⟩]
/-- All register rows of ISLC. -/
def rowsISLCAll : List RegRow := rowsISLCpart

/-- Register rows of ISLn (R204). -/
def rowsISLnpart : List RegRow := [
  ⟨0x040, 1, 4, .rw, 0x60, 0x77⟩,
  ⟨0x044, 1, 4, .ro, 0x0, 0x0⟩,
  ⟨0x048, 1, 4, .rw, 0x1F1F1F, 0x1F1F1F⟩,
  ⟨0x04C, 1, 4, .rw, 0x0, 0x7F7F7F⟩,
  ⟨0x050, 1, 4, .rw, 0x272727, 0x3F3F3F⟩,
  ⟨0x054, 1, 4, .rw, 0x0, 0x7F7F7F⟩,
  ⟨0x058, 1, 4, .rw, 0x3203, 0xFF07⟩,
  ⟨0x05C, 1, 4, .rw, 0x1140010, 0x13F031F⟩,
  ⟨0x060, 1, 4, .rw, 0xC, 0x1F⟩,
  ⟨0x064, 1, 4, .rw, 0x101, 0x303⟩,
  ⟨0x068, 1, 4, .ro, 0x0, 0x0⟩,
  ⟨0x06C, 1, 4, .rw, 0x0, 0x3FF03FF⟩,
  ⟨0x070, 1, 4, .ro, 0x0, 0x0⟩,
  ⟨0x074, 1, 4, .snap, 0x0, 0x0⟩,
  ⟨0x078, 1, 4, .snap, 0x0, 0x0⟩,
  ⟨0x07C, 1, 4, .wo, 0x0, 0x0⟩,
  ⟨0x080, 1, 4, .ro, 0x0, 0x0⟩,
  ⟨0x084, 1, 4, .ro, 0x0, 0x0⟩,
  ⟨0x088, 1, 4, .ro, 0x0, 0x0⟩,
  ⟨0x08C, 1, 4, .ro, 0x0, 0x0⟩,
  ⟨0x090, 1, 4, .ro, 0x0, 0x0⟩,
  ⟨0x094, 1, 4, .ro, 0x0, 0x0⟩,
  ⟨0x098, 1, 4, .ro, 0x0, 0x0⟩,
  ⟨0x09C, 1, 4, .wo, 0x0, 0x0⟩]
/-- All register rows of ISLn. -/
def rowsISLnAll : List RegRow := rowsISLnpart

/-- Register rows of ADCC (R221). -/
def rowsADCCpart : List RegRow := [
  ⟨0x040, 1, 4, .rw, 0x0, 0x3FFFF⟩,
  ⟨0x044, 1, 4, .rw, 0x0, 0x1⟩,
  ⟨0x048, 1, 4, .rw, 0x0, 0x1FF⟩,
  ⟨0x04C, 1, 4, .rw, 0x0, 0xFFFF⟩,
  ⟨0x050, 1, 4, .rw, 0x0, 0xFFFF⟩,
  ⟨0x054, 1, 4, .rw, 0xFFFF0000, 0xFFFFFFFF⟩,
  ⟨0x058, 1, 4, .w1c, 0x0, 0xFFFF⟩,
  ⟨0x05C, 1, 4, .ro, 0x0, 0x0⟩,
  ⟨0x060, 1, 4, .ro, 0x0, 0x0⟩,
  ⟨0x080, 16, 4, .ro, 0x0, 0x0⟩]
/-- All register rows of ADCC. -/
def rowsADCCAll : List RegRow := rowsADCCpart

/-- Register rows of ADCn (R222). -/
def rowsADCnpart : List RegRow := [
  ⟨0x040, 1, 4, .rw, 0x0, 0x1⟩,
  ⟨0x044, 1, 4, .ro, 0x0, 0x0⟩,
  ⟨0x048, 1, 4, .rw, 0x0, 0x11F⟩,
  ⟨0x04C, 1, 4, .rw, 0x0, 0xFFFF003F⟩,
  ⟨0x050, 1, 4, .rw, 0x0, 0x7⟩,
  ⟨0x054, 1, 4, .rw, 0x0, 0xFFFF003F⟩,
  ⟨0x058, 1, 4, .wo, 0x0, 0x0⟩,
  ⟨0x05C, 1, 4, .ro, 0x0, 0x0⟩,
  ⟨0x060, 1, 4, .ro, 0x0, 0x0⟩,
  ⟨0x064, 1, 4, .ro, 0x0, 0x0⟩,
  ⟨0x068, 1, 4, .ro, 0x0, 0x0⟩,
  ⟨0x06C, 1, 4, .wo, 0x0, 0x0⟩,
  ⟨0x080, 32, 4, .rw, 0x0, 0x7F⟩,
  ⟨0x100, 8, 4, .rw, 0x0, 0x7F⟩,
  ⟨0x120, 8, 4, .ro, 0x0, 0x0⟩]
/-- All register rows of ADCn. -/
def rowsADCnAll : List RegRow := rowsADCnpart

/-- Register rows of ADCQ (R223). -/
def rowsADCQpart : List RegRow := [
  ⟨0x040, 1, 4, .rw, 0x0, 0x3FFFF⟩,
  ⟨0x044, 1, 4, .rw, 0x0, 0x17F⟩,
  ⟨0x048, 1, 4, .ro, 0x0, 0x0⟩,
  ⟨0x04C, 1, 4, .rw, 0x0, 0x7F⟩,
  ⟨0x050, 1, 4, .ro, 0x0, 0x0⟩,
  ⟨0x054, 1, 4, .ro, 0x0, 0x0⟩]
/-- All register rows of ADCQ. -/
def rowsADCQAll : List RegRow := rowsADCQpart

/-- Register rows of CMP (R224). -/
def rowsCMPpart : List RegRow := [
  ⟨0x040, 1, 4, .w1c, 0x0, 0xFFFF⟩,
  ⟨0x044, 1, 4, .ro, 0x0, 0x0⟩,
  ⟨0x048, 1, 4, .ro, 0x0, 0x0⟩,
  ⟨0x050, 4, 4, .rw, 0x0, 0x3FFFF⟩,
  ⟨0x140, 16, 48, .rw, 0x0, 0x7FF7⟩,
  ⟨0x144, 16, 48, .rw, 0x101, 0x11F1F⟩,
  ⟨0x148, 16, 48, .rw, 0xFFF, 0xFFF⟩,
  ⟨0x14C, 16, 48, .rw, 0x0, 0xFFF⟩,
  ⟨0x150, 16, 48, .rw, 0x0, 0xF⟩,
  ⟨0x154, 16, 48, .ro, 0x0, 0x0⟩,
  ⟨0x158, 16, 48, .ro, 0x0, 0x0⟩,
  ⟨0x15C, 16, 48, .snap, 0x0, 0x0⟩,
  ⟨0x160, 16, 48, .snap, 0x0, 0x0⟩]
/-- All register rows of CMP. -/
def rowsCMPAll : List RegRow := rowsCMPpart

/-- Register rows of LANEn (R247). -/
def rowsLANEnpart : List RegRow := [
  ⟨0x040, 1, 4, .rw, 0x0, 0x7F⟩,
  ⟨0x044, 1, 4, .ro, 0x0, 0x0⟩,
  ⟨0x048, 1, 4, .rw, 0x1, 0x3⟩,
  ⟨0x04C, 1, 4, .rw, 0x3F000000, 0x70F07⟩,
  ⟨0x050, 1, 4, .rw, 0x3, 0x3F3F3F07⟩,
  ⟨0x054, 1, 4, .ro, 0x3, 0x0⟩,
  ⟨0x058, 1, 4, .rw, 0x30840, 0x3FFFF⟩,
  ⟨0x05C, 1, 4, .ro, 0x0, 0x0⟩,
  ⟨0x060, 1, 4, .ro, 0x0, 0x0⟩,
  ⟨0x064, 1, 4, .rw, 0x31840, 0xFFFFF⟩,
  ⟨0x068, 1, 4, .rw, 0x0, 0x13F3F⟩,
  ⟨0x06C, 1, 4, .ro, 0x0, 0x0⟩,
  ⟨0x070, 1, 4, .ro, 0x0, 0x0⟩,
  ⟨0x074, 1, 4, .ro, 0x0, 0x0⟩,
  ⟨0x078, 1, 4, .ro, 0x0, 0x0⟩,
  ⟨0x07C, 1, 4, .ro, 0x0, 0x0⟩,
  ⟨0x080, 1, 4, .ro, 0x0, 0x0⟩,
  ⟨0x084, 1, 4, .ro, 0x0, 0x0⟩,
  ⟨0x088, 1, 4, .ro, 0x0, 0x0⟩,
  ⟨0x08C, 1, 4, .ro, 0x0, 0x0⟩,
  ⟨0x090, 1, 4, .ro, 0x0, 0x0⟩,
  ⟨0x094, 1, 4, .rw, 0x0, 0x7⟩,
  ⟨0x098, 1, 4, .ro, 0x0, 0x0⟩,
  ⟨0x09C, 1, 4, .wo, 0x0, 0x0⟩,
  ⟨0x0A0, 1, 4, .snap, 0x0, 0x0⟩,
  ⟨0x0A4, 1, 4, .snap, 0x0, 0x0⟩,
  ⟨0x0A8, 1, 4, .snap, 0x0, 0x0⟩,
  ⟨0x0AC, 1, 4, .snap, 0x0, 0x0⟩,
  ⟨0x0B0, 1, 4, .ro, 0x0, 0x0⟩,
  ⟨0x0B4, 1, 4, .wo, 0x0, 0x0⟩]
/-- All register rows of LANEn. -/
def rowsLANEnAll : List RegRow := rowsLANEnpart

/-- Register rows of RINGn (R278). -/
def rowsRINGnpart : List RegRow := [
  ⟨0x040, 1, 4, .rw, 0x0, 0x3⟩,
  ⟨0x044, 1, 4, .wo, 0x0, 0x0⟩,
  ⟨0x048, 1, 4, .ro, 0xFF0000, 0x0⟩,
  ⟨0x04C, 1, 4, .ro, 0x0, 0x0⟩,
  ⟨0x050, 1, 4, .rw, 0x0, 0x103FF⟩,
  ⟨0x054, 1, 4, .rw, 0x0, 0xFFFFFFFF⟩,
  ⟨0x058, 1, 4, .rw, 0x0, 0xFFFFFFFF⟩,
  ⟨0x05C, 1, 4, .ro, 0x0, 0x0⟩,
  ⟨0x060, 1, 4, .ro, 0x0, 0x0⟩,
  ⟨0x064, 1, 4, .ro, 0x0, 0x0⟩,
  ⟨0x068, 1, 4, .ro, 0x0, 0x0⟩,
  ⟨0x06C, 1, 4, .ro, 0x0, 0x0⟩,
  ⟨0x070, 1, 4, .ro, 0x0, 0x0⟩,
  ⟨0x074, 1, 4, .ro, 0x0, 0x0⟩,
  ⟨0x078, 1, 4, .ro, 0x0, 0x0⟩,
  ⟨0x07C, 1, 4, .rw, 0x0, 0xFFFFFFFF⟩,
  ⟨0x080, 1, 4, .ro, 0x0, 0x0⟩,
  ⟨0x084, 1, 4, .ro, 0x0, 0x0⟩,
  ⟨0x088, 1, 4, .ro, 0x0, 0x0⟩,
  ⟨0x08C, 1, 4, .ro, 0x0, 0x0⟩,
  ⟨0x090, 1, 4, .ro, 0x0, 0x0⟩,
  ⟨0x094, 1, 4, .wo, 0x0, 0x0⟩]
/-- All register rows of RINGn. -/
def rowsRINGnAll : List RegRow := rowsRINGnpart

/-- Register rows of CELLS (R279). -/
def rowsCELLSpart : List RegRow := [
  ⟨0x040, 1, 4, .wo, 0x0, 0x0⟩,
  ⟨0x044, 1, 4, .rw, 0x0, 0xFFFFFFFF⟩,
  ⟨0x048, 1, 4, .rw, 0x0, 0x3FFFF⟩,
  ⟨0x04C, 1, 4, .rw, 0x0, 0x1⟩,
  ⟨0x050, 1, 4, .rw, 0x0, 0x1⟩,
  ⟨0x054, 1, 4, .rw, 0x8, 0xFF⟩,
  ⟨0x058, 1, 4, .ro, 0x0, 0x0⟩,
  ⟨0x05C, 1, 4, .ro, 0x0, 0x0⟩,
  ⟨0x060, 1, 4, .ro, 0x0, 0x0⟩,
  ⟨0x064, 1, 4, .ro, 0x0, 0x0⟩,
  ⟨0x080, 768, 4, .ro, 0x0, 0x0⟩]
/-- All register rows of CELLS. -/
def rowsCELLSAll : List RegRow := rowsCELLSpart

/-- Register rows of CELL (R296). -/
def rowsCELLpart : List RegRow := [
  ⟨0x040, 1, 4, .rw, 0x0, 0x1⟩,
  ⟨0x044, 1, 4, .ro, 0x0, 0x0⟩,
  ⟨0x048, 1, 4, .ro, 0x0, 0x0⟩,
  ⟨0x04C, 1, 4, .rw, 0x0, 0xFF⟩,
  ⟨0x050, 1, 4, .rw, 0x0, 0xFFFFFFFF⟩,
  ⟨0x054, 1, 4, .rw, 0x0, 0xFFFFFFFF⟩,
  ⟨0x058, 1, 4, .rw, 0x2, 0xF⟩,
  ⟨0x05C, 1, 4, .rw, 0x40, 0xFF⟩,
  ⟨0x060, 4, 4, .rw, 0x0, 0xFFFFFF1F⟩,
  ⟨0x070, 1, 4, .rw, 0x0, 0xFFFF⟩,
  ⟨0x074, 1, 4, .rw, 0x640A00, 0xFFFFFF07⟩,
  ⟨0x078, 6, 4, .rw, 0x0, 0x9F⟩,
  ⟨0x090, 6, 4, .rw, 0x0, 0xFFFFFFFF⟩,
  ⟨0x0A8, 6, 4, .rw, 0x3F800000, 0xFFFFFFFF⟩,
  ⟨0x0C0, 8, 4, .rw, 0x0, 0xFFFFFFFF⟩,
  ⟨0x0E0, 8, 4, .ro, 0x0, 0x0⟩,
  ⟨0x100, 6, 4, .ro, 0x0, 0x0⟩,
  ⟨0x118, 3, 4, .ro, 0x0, 0x0⟩,
  ⟨0x124, 5, 4, .ro, 0x0, 0x0⟩,
  ⟨0x138, 1, 4, .ro, 0x0, 0x0⟩,
  ⟨0x13C, 1, 4, .ro, 0x0, 0x0⟩,
  ⟨0x140, 1, 4, .ro, 0x0, 0x0⟩,
  ⟨0x144, 1, 4, .ro, 0x0, 0x0⟩,
  ⟨0x148, 1, 4, .ro, 0x0, 0x0⟩,
  ⟨0x14C, 1, 4, .ro, 0x0, 0x0⟩,
  ⟨0x150, 1, 4, .wo, 0x0, 0x0⟩,
  ⟨0x154, 1, 4, .wo, 0x0, 0x0⟩,
  ⟨0x158, 1, 4, .ro, 0x0, 0x0⟩,
  ⟨0x15C, 1, 4, .ro, 0x0, 0x0⟩,
  ⟨0x160, 1, 4, .ro, 0x0, 0x0⟩]
/-- Register rows of CELL (R296). -/
def rowsCELL_1part : List RegRow := [
  ⟨0x164, 1, 4, .ro, 0x0, 0x0⟩,
  ⟨0x168, 1, 4, .ro, 0x0, 0x0⟩,
  ⟨0x16C, 1, 4, .ro, 0x0, 0x0⟩,
  ⟨0x170, 1, 4, .wo, 0x0, 0x0⟩]
/-- All register rows of CELL. -/
def rowsCELLAll : List RegRow := rowsCELLpart ++ rowsCELL_1part

/-- Register rows of METC (R326). -/
def rowsMETCpart : List RegRow := [
  ⟨0x040, 1, 4, .rw, 0x0, 0x1⟩,
  ⟨0x044, 1, 4, .rw, 0x0, 0xF0F⟩,
  ⟨0x048, 1, 4, .rw, 0x0, 0x3FFFF⟩,
  ⟨0x04C, 1, 4, .rw, 0x0, 0x1⟩,
  ⟨0x050, 1, 4, .ro, 0x0, 0x0⟩,
  ⟨0x054, 1, 4, .w1c, 0x0, 0xFFFFFF⟩,
  ⟨0x058, 1, 4, .ro, 0x0, 0x0⟩,
  ⟨0x060, 6, 4, .rw, 0x0, 0x1F1F1F1F⟩,
  ⟨0x080, 24, 4, .ro, 0x0, 0x0⟩]
/-- All register rows of METC. -/
def rowsMETCAll : List RegRow := rowsMETCpart

/-- Register rows of METn (R327). -/
def rowsMETnpart : List RegRow := [
  ⟨0x040, 1, 4, .rw, 0x0, 0xF9⟩,
  ⟨0x044, 1, 4, .ro, 0x0, 0x0⟩,
  ⟨0x048, 1, 4, .wo, 0x0, 0x0⟩,
  ⟨0x04C, 1, 4, .rw, 0x0, 0x3FFFF⟩,
  ⟨0x050, 1, 4, .rw, 0x0, 0x3FFFF⟩,
  ⟨0x054, 1, 4, .ro, 0x0, 0x0⟩,
  ⟨0x058, 1, 4, .ro, 0x0, 0x0⟩,
  ⟨0x05C, 1, 4, .ro, 0x0, 0x0⟩,
  ⟨0x060, 1, 4, .rw, 0x3D4CCCCD, 0xFFFFFFFF⟩,
  ⟨0x064, 1, 4, .rw, 0x0, 0xFF⟩,
  ⟨0x068, 1, 4, .ro, 0x0, 0x0⟩,
  ⟨0x06C, 1, 4, .ro, 0x0, 0x0⟩,
  ⟨0x070, 4, 4, .rw, 0x3F800000, 0xFFFFFFFF⟩,
  ⟨0x080, 8, 4, .rw, 0x3F800000, 0xFFFFFFFF⟩,
  ⟨0x0A0, 4, 4, .rw, 0x3F800000, 0xFFFFFFFF⟩,
  ⟨0x0B0, 4, 4, .rw, 0x0, 0xFFFFFFFF⟩,
  ⟨0x0C0, 64, 4, .rw, 0x3F800000, 0xFFFFFFFF⟩,
  ⟨0x1C0, 64, 4, .rw, 0x0, 0xFFFFFFFF⟩,
  ⟨0x2C0, 4, 4, .snap, 0x0, 0x0⟩,
  ⟨0x2D0, 4, 4, .snap, 0x0, 0x0⟩,
  ⟨0x2E0, 4, 4, .snap, 0x0, 0x0⟩,
  ⟨0x2F0, 4, 4, .snap, 0x0, 0x0⟩,
  ⟨0x300, 4, 4, .snap, 0x0, 0x0⟩,
  ⟨0x310, 4, 4, .snap, 0x0, 0x0⟩,
  ⟨0x320, 4, 4, .snap, 0x0, 0x0⟩,
  ⟨0x330, 4, 4, .snap, 0x0, 0x0⟩,
  ⟨0x340, 1, 4, .snap, 0x0, 0x0⟩,
  ⟨0x344, 1, 4, .snap, 0x0, 0x0⟩,
  ⟨0x350, 1, 4, .snap, 0x0, 0x0⟩,
  ⟨0x354, 1, 4, .snap, 0x0, 0x0⟩]
/-- Register rows of METn (R327). -/
def rowsMETn_1part : List RegRow := [
  ⟨0x358, 1, 4, .snap, 0x0, 0x0⟩,
  ⟨0x35C, 1, 4, .snap, 0x0, 0x0⟩,
  ⟨0x360, 1, 4, .snap, 0x0, 0x0⟩,
  ⟨0x364, 1, 4, .snap, 0x0, 0x0⟩,
  ⟨0x368, 1, 4, .snap, 0x0, 0x0⟩,
  ⟨0x36C, 1, 4, .snap, 0x0, 0x0⟩,
  ⟨0x370, 1, 4, .snap, 0x0, 0x0⟩,
  ⟨0x374, 1, 4, .snap, 0x0, 0x0⟩,
  ⟨0x378, 1, 4, .snap, 0x0, 0x0⟩,
  ⟨0x37C, 1, 4, .snap, 0x0, 0x0⟩,
  ⟨0x380, 1, 4, .snap, 0x0, 0x0⟩,
  ⟨0x384, 1, 4, .snap, 0x0, 0x0⟩,
  ⟨0x388, 1, 4, .snap, 0x0, 0x0⟩,
  ⟨0x38C, 1, 4, .snap, 0x0, 0x0⟩,
  ⟨0x390, 1, 4, .snap, 0x0, 0x0⟩,
  ⟨0x394, 1, 4, .snap, 0x0, 0x0⟩,
  ⟨0x398, 9, 4, .ro, 0x0, 0x0⟩,
  ⟨0x3BC, 1, 4, .snap, 0x0, 0x0⟩,
  ⟨0x3C0, 1, 4, .ro, 0x0, 0x0⟩,
  ⟨0x3D0, 1, 4, .snap, 0x0, 0x0⟩,
  ⟨0x3D4, 1, 4, .snap, 0x0, 0x0⟩,
  ⟨0x3D8, 4, 4, .snap, 0x0, 0x0⟩,
  ⟨0x3E8, 4, 4, .snap, 0x0, 0x0⟩,
  ⟨0x3F8, 4, 4, .snap, 0x0, 0x0⟩,
  ⟨0x408, 4, 4, .snap, 0x0, 0x0⟩,
  ⟨0x418, 1, 4, .snap, 0x0, 0x0⟩,
  ⟨0x41C, 1, 4, .snap, 0x0, 0x0⟩]
/-- All register rows of METn. -/
def rowsMETnAll : List RegRow := rowsMETnpart ++ rowsMETn_1part

/-- Register rows of PQ (R328). -/
def rowsPQpart : List RegRow := [
  ⟨0x040, 1, 4, .rw, 0x0, 0x7⟩,
  ⟨0x044, 1, 4, .ro, 0x0, 0x0⟩,
  ⟨0x048, 1, 4, .rw, 0x43660000, 0xFFFFFFFF⟩,
  ⟨0x04C, 1, 4, .rw, 0x42B40000, 0xFFFFFFFF⟩,
  ⟨0x050, 1, 4, .rw, 0x42DC0000, 0xFFFFFFFF⟩,
  ⟨0x054, 1, 4, .rw, 0x40A00000, 0xFFFFFFFF⟩,
  ⟨0x058, 1, 4, .rw, 0x40000000, 0xFFFFFFFF⟩,
  ⟨0x05C, 3, 4, .ro, 0x0, 0x0⟩,
  ⟨0x06C, 3, 4, .snap, 0x0, 0x0⟩,
  ⟨0x078, 1, 4, .snap, 0x0, 0x0⟩,
  ⟨0x07C, 1, 4, .snap, 0x0, 0x0⟩,
  ⟨0x080, 1, 4, .ro, 0x0, 0x0⟩,
  ⟨0x084, 1, 4, .ro, 0x0, 0x0⟩,
  ⟨0x088, 1, 4, .rw, 0x0, 0xFF⟩,
  ⟨0x08C, 1, 4, .ro, 0x0, 0x0⟩,
  ⟨0x090, 1, 4, .ro, 0x0, 0x0⟩,
  ⟨0x094, 1, 4, .ro, 0x0, 0x0⟩,
  ⟨0x098, 1, 4, .ro, 0x0, 0x0⟩,
  ⟨0x0C0, 16, 16, .ro, 0x0, 0x0⟩,
  ⟨0x0C4, 16, 16, .ro, 0x0, 0x0⟩,
  ⟨0x0C8, 16, 16, .ro, 0x0, 0x0⟩,
  ⟨0x0CC, 16, 16, .ro, 0x0, 0x0⟩]
/-- All register rows of PQ. -/
def rowsPQAll : List RegRow := rowsPQpart

/-- Register rows of STNn (R373). -/
def rowsSTNnpart : List RegRow := [
  ⟨0x040, 1, 4, .rw, 0x0, 0x7⟩,
  ⟨0x044, 1, 4, .ro, 0x0, 0x0⟩,
  ⟨0x048, 1, 4, .rw, 0x0, 0xFFFFFFFF⟩,
  ⟨0x04C, 1, 4, .rw, 0x0, 0xFFFF⟩,
  ⟨0x050, 1, 4, .rw, 0x5F8, 0x7FF⟩,
  ⟨0x054, 1, 4, .rw, 0x0, 0xFFFFFFFF⟩,
  ⟨0x058, 1, 4, .rw, 0x0, 0x3FFFF⟩,
  ⟨0x05C, 1, 4, .rw, 0x4, 0xF⟩,
  ⟨0x060, 1, 4, .ro, 0x0, 0x0⟩,
  ⟨0x064, 1, 4, .rw, 0x0, 0x7FF⟩,
  ⟨0x068, 1, 4, .rw, 0x0, 0x3FFFF⟩,
  ⟨0x06C, 1, 4, .rw, 0x4, 0xF⟩,
  ⟨0x070, 1, 4, .rw, 0x0, 0x7FF⟩,
  ⟨0x074, 1, 4, .ro, 0x0, 0x0⟩,
  ⟨0x078, 1, 4, .ro, 0x0, 0x0⟩,
  ⟨0x07C, 1, 4, .ro, 0x0, 0x0⟩,
  ⟨0x080, 1, 4, .ro, 0x0, 0x0⟩,
  ⟨0x084, 1, 4, .ro, 0x0, 0x0⟩,
  ⟨0x088, 1, 4, .ro, 0x0, 0x0⟩,
  ⟨0x08C, 1, 4, .ro, 0x0, 0x0⟩,
  ⟨0x090, 1, 4, .ro, 0x0, 0x0⟩,
  ⟨0x094, 1, 4, .wo, 0x0, 0x0⟩]
/-- All register rows of STNn. -/
def rowsSTNnAll : List RegRow := rowsSTNnpart

/-- Register rows of PRP (R374). -/
def rowsPRPpart : List RegRow := [
  ⟨0x040, 1, 4, .rw, 0x0, 0x3⟩,
  ⟨0x044, 1, 4, .rw, 0x190, 0xFFFF⟩,
  ⟨0x048, 1, 4, .rw, 0x7D0, 0xFFFF⟩,
  ⟨0x04C, 1, 4, .ro, 0x0, 0x0⟩,
  ⟨0x050, 1, 4, .ro, 0x0, 0x0⟩,
  ⟨0x054, 1, 4, .ro, 0x0, 0x0⟩,
  ⟨0x058, 1, 4, .ro, 0x0, 0x0⟩,
  ⟨0x05C, 1, 4, .ro, 0x0, 0x0⟩,
  ⟨0x060, 1, 4, .ro, 0x0, 0x0⟩,
  ⟨0x064, 1, 4, .wo, 0x0, 0x0⟩]
/-- All register rows of PRP. -/
def rowsPRPAll : List RegRow := rowsPRPpart

/-- Register rows of PTP (R375). -/
def rowsPTPpart : List RegRow := [
  ⟨0x040, 1, 4, .rw, 0x10000, 0xFFF0F⟩,
  ⟨0x044, 1, 4, .ro, 0x0, 0x0⟩,
  ⟨0x048, 1, 4, .ro, 0x0, 0x0⟩,
  ⟨0x04C, 1, 4, .ro, 0x0, 0x0⟩,
  ⟨0x050, 1, 4, .ro, 0x0, 0x0⟩,
  ⟨0x054, 1, 4, .ro, 0x0, 0x0⟩,
  ⟨0x058, 1, 4, .ro, 0x0, 0x0⟩,
  ⟨0x05C, 1, 4, .rw, 0x25, 0xFFFF⟩,
  ⟨0x060, 1, 4, .ro, 0x0, 0x0⟩,
  ⟨0x064, 1, 4, .ro, 0x0, 0x0⟩,
  ⟨0x068, 1, 4, .ro, 0x0, 0x0⟩,
  ⟨0x06C, 1, 4, .ro, 0x0, 0x0⟩,
  ⟨0x070, 1, 4, .ro, 0x0, 0x0⟩,
  ⟨0x074, 1, 4, .ro, 0x0, 0x0⟩,
  ⟨0x078, 1, 4, .ro, 0x0, 0x0⟩,
  ⟨0x07C, 1, 4, .ro, 0x0, 0x0⟩,
  ⟨0x080, 1, 4, .ro, 0x0, 0x0⟩,
  ⟨0x084, 1, 4, .wo, 0x0, 0x0⟩]
/-- All register rows of PTP. -/
def rowsPTPAll : List RegRow := rowsPTPpart

/-- Register rows of GOOSE (R376). -/
def rowsGOOSEpart : List RegRow := [
  ⟨0x040, 1, 4, .rw, 0x0, 0x3⟩,
  ⟨0x044, 1, 4, .wo, 0x0, 0x0⟩,
  ⟨0x048, 1, 4, .rw, 0x0, 0xFFFFFFFF⟩,
  ⟨0x04C, 1, 4, .ro, 0x0, 0x0⟩,
  ⟨0x050, 1, 4, .ro, 0x0, 0x0⟩,
  ⟨0x054, 1, 4, .rw, 0x0, 0x3FFFF⟩,
  ⟨0x058, 1, 4, .ro, 0x0, 0x0⟩,
  ⟨0x05C, 1, 4, .ro, 0x0, 0x0⟩,
  ⟨0x060, 1, 4, .ro, 0x0, 0x0⟩,
  ⟨0x064, 1, 4, .ro, 0x0, 0x0⟩,
  ⟨0x068, 1, 4, .ro, 0x0, 0x0⟩,
  ⟨0x06C, 1, 4, .ro, 0x0, 0x0⟩,
  ⟨0x070, 1, 4, .ro, 0x0, 0x0⟩,
  ⟨0x074, 1, 4, .ro, 0x0, 0x0⟩,
  ⟨0x078, 1, 4, .wo, 0x0, 0x0⟩,
  ⟨0x07C, 1, 4, .rw, 0x2710, 0xFFFF⟩,
  ⟨0x080, 64, 32, .rw, 0x0, 0x7FFFFFF⟩,
  ⟨0x084, 64, 32, .rw, 0x0, 0xFFFF⟩,
  ⟨0x088, 64, 32, .rw, 0x0, 0xFFFFFFFF⟩,
  ⟨0x08C, 64, 32, .rw, 0x0, 0xFFFFFFFF⟩,
  ⟨0x090, 64, 32, .ro, 0x0, 0x0⟩,
  ⟨0x094, 64, 32, .ro, 0x0, 0x0⟩,
  ⟨0x098, 64, 32, .ro, 0x0, 0x0⟩,
  ⟨0x09C, 64, 32, .ro, 0x0, 0x0⟩,
  ⟨0x880, 8, 64, .rw, 0x0, 0x1F1F⟩,
  ⟨0x884, 8, 64, .rw, 0x0, 0x3FFFF⟩,
  ⟨0x888, 8, 64, .rw, 0x2, 0xFFFF⟩,
  ⟨0x88C, 8, 64, .rw, 0x3E8, 0xFFFF⟩,
  ⟨0x890, 8, 64, .rw, 0x0, 0xFFFF⟩,
  ⟨0x894, 8, 64, .rw, 0x0, 0xFFFFFFFF⟩]
/-- Register rows of GOOSE (R376). -/
def rowsGOOSE_1part : List RegRow := [
  ⟨0x898, 8, 64, .ro, 0x0, 0x0⟩,
  ⟨0x89C, 8, 64, .ro, 0x0, 0x0⟩,
  ⟨0x8A0, 8, 64, .ro, 0x0, 0x0⟩,
  ⟨0x8A4, 8, 64, .ro, 0x0, 0x0⟩,
  ⟨0x8A8, 8, 64, .ro, 0x0, 0x0⟩]
/-- All register rows of GOOSE. -/
def rowsGOOSEAll : List RegRow := rowsGOOSEpart ++ rowsGOOSE_1part

/-- Register rows of SV (R377). -/
def rowsSVpart : List RegRow := [
  ⟨0x040, 1, 4, .rw, 0x0, 0x7⟩,
  ⟨0x044, 1, 4, .ro, 0x0, 0x0⟩,
  ⟨0x048, 1, 4, .rw, 0x0, 0x3FFFF⟩,
  ⟨0x04C, 1, 4, .ro, 0x0, 0x0⟩,
  ⟨0x050, 1, 4, .ro, 0x0, 0x0⟩,
  ⟨0x054, 1, 4, .ro, 0x0, 0x0⟩,
  ⟨0x058, 1, 4, .wo, 0x0, 0x0⟩]
/-- All register rows of SV. -/
def rowsSVAll : List RegRow := rowsSVpart

/-- Register rows of GRD (R353). -/
def rowsGRDpart : List RegRow := [
  ⟨0x040, 1, 4, .ro, 0x104, 0x0⟩,
  ⟨0x044, 1, 4, .ro, 0x0, 0x0⟩,
  ⟨0x048, 1, 4, .ro, 0x0, 0x0⟩,
  ⟨0x04C, 1, 4, .wo, 0x0, 0x0⟩,
  ⟨0x050, 1, 4, .ro, 0xF00, 0x0⟩,
  ⟨0x054, 1, 4, .ro, 0x0, 0x0⟩,
  ⟨0x058, 1, 4, .ro, 0x0, 0x0⟩,
  ⟨0x05C, 1, 4, .ro, 0x0, 0x0⟩,
  ⟨0x060, 1, 4, .ro, 0x0, 0x0⟩,
  ⟨0x064, 1, 4, .ro, 0x0, 0x0⟩,
  ⟨0x068, 1, 4, .ro, 0x0, 0x0⟩,
  ⟨0x06C, 3, 4, .ro, 0x0, 0x0⟩,
  ⟨0x078, 1, 4, .ro, 0x0, 0x0⟩,
  ⟨0x07C, 1, 4, .ro, 0x0, 0x0⟩,
  ⟨0x080, 1, 4, .ro, 0x0, 0x0⟩,
  ⟨0x084, 1, 4, .ro, 0x0, 0x0⟩,
  ⟨0x088, 1, 4, .ro, 0x0, 0x0⟩,
  ⟨0x08C, 1, 4, .ro, 0x0, 0x0⟩,
  ⟨0x090, 1, 4, .ro, 0x0, 0x0⟩,
  ⟨0x094, 1, 4, .ro, 0x0, 0x0⟩,
  ⟨0x098, 1, 4, .ro, 0x0, 0x0⟩,
  ⟨0x09C, 1, 4, .ro, 0x0, 0x0⟩,
  ⟨0x0A0, 1, 4, .ro, 0x0, 0x0⟩]
/-- All register rows of GRD. -/
def rowsGRDAll : List RegRow := rowsGRDpart

/-- Register rows of GCURVE (R354). -/
def rowsGCURVEpart : List RegRow := [
  ⟨0x040, 16, 4, .ro, 0x0, 0x0⟩,
  ⟨0x080, 128, 4, .ro, 0x0, 0x0⟩,
  ⟨0x280, 16, 4, .ro, 0x0, 0x0⟩]
/-- All register rows of GCURVE. -/
def rowsGCURVEAll : List RegRow := rowsGCURVEpart

/-- Register rows of GSEAL (R355). -/
def rowsGSEALpart : List RegRow := [
  ⟨0x040, 1, 4, .ro, 0x0, 0x0⟩,
  ⟨0x044, 1, 4, .wo, 0x0, 0x0⟩,
  ⟨0x048, 1, 4, .ro, 0x0, 0x0⟩,
  ⟨0x04C, 1, 4, .ro, 0x0, 0x0⟩,
  ⟨0x050, 1, 4, .ro, 0x0, 0x0⟩,
  ⟨0x054, 1, 4, .ro, 0x0, 0x0⟩,
  ⟨0x058, 1, 4, .ro, 0x0, 0x0⟩,
  ⟨0x05C, 1, 4, .ro, 0x0, 0x0⟩,
  ⟨0x060, 1, 4, .ro, 0x0, 0x0⟩,
  ⟨0x064, 8, 4, .wo, 0x0, 0x0⟩,
  ⟨0x084, 8, 4, .wo, 0x0, 0x0⟩,
  ⟨0x0A4, 8, 4, .ro, 0x0, 0x0⟩,
  ⟨0x0C4, 1, 4, .ro, 0x0, 0x0⟩,
  ⟨0x0C8, 1, 4, .rw, 0x0, 0x3F⟩,
  ⟨0x0CC, 1, 4, .ro, 0x0, 0x0⟩,
  ⟨0x0D0, 1, 4, .ro, 0x0, 0x0⟩,
  ⟨0x0D4, 8, 4, .ro, 0x0, 0x0⟩,
  ⟨0x0F4, 1, 4, .ro, 0x0, 0x0⟩,
  ⟨0x0F8, 1, 4, .ro, 0x0, 0x0⟩]
/-- All register rows of GSEAL. -/
def rowsGSEALAll : List RegRow := rowsGSEALpart

/-- Register rows of GSAFE (R356). -/
def rowsGSAFEpart : List RegRow := [
  ⟨0x040, 1, 4, .ro, 0x0, 0x0⟩,
  ⟨0x044, 1, 4, .ro, 0x0, 0x0⟩,
  ⟨0x048, 1, 4, .ro, 0x0, 0x0⟩,
  ⟨0x04C, 1, 4, .ro, 0x0, 0x0⟩,
  ⟨0x050, 1, 4, .ro, 0x0, 0x0⟩,
  ⟨0x054, 1, 4, .wo, 0x0, 0x0⟩,
  ⟨0x058, 1, 4, .ro, 0x0, 0x0⟩,
  ⟨0x05C, 1, 4, .ro, 0x0, 0x0⟩,
  ⟨0x060, 1, 4, .ro, 0x0, 0x0⟩]
/-- All register rows of GSAFE. -/
def rowsGSAFEAll : List RegRow := rowsGSAFEpart

/-- Register rows of AUXP (R405). -/
def rowsAUXPpart : List RegRow := [
  ⟨0x040, 1, 4, .rw, 0x0, 0x1⟩,
  ⟨0x044, 1, 4, .rw, 0x0, 0x3FFFF⟩,
  ⟨0x080, 2, 64, .rw, 0x10, 0xFFF3⟩,
  ⟨0x084, 2, 64, .ro, 0x0, 0x0⟩,
  ⟨0x088, 2, 64, .ro, 0x0, 0x0⟩,
  ⟨0x08C, 2, 64, .ro, 0x0, 0x0⟩,
  ⟨0x090, 2, 64, .ro, 0x0, 0x0⟩,
  ⟨0x094, 2, 64, .rw, 0x0, 0xFFFF⟩,
  ⟨0x098, 2, 64, .rw, 0x3F733333, 0xFFFFFFFF⟩,
  ⟨0x09C, 2, 64, .rw, 0x1F4, 0xFFFF⟩,
  ⟨0x0A0, 2, 64, .ro, 0x0, 0x0⟩,
  ⟨0x0A4, 2, 64, .ro, 0x0, 0x0⟩,
  ⟨0x0A8, 2, 64, .wo, 0x0, 0x0⟩]
/-- All register rows of AUXP. -/
def rowsAUXPAll : List RegRow := rowsAUXPpart

/-- Register rows of IDM (R404). -/
def rowsIDMpart : List RegRow := [
  ⟨0x040, 1, 4, .rw, 0xA00, 0xFFFF⟩,
  ⟨0x044, 1, 4, .wo, 0x0, 0x0⟩,
  ⟨0x048, 1, 4, .ro, 0x0, 0x0⟩,
  ⟨0x04C, 1, 4, .rw, 0x0, 0x3FFFF⟩,
  ⟨0x050, 1, 4, .rw, 0x0, 0x3FFFF⟩,
  ⟨0x054, 1, 4, .ro, 0x0, 0x0⟩,
  ⟨0x080, 16, 4, .ro, 0x0, 0x0⟩,
  ⟨0x0C0, 16, 4, .rw, 0x0, 0x33F7F07⟩,
  ⟨0x100, 16, 4, .ro, 0x0, 0x0⟩]
/-- All register rows of IDM. -/
def rowsIDMAll : List RegRow := rowsIDMpart

/-- Register rows of TEST (R416). -/
def rowsTESTpart : List RegRow := [
  ⟨0x040, 1, 4, .rw, 0x1, 0x1⟩,
  ⟨0x044, 1, 4, .ro, 0x0, 0x0⟩,
  ⟨0x048, 1, 4, .ro, 0x0, 0x0⟩,
  ⟨0x04C, 1, 4, .ro, 0x0, 0x0⟩,
  ⟨0x050, 1, 4, .ro, 0x0, 0x0⟩,
  ⟨0x054, 1, 4, .ro, 0x0, 0x0⟩,
  ⟨0x058, 1, 4, .ro, 0x0, 0x0⟩,
  ⟨0x05C, 1, 4, .ro, 0x0, 0x0⟩,
  ⟨0x060, 1, 4, .ro, 0x0, 0x0⟩,
  ⟨0x064, 1, 4, .rw, 0x0, 0xFFFFFFFF⟩,
  ⟨0x068, 1, 4, .rw, 0x0, 0xFFFFFFFF⟩,
  ⟨0x06C, 1, 4, .wo, 0x0, 0x0⟩,
  ⟨0x070, 1, 4, .ro, 0x0, 0x0⟩,
  ⟨0x074, 1, 4, .ro, 0x0, 0x0⟩,
  ⟨0x078, 1, 4, .rw, 0x4E20, 0xFFFF⟩,
  ⟨0x07C, 1, 4, .wo, 0x0, 0x0⟩,
  ⟨0x080, 16, 4, .ro, 0xFF, 0x0⟩]
/-- All register rows of TEST. -/
def rowsTESTAll : List RegRow := rowsTESTpart

/-- The block a page index belongs to, its first page, its page count and its rows (R38). -/
structure PageInfo where
  first : Nat
  count : Nat
  rows : List RegRow
  deriving DecidableEq, Repr

/-- The page index of R38 with the register rows of each block. -/
def pageTable : List PageInfo := [
  ⟨0x00, 1, rowsIDAll⟩,
  ⟨0x01, 1, rowsCLKAll⟩,
  ⟨0x02, 1, rowsPWRAll⟩,
  ⟨0x03, 1, rowsHOSTAll⟩,
  ⟨0x04, 1, rowsLOGAll⟩,
  ⟨0x05, 1, rowsKEEPAll⟩,
  ⟨0x06, 1, rowsTIMEAll⟩,
  ⟨0x07, 1, rowsSYNCAll⟩,
  ⟨0x08, 1, rowsRIDEAll⟩,
  ⟨0x09, 1, rowsISLDAll⟩,
  ⟨0x0A, 1, rowsPUMPAll⟩,
  ⟨0x0B, 1, rowsSUMPAll⟩,
  ⟨0x0C, 1, rowsCHAN0All⟩,
  ⟨0x0D, 1, rowsCHAN1All⟩,
  ⟨0x0E, 1, rowsPROFAll⟩,
  ⟨0x0F, 1, rowsTRACKAll⟩,
  ⟨0x10, 1, rowsCOMPAll⟩,
  ⟨0x11, 1, rowsPWMCAll⟩,
  ⟨0x12, 12, rowsPWMnAll⟩,
  ⟨0x1E, 1, rowsISLCAll⟩,
  ⟨0x1F, 8, rowsISLnAll⟩,
  ⟨0x27, 1, rowsADCCAll⟩,
  ⟨0x28, 2, rowsADCnAll⟩,
  ⟨0x2A, 1, rowsADCQAll⟩,
  ⟨0x2B, 1, rowsCMPAll⟩,
  ⟨0x2C, 16, rowsLANEnAll⟩,
  ⟨0x3C, 8, rowsRINGnAll⟩,
  ⟨0x44, 1, rowsCELLSAll⟩,
  ⟨0x45, 1, rowsCELLAll⟩,
  ⟨0x46, 1, rowsMETCAll⟩,
  ⟨0x47, 3, rowsMETnAll⟩,
  ⟨0x4A, 1, rowsPQAll⟩,
  ⟨0x4B, 2, rowsSTNnAll⟩,
  ⟨0x4D, 1, rowsPRPAll⟩,
  ⟨0x4E, 1, rowsPTPAll⟩,
  ⟨0x4F, 1, rowsGOOSEAll⟩,
  ⟨0x50, 1, rowsSVAll⟩,
  ⟨0x51, 1, rowsGRDAll⟩,
  ⟨0x52, 1, rowsGCURVEAll⟩,
  ⟨0x53, 1, rowsGSEALAll⟩,
  ⟨0x54, 1, rowsGSAFEAll⟩,
  ⟨0x55, 1, rowsAUXPAll⟩,
  ⟨0x56, 1, rowsIDMAll⟩,
  ⟨0x57, 1, rowsTESTAll⟩]

end Sys2Proof.Machine
end

