-- ==== Sys2Proof/Machine/State.lean ====
section
/-! DEFINITION. The state of an OD8760 block: plain data, one structure per part of the device, the fault and refusal names, and
the state right after reset. Every register of the page map has its home in `regs` (or is a view that `readReg` computes from
the parts below); INVENTORY.md lists each piece with the rule that names it. -/
namespace Sys2Proof.Machine

/-- The six modes (R45). -/
inductive Mode where
  | dormant | boot | configure | armed | run | safe
  deriving DecidableEq, Repr

/-- The four roles (R1). -/
inductive Role where
  | wellhead | cell | standby | test
  deriving DecidableEq, Repr

/-- Power, mode and host-bus state (spec/02, spec/03). -/
structure PowerState where
  /-- mode in force (R45) -/
  mode : Mode
  /-- role latch (R1) -/
  role : Role
  /-- level of ROLE1:0 now (ID.ROLE[9:8], R44) -/
  roleBalls : BitVec 2
  /-- reset sources seen since the last BOOT, to be shown in RESET_CAUSE (R56, R59) -/
  causePending : BitVec 5
  /-- the BOOT steps have run (R51) -/
  bootDone : Bool
  /-- the Guard handshake of BOOT step 3 ran out of its 5 ms (R51) -/
  guardTimeout : Bool
  /-- a fatal BOOT result stands until reset (R51) -/
  bootFatal : Bool
  /-- the Keeper's record showed ARMED, RUN or SAFE when this BOOT began (R52) -/
  prior : Bool
  /-- tick of a first clearance write that awaits its partner (R58) -/
  clearFirst : Option Nat
  /-- tick at which CLEARED was set (R58) -/
  clearedAt : Option Nat
  /-- MODE_STAT.SOFT_OFF_DONE (R49) -/
  softOff : Bool
  /-- SAFE was entered since the last E0 (R123) -/
  safeNew : Bool
  /-- tick of the last entry to SAFE (R48) -/
  safeAt : Nat
  /-- control-domain block asserted (MODE_STAT.CBLOCK) -/
  cblock : Bool
  /-- an internal-link handshake with the Guard is lost (R55) -/
  guardLost : Bool
  /-- host bus mode in force: synchronous (R24) -/
  busSync : Bool
  /-- a bus-mode change under way: the tick it applies at and the new mode (R24) -/
  busChange : Option (Nat × Bool)
  /-- the host bank runs at 1.8 V (BUS_STAT[1], R420) -/
  hostBank18 : Bool
  /-- data the device drove on AD at the last read (R27) -/
  hostData : Word
  /-- the loader: a load in progress with its source offset, target word and start tick (R43) -/
  load : Option (Nat × Word × Nat)
  /-- the 16-entry queue of posted Guard writes: address, data, byte enables (R28) -/
  gpost : List (Nat × Word × Nat)
  deriving DecidableEq, Repr

/-- Root clock, timebase and plant time (spec/04). -/
structure ClockState where
  /-- edge ticks since power-on (R4) -/
  tick : Nat
  /-- plant time in eighths of a nanosecond: SEC, NS and the 3-bit accumulator (R68) -/
  plant8 : Nat
  /-- edge tick of the last E0 (R11) -/
  e0 : Nat
  /-- the period generator runs (R45) -/
  gen : Bool
  /-- where the next E0 falls, when it is not one period after the last (R72, R73) -/
  e0Plan : Option Nat
  /-- edge tick of the first E0 after lock, from which the divided clocks count (R64) -/
  div0 : Nat
  /-- a RELOCK holds the period generator stopped until lock (R65) -/
  relock : Bool
  /-- the generator halted in SAFE with the PLL unlocked (R66) -/
  halted : Bool
  /-- VCO tuning frozen by an unlock not caused by RELOCK (R66) -/
  frozen : Bool
  /-- band code driven to the VCO (R61) -/
  bandCode : Nat
  /-- dither LFSR (R63) -/
  lfsr : BitVec 23
  /-- E6 of the period has passed -/
  e6Done : Bool
  /-- consecutive servo samples within LOCK_NS (R69) -/
  servoRun : Nat
  /-- tick of the last servo sample (R69) -/
  servoLast : Option Nat
  /-- PPS_OUT is high, with the tick at which it falls (R71) -/
  ppsHigh : Option Nat
  /-- tick of the last accepted PPS_IN edge (R71) -/
  ppsLast : Option Nat
  /-- PPS_IN edges ignored because they came within 0.5 s (R71) -/
  ppsIgnored : Nat
  /-- alignment is being acquired at the next whole second (R72) -/
  aligning : Bool
  /-- time lane: port in use (R73) -/
  tlPort : Option Bool
  /-- tick at which the port in use was taken -/
  tlTaken : Nat
  /-- consecutive marks seen on ports 0 and 1 while searching (R73) -/
  tlMarks0 : Nat
  tlMarks1 : Nat
  /-- tick of the last mark on the port in use -/
  tlLast : Option Nat
  /-- the last spacing of two marks, for learning the period (R73) -/
  tlSpacing : Option Nat
  /-- consecutive missing marks (R74) -/
  tlMisses : Nat
  deriving DecidableEq, Repr

/-- One OTP seal slot (R346). -/
structure SealSlot where
  fuse : Bool
  digest : BitVec 256
  time : Word
  deriving DecidableEq, Repr

/-- The Guard die (spec/16); its host-visible registers are in `regs`. -/
structure GuardState where
  /-- in reset, or VDDG below its brown-out threshold (R55) -/
  inReset : Bool
  /-- PROFILE_OK (R51 step 4, R339) -/
  profileOk : Bool
  /-- GTRIP outputs released by a decision (R337) -/
  released : BitVec 4
  /-- GTRIP balls that do not follow their command (R330) -/
  stuckBalls : BitVec 4
  /-- last mode reported over the internal link (R333) -/
  modeRep : Mode
  /-- onset ticks of the request lines of codes 16, 17, 18 (R335) -/
  reqRide : Option Nat
  reqIsld : Option Nat
  reqTt : Option Nat
  /-- an ESTOP demand waits for ESTOP_DELAY since this tick (R342) -/
  estop : Option Nat
  /-- GTP0 and GTP1 are in their low pulse (R341) -/
  gtpLow0 : Bool
  gtpLow1 : Bool
  /-- tick of the last rising edge of GTP0, GTP1 -/
  gtpRise0 : Option Nat
  gtpRise1 : Option Nat
  /-- safety inputs whose two channels were seen open together since the fault, and then closed together (R343) -/
  provedOpen : BitVec 3
  provedClosed : BitVec 3
  /-- the readback of GTP0 or GTP1 differs from its command (R344) -/
  tpBad : Bool
  /-- the 48 seal slots (R346) -/
  slots : SMap SealSlot
  /-- seal session: 0 closed, 1 change, 2 restore, 3 burning (R349) -/
  session : Nat
  /-- tick at which the session opened -/
  sessionAt : Nat
  /-- NEW_DIGEST of the open session (R349) -/
  sessionDigest : BitVec 256
  /-- a change image is staged beside the active profile (R349) -/
  staged : Bool
  /-- number of the nonce in use: the nonce itself is the free value Config.nonce of it (R348) -/
  nonceIx : Nat
  /-- Guard RAM, seen through the Guard window (R32) -/
  ram : SMap Byte
  deriving DecidableEq, Repr

/-- A persistent log entry in its 24-byte form (R410). -/
abbrev PEntry := List Byte

/-- The Keeper and the Cistern (spec/18). -/
structure KeeperState where
  /-- 0 START, 1 SERVICE, 2 RECOVERY, 3 TEST (R380) -/
  st : Nat
  kpg : Bool
  rtcValid : Bool
  cistConn : Bool
  vddioSrc : Bool
  /-- VKEEP at or above 2.0 V (R386, R410) -/
  vkeepOk : Bool
  /-- the nonvolatile header verifies (R385) -/
  headerOk : Bool
  /-- mode record of R52 -/
  modeRec : Mode
  /-- seal-switch pattern last seen (R385) -/
  sealSeen : BitVec 16
  /-- a seal-switch change while the control domain was off: old and new pattern, logged at the next BOOT (R347) -/
  sealLater : Option (BitVec 16 × BitVec 16)
  rtcSec : Nat
  rtcFrac : Nat
  /-- a last-gasp entry could not be written (R386) -/
  gaspLost : Bool
  /-- the type of the pending burst (R389) -/
  burstPend : Option Nat
  /-- the burst running: type, frames, store at the start, frames stopped after (R383) -/
  burstRun : Option (Nat × Nat × Nat)
  /-- frames the running burst will have sent when it ends, once aborted -/
  burstCut : Option Nat
  /-- an aborted burst waits for STORE_TRANSMIT + 100 mV: its type (R383) -/
  burstRetry : Option Nat
  /-- the denial of the pending burst has been counted (R382) -/
  burstDenied : Bool
  /-- the beacon frame of the last burst that started (R389) -/
  beacon : List Byte
  /-- grid-return candidate result of the present run (R388) -/
  grCand : Bool
  /-- persistent ring: next slot, entries held, newest SEQ (R410) -/
  pNext : Nat
  pCount : Nat
  pNewest : Option Word
  /-- entries of persistent classes not yet stored (R408) -/
  pq : List PEntry
  /-- the 32 KiB of nonvolatile memory (R385) -/
  nv : SMap Byte
  deriving DecidableEq, Repr

/-- An event noted for the log, written when its command ends (R407, R408). -/
structure LogNote where
  cls : Nat
  irqBit : Option Nat
  pg : Nat
  handle : Word
  data : List (Nat × Nat)
  time : Nat
  flags : Nat
  deriving DecidableEq, Repr

/-- Service-life counts that no register shows whole (spec/20). -/
structure TestState where
  /-- position of the scrubber, in 64-bit words of the pass (R411) -/
  scrubPos : Nat
  deriving DecidableEq, Repr

/-! ## The Pump, banks and channels (spec/05, spec/06) -/

/-- A write the Pump has issued and not yet retired (R79). -/
inductive Retire where
  | sump (i : Nat) (w : Word)
  | pred (i : Nat) (b : Bool)
  | res (i : Nat) (w : Word)
  | out (i : Nat) (w : Word)
  /-- the result written just before it would have been NaN, or infinite (R80) -/
  | count (nan ofl : Bool)
  | fin
  deriving DecidableEq, Repr

/-- One linked channel segment of a bank: the slot, its main strokes, and the descriptor numbers its local descriptors took (R105,
R106). -/
structure Segment where
  chan : Nat
  base : Nat
  len : Nat
  desc : List Nat
  deriving DecidableEq, Repr

/-- The layout of a schedule bank (R89, R91, R106, R436). -/
structure BankLayout where
  /-- system strokes of the main area -/
  sysMain : Nat
  /-- system strokes issued before the channel segments: LINK_AT + 1, or 0 -/
  linkPos : Nat
  /-- linked segments in ascending channel index -/
  segs : List Segment
  /-- system strokes of each slow slice -/
  sliceSys : List Nat
  /-- strokes of each slow slice as composed -/
  sliceLen : List Nat
  slowDiv : Nat
  outPhase : Nat
  /-- system descriptors -/
  sysDesc : Nat
  unverified : Bool
  deriving DecidableEq, Repr

/-- What the Pump is issuing. -/
inductive PumpRun where
  | idle | main | slow
  deriving DecidableEq, Repr

/-- The Pump and its banks. -/
structure PumpState where
  /-- a bank is in force, and which one (R87) -/
  inForce : Bool
  active : Nat
  /-- the standby is STAGED (R88) -/
  stagedBank : Bool
  /-- BANK_STAT.SWAP_MISSED (R88) -/
  missed : Bool
  lay0 : BankLayout
  lay1 : BankLayout
  /-- the predicates P0–P7 (R84) -/
  preds : BitVec 8
  run : PumpRun
  /-- strokes of the schedule or slice not yet issued, in order (R90, R92) -/
  issue : List (BitVec 64)
  /-- Pump cycle after E0 at which the next stroke issues -/
  cyc : Nat
  /-- issued and not yet retired, in order of retirement: the cycle, the write, and whether the main schedule issued it (R79) -/
  pipe : List (Nat × Retire × Bool)
  /-- the main schedule of this period has started (R90) -/
  started : Bool
  /-- the channels due in this period, each with the number of strokes issued when its segment is done, and all strokes (R90, R115) -/
  due : List (Nat × Nat)
  total : Nat
  /-- the slow slice chosen for this period in step (4) of R15 (R92) -/
  slice : Option Nat
  /-- Pump cycle after E0 at which FIN retired in this period (R91) -/
  finAt : Option Nat
  /-- writes to the output region pending until E4 (R86) -/
  outPend : SMap (Option Word)
  /-- writes a slow slice retired after E4: they join the next period's set (R86) -/
  outLate : SMap (Option Word)
  /-- E4 of the period has passed -/
  e4Done : Bool
  /-- an overrun was flagged in this period (R91) -/
  overrun : Bool
  /-- consecutive overruns in ARMED and RUN (R91) -/
  overruns : Nat
  deriving DecidableEq, Repr

/-- One loop-channel slot (R101–R115). -/
structure ChanSlot where
  /-- 0 FREE, 1 LOADING, 2 STAGED, 3 LIVE, 4 DRAINING (R101) -/
  st : Nat
  gen : Nat
  /-- mode in force, true AUTO; of a STAGED channel the mode it will take -/
  auto : Bool
  divLog : Nat
  phase : Nat
  req : Nat
  used : Nat
  /-- allocated granules, ascending (R105) -/
  granules : List Nat
  replaces : Word
  release : Bool
  /-- the slot this STAGED channel takes the place of, once its load was accepted (R113) -/
  takesFrom : Option Nat
  /-- a MANUAL (false) or AUTO (true) command awaiting a due E0 (R111) -/
  cmd : Option Bool
  /-- the awaiting AUTO is the one of R113, which also awaits the first execution -/
  cmdAfterExec : Bool
  /-- E0s left in DRAINING (R108) -/
  drain : Nat
  /-- executed since the last E0 (R115) -/
  executed : Bool
  feLimit : Word
  feTime : Nat
  feAction : Nat
  feTimer : Nat
  feOver : Bool
  feFired : Bool
  feHeld : Bool
  /-- header words of the image: INTEG, AUTO, OUT, MAN, MODE, FE_REF, FE_FB; 0xFFFF for none (R104) -/
  integW : Nat
  autoW : Nat
  outW : Nat
  manW : Nat
  modeW : Nat
  feRefW : Nat
  feFbW : Nat
  /-- the accepted image: main and slow strokes as given, local descriptors, first slice, cycles per execution (R104) -/
  mainStrokes : List (BitVec 64)
  slowStrokes : List (BitVec 64)
  desc : List Word
  sliceBase : Nat
  cycles : Nat
  deriving DecidableEq, Repr

/-- A DRAIN composition under way: the slot and its generation when the command came (R106). -/
structure DrainJob where
  slot : Nat
  gen : Nat
  deriving DecidableEq, Repr

/-! ## Profiles, trackers and tables (spec/07) -/

/-- A profile slot (R118–R126); its registers are in `regs`. -/
structure ProfSlot where
  alloc : Bool
  gen : Nat
  /-- 1 SETTLED, 2 MOVING, 3 HELD, 4 FSTOP, 5 FSTOPPED -/
  st : Nat
  tgtClamp : Bool
  /-- an FSTOP awaits the next E0 (R121) -/
  fsPend : Bool
  /-- HOLD 3, RELEASE 4, RESUME 6 and SET 7 awaiting the next E0, oldest first -/
  cmds : List Nat
  /-- step (3) of R15 changed TARGET, RATE, ACCEL or JERK at this E0 -/
  changed : Bool
  /-- the trajectory: spans of (seconds, jerk) and the state it starts from, in fixed point with 160 fraction bits (R120) -/
  spans : List (Int × Int)
  y0 : Int
  v0 : Int
  a0 : Int
  /-- E0s written on the trajectory -/
  at_ : Nat
  /-- the trajectory or the ramp has written its end value (R120, R123) -/
  ended : Bool
  deriving DecidableEq, Repr

/-- A tracker slot (R127–R133). -/
structure TrkSlot where
  alloc : Bool
  gen : Nat
  /-- 1 STOPPED, 2 TRACKING, 3 SCANNING, 4 HELD -/
  st : Nat
  /-- registers 0x050 to 0x084 by offset -/
  cfg : SMap Word
  vp : Word
  ip : Word
  /-- the next step is a baseline step -/
  baseline : Bool
  /-- valid samples of the interval: how many, and their sums: exact in units of 2^−149, and added one by one in binary32 -/
  count : Nat
  sumV : Int
  sumI : Int
  runV : Word
  runI : Word
  /-- the interval has ended at a due E0 and its step is to be taken -/
  stepDue : Bool
  scanReq : Bool
  /-- edge ticks of periods since the end of the last scan, or START (R131) -/
  sinceScan : Nat
  scanPos : Nat
  /-- the largest recorded power and the Vref of its point -/
  best : Option (Word × Word)
  srcLost : Bool
  curtail : Bool
  rateClamp : Bool
  /-- consecutive skipped steps (R133) -/
  skips : Nat
  skipCnt : Word
  deriving DecidableEq, Repr

/-- Table RAM halves (R134, R135). -/
structure TabState where
  /-- physical half active, per table -/
  active : BitVec 8
  armed : BitVec 8
  busy : BitVec 8
  deriving DecidableEq, Repr

/-! ## SYNC, RIDE and ISLD (spec/08) -/

/-- What SYNC keeps of an E0 for the averages and differences of R150, R157 and R159: OMEGA, θobs, |V+| and Q_MEAS. -/
structure GridPast where
  omega : Word
  thetaObs : Word
  vp : Word
  q : Word
  deriving DecidableEq, Repr

/-- SYNC (R142–R153). -/
structure SyncState where
  /-- 0 IDLE, 1 ACQUIRE, 2 TRACKING, 3 COASTING, 4 SLEWING, 5 LOST -/
  st : Nat
  /-- grid-forming in force -/
  gfm : Bool
  clamp : Bool
  fClamp : Bool
  gfClamp : Bool
  /-- consecutive E0s toward lock, or toward unlock (R146) -/
  lockCnt : Nat
  /-- SETTLE: consecutive good E0s in COASTING or LOST (R151, R152) -/
  settle : Nat
  /-- periods since the coast began (R151) -/
  coast : Nat
  /-- θobs at the last E0, rad -/
  thetaObs : Word
  /-- up to 1,024 past E0s, newest first -/
  past : List GridPast
  deriving DecidableEq, Repr

/-- RIDE (R154–R158). -/
structure RideState where
  /-- the sub-state of Sump word 6 -/
  sub : Nat
  /-- timers of LV_PT (0–7), HV_PT (8–15), UF_PT (16–19) and OF_PT (20–23), in periods -/
  timers : SMap Nat
  exitCnt : Nat
  hv : Bool
  src : Nat
  point : Nat
  /-- PERIOD_CNT at the last entry to SUPPORT -/
  supportAt : Word
  /-- the last E0 was in RUN -/
  wasRun : Bool
  deriving DecidableEq, Repr

/-- ISLD (R159–R161). -/
structure IsldState where
  req : Bool
  src : Nat
  inert : Bool
  rocofT : Nat
  afT : Nat
  /-- methods 1–4 (bits 0–3) whose decision stands -/
  decided : BitVec 4
  deriving DecidableEq, Repr

/-! ## PWM generators and drive islands (spec/09, spec/10) -/

/-- One output of a PWM generator, before the polarity of its ball. -/
structure PwmOut where
  /-- raw signal (R169) -/
  raw : Bool
  /-- the output is on -/
  on : Bool
  /-- instant of the last rise (R175) -/
  rose : Int
  /-- instant of the last actual falling edge (R173) -/
  fell : Option Int
  /-- the rise that waits for the dead time (R173) -/
  pend : Option Int
  /-- a falling edge placed by the minimum-pulse rules (R174, R175) -/
  place : Option Int
  /-- the rise is deferred behind the other output's pulse (R174) -/
  defer : Bool
  deriving DecidableEq, Repr

/-- One PWM generator (R167–R182); its registers are in `regs`. -/
structure PwmGen where
  running : Bool
  /-- edge tick of position 0 of the period under way (R168) -/
  t0 : Int
  /-- position held while the counter does not run -/
  pos : Nat
  /-- PRD of the period under way -/
  prd : Nat
  a : PwmOut
  b : PwmOut
  /-- C1 of R169: CMPA and CMPB in force during the first half-period -/
  c1a : Nat
  c1b : Nat
  /-- MID of this period has passed -/
  half : Bool
  /-- the outputs wait for a BOUNDARY to resume (R177, R178) -/
  wait : Bool
  /-- one-shot latch: 0 none, 1 latched, 2 cleared and waiting for a BOUNDARY (R177) -/
  oneShot : Nat
  /-- held by a cycle-by-cycle source (R177) -/
  cbc : Bool
  /-- fractions staged and not yet transferred (R171) -/
  stg : Bool
  /-- LOCK = 1 and EN set: starts at the next E0 (R179) -/
  startE0 : Bool
  /-- EPOCH_PHASE written: it loads at the next E0 (R179) -/
  loadE0 : Bool
  /-- stopped by a RELOCK, to go on from `pos` (R65) -/
  frozen : Bool
  /-- CMPC and CMPD have fired in this period (R176) -/
  cDone : Bool
  dDone : Bool
  deriving DecidableEq, Repr

/-! ## Converters and comparators (spec/11) -/

/-- A conversion under way, or done and not yet written (R206). -/
structure AdcConv where
  inj : Bool
  /-- entry of its sequence -/
  entry : Nat
  /-- the sequence entry's word: LVEN, QEN, CH -/
  word : Word
  /-- edge tick at which it started -/
  start : Nat
  /-- tick of the E0 that triggered its sequence, for the lateness rule (R211) -/
  epoch : Option Nat
  /-- it is the last entry of its sequence -/
  last : Bool
  deriving DecidableEq, Repr

/-- One sequence of a converter (R207, R208). -/
structure AdcSeq where
  /-- instants at which the selected source fired, not yet taken, oldest first -/
  fired : List Nat
  /-- end of the trigger delay under way -/
  wait : Option Nat
  pend : Bool
  /-- the next entry of a running sequence -/
  next : Option Nat
  /-- tick of the E0 that triggered it -/
  epoch : Option Nat
  deriving DecidableEq, Repr

/-- One converter. -/
structure AdcState where
  reg : AdcSeq
  inj : AdcSeq
  /-- conversions under way, oldest first -/
  convs : List AdcConv
  /-- the step trigger of this period has been taken (source code 26) -/
  stepDone : Bool
  deriving DecidableEq, Repr

/-- The digital filter of a comparator (R215): up to 31 samples, newest in bit 0, and the fabric tick of the newest. -/
structure CmpFilter where
  hist : Nat
  upd : Nat
  deriving DecidableEq, Repr

/-- A drive island (R186–R201). -/
structure Island where
  /-- the selected command after R189, before the interlock -/
  level : Bool
  /-- the command sent to the island, after R194 (STAT.CMD) -/
  cmd : Bool
  /-- SWINn commands on, after the polarity -/
  swin : Bool
  /-- a turn-on sequence or its hold is in progress -/
  out : Bool
  /-- the Miller clamp is closed -/
  clamp : Bool
  /-- the gate is below VEE + 2.0 V -/
  gateOff : Bool
  /-- start of the soft turn-off in progress -/
  soft : Option Nat
  /-- start of the last turn-on sequence -/
  seqAt : Nat
  /-- the blanking timer runs, and the island is armed (R195) -/
  blank : Bool
  armed : Bool
  /-- a fault is latched, and its TYPE (R197) -/
  fault : Bool
  typ : Nat
  /-- held off by the scope rule (R198) -/
  scope : Bool
  vddGood : Bool
  veeGood : Bool
  linkOk : Bool
  deriving DecidableEq, Repr

/-! ## Wiled lanes, rings and the cell directory (spec/12, spec/13) -/

/-- The line coder of a data-lane transmitter (R228–R231). -/
structure LineTx where
  /-- scrambler history, newest bit in bit 0 -/
  hist : BitVec 58
  /-- the last bit sent, and how many in a row are equal to it since the count restarted -/
  last : Bool
  run : Nat
  /-- bits of a marker under way, guards included -/
  raw : List Bool
  /-- data bits of the train under way -/
  data : List Bool
  /-- markers due: a TRIP pair, a TRAIN_START -/
  trip : Bool
  start : Bool
  /-- the marker under way is the TRIP pair -/
  pair : Bool
  /-- bits inserted (STUFF_CNT) -/
  stuffed : Nat
  /-- unit intervals since power-on up to which the line has been sent -/
  ui : Nat
  deriving DecidableEq, Repr

/-- One lane (R225–R245); its registers are in `regs`. -/
structure Lane where
  owned : Bool
  tx : LineTx
  cdr : Bool
  sync : Bool
  /-- edge tick from which no violation has been seen since CDR_LOCK (R236) -/
  clean : Nat
  /-- ticks of the violations of the last 65,536 UI (R236) -/
  viol : List Nat
  /-- tick of the last TRIP recognised (R234) -/
  tripAt : Option Nat
  /-- tick of the last mark, and how many of the last two marks came as expected (R238) -/
  markLast : Option Nat
  marksOk : Nat
  fomWarn : Bool
  fomFail : Bool
  /-- consecutive sweeps below FAIL, and at or above WARN (R241) -/
  failRun : Nat
  okRun : Nat
  /-- start of the sweep under way, and of the sweep that gave FOM (R243) -/
  sweepAt : Nat
  fomFrom : Nat
  /-- start of the manual eye point under way (R240) -/
  eyeAt : Option Nat
  /-- the adaptation machine: parameter, direction last used per parameter, trial, when its change took effect, RX_EQ before it, FOM
  before it, best FOM, suspended, kept trials, periods since the last decision (R243) -/
  par : Nat
  dirs : BitVec 7
  trial : Bool
  trialAt : Nat
  eqBefore : Word
  fomBefore : Nat
  fomBest : Nat
  suspended : Bool
  kept : Nat
  adPeriods : Nat
  /-- a tune request not yet written into a train (R244) -/
  tuneReq : Option (BitVec 16)
  /-- a command naming this lane, and whether its E0 has come (R244) -/
  tuneCmd : Option (BitVec 16)
  tuneDue : Bool
  /-- PRBS checker: lock and the tick it dates from, bits checked before, errors, ticks of the errors of the last 1,024 UI (R245) -/
  prbsFrom : Option Nat
  prbsBits : Nat
  prbsErrs : Nat
  prbsRecent : List Nat
  deriving DecidableEq, Repr

/-- An Interrogative request of a ring (R256, R274). -/
structure IqReq where
  target : Nat
  op : Nat
  gen : Nat
  addr : Word
  data : Word
  /-- the host's own request; otherwise one of the device's (slow words, ADMIT_GEN) -/
  host : Bool
  /-- the mirror word of a slow read -/
  slow : Option Nat
  deriving DecidableEq, Repr

/-- One ring of a Wellhead (R248–R278). -/
structure Ring where
  /-- 0 OFF, 1 LINKING, 2 LINKED, 3 TRAINED, 4 SPLIT, 5 FAILED -/
  st : Nat
  training : Bool
  rejoining : Bool
  /-- a rejoin has passed: whole-ring service resumes at the next E0 (R270) -/
  rejoined : Bool
  nFound : Nat
  breakPos : Nat
  retrain : Bool
  peer : Bool
  section_ : Bool
  serveB : Bool
  /-- h of the B-end link, in 1/64 UI (R262) -/
  hN : Nat
  /-- the trains sent last, from the A end and from the B end of this device -/
  txA : List Byte
  txB : List Byte
  /-- a train left at the last E4 -/
  sent : Bool
  /-- trains back, waiting for the next E0, each with its lateness (R259) -/
  ret : List (List Byte × Bool)
  /-- the host's request: waiting for a train, then in a train (R274) -/
  iqWait : Option IqReq
  iqOut : Option IqReq
  /-- the tag given last (R256) -/
  tag : Nat
  /-- requests of the device itself, oldest first (R271) -/
  own : List IqReq
  /-- the slow word to refresh next: 32 × position + word (R272, R294) -/
  slowNext : Nat
  /-- a tune word to relay in a later train (R244) -/
  tune : BitVec 16
  /-- observing end: a valid train from the serving end came in this period (R276) -/
  heard : Bool
  /-- words of the last echo on this ring (R275) -/
  echo : List Word
  deriving DecidableEq, Repr

/-- One entry of the cell directory (R271, R272). -/
structure DirEntry where
  /-- 0 EMPTY, 1 ABSENT, 2 FOUND, 3 READY, 4 SERVICE, 5 LOST -/
  st : Nat
  gen : Nat
  bypassed : Bool
  age : Nat
  uid : BitVec 64
  /-- the unique ID was recorded -/
  known : Bool
  /-- the last valid Indicative part, 20 bytes, and its PCNT -/
  ind : List Byte
  pcnt : Word
  /-- h of the hop before it, f and f′, in 1/64 UI; D and D′ follow from them (R262) -/
  h : Nat
  f : Nat
  fB : Nat
  /-- parts that reported an unusable Imperative part, and parts that failed XCRC (mirror word 19) -/
  icrcFails : Nat
  xcrcFails : Nat
  deriving DecidableEq, Repr

/-- The ring plan in force and the one staged (R261): the bytes of their bodies from image offset 0x60. -/
structure PlanState where
  inForce : Bool
  body : SMap Byte
  staged : Bool
  next : SMap Byte
  deriving DecidableEq, Repr

/-- The standby's part (R18, R21, R276). -/
structure StandbyState where
  /-- it has taken over -/
  active : Bool
  deriving DecidableEq, Repr

/-! ## The Cell role (spec/14) -/

/-- A usable Imperative part with what its header adds (R252, R285). -/
structure CellPart where
  imp : List Byte
  step : Word
  blockAll : Bool
  deriving DecidableEq, Repr

/-- The CELL block (R280–R296); its registers are in `regs`. -/
structure CellState where
  digestOk : Bool
  /-- the newest usable part since the last E6 (R285) -/
  part : Option CellPart
  applied : Bool
  coast : Bool
  coastBlock : Bool
  blocked : Bool
  phasor : Bool
  stale : Bool
  /-- consecutive E6s without a part (R290) -/
  c : Nat
  /-- references in force (R285, R287) -/
  refA : BitVec 16
  refB : BitVec 16
  trim : BitVec 16
  cphase : BitVec 16
  kLoad : Word
  /-- precharge bit of the part in force (R254) -/
  prechg : Bool
  /-- STATUS bits of the last train (R255) -/
  impBad : Bool
  hcrcBad : Bool
  posErr : Bool
  turn : Bool
  /-- DRIFT received, 1/64 UI (R263) -/
  drift : Int
  /-- the six measurements in Indicative units (R283) -/
  meas : List Int
  /-- PWM11A asserted, since when, and whether SWIN7 was late (R293) -/
  bypOn : Bool
  bypAt : Nat
  bypLate : Bool
  /-- a close sequence waits -/
  bypWait : Bool
  /-- tick of the last gate reported off, or of the close request if later (R293) -/
  gateTick : Nat
  /-- SWIN7 reports closed -/
  bypClosed : Bool
  autoHeld : Bool
  /-- the pending mode request came from a command word (R253) -/
  reqWord : Bool
  /-- the last train commanded SAFE (R59, R251) -/
  safeCmd : Bool
  /-- code and REFUSE_WHY of the last refusal of a command-word request (R253) -/
  lastRefusal : Option (Nat × Nat)
  deriving DecidableEq, Repr


/-! ## Metering (spec/15) -/

/-- A metering point (R302–R318); its registers are in `regs`. -/
structure MetPoint where
  /-- the ratio r of R307 of each physical current channel over the previous cycle, in fixed point with 160 fraction bits -/
  own : List Int
  /-- pairs changed to high since the cycle under way began, and pairs changed to low at its start (R309) -/
  toHigh : BitVec 4
  toLow : BitVec 4
  /-- the tracker has locked since reset (R305) -/
  everLocked : Bool
  /-- fractions of the nine accumulators in units of 2^−32 (R311) -/
  frac : List Nat
  /-- sign of the last E that was not 0: true negative (R312) -/
  lastNeg : Option Bool
  /-- PH_FREQ of the report before (R318) -/
  prevFreq : Option Word
  /-- cycles since the window under way began (R316) -/
  winCycles : Nat
  deriving DecidableEq, Repr

/-- A dip, swell or interruption in progress: plant time of its start in ns, its extreme in percent and the channel of it (R320). -/
structure PqEvent where
  start : Nat
  ext : Word
  ch : Nat
  deriving DecidableEq, Repr

/-- PQ (R319–R322). -/
structure PqState where
  dip : Option PqEvent
  swell : Option PqEvent
  intr : Option PqEvent
  /-- FLAG of the window in progress -/
  flag : Bool
  /-- the ten seconds of FREQ10: their start in ns, whole cycles since and their total length in eighths of a nanosecond -/
  from10 : Nat
  count10 : Nat
  len10 : Nat
  deriving DecidableEq, Repr

/-! ## Station ports (spec/17) -/

/-- What a station port sends (R358). -/
inductive StFrame where
  /-- a host frame -/
  | host (bytes : List Byte)
  /-- an HSR frame forwarded, with the residence time in ns that a Sync's correctionField gains -/
  | forward (bytes : List Byte) (residence : Option Word)
  | pdelayReq (seq : BitVec 16)
  /-- the answer to a Pdelay_Req, one-step or two-step, and the Follow_Up of a two-step answer, with the request's receipt time -/
  | pdelayResp (seq : BitVec 16) (twoStep : Bool) (t2 : Nat)
  | pdelayFollow (seq : BitVec 16)
  | supervision
  /-- publisher, stNum, sqNum, timeAllowedtoLive in ms, t in ns, the published bits and their number, simulation, and
  LeapSecondsKnown and ClockNotSynchronized of t (R368) -/
  | goose (pub : Nat) (tmpl : List Byte) (stNum sqNum : Word) (tal : Nat) (t : Int) (data n : Nat) (sim leap unsync : Bool)
  /-- smpCnt of the first ASDU, smpSynch, test, and the values of both ASDUs each with overflow and invalid (R369) -/
  | sv (tmpl : List Byte) (cnt synch : Nat) (test : Bool) (vals : List (Int × Bool × Bool))
  deriving DecidableEq, Repr

/-- A frame as it left: the redundancy sequence number it carries, if any (R360, R361). -/
structure StSent where
  frame : StFrame
  seq : Option (BitVec 16)
  deriving DecidableEq, Repr

/-- A station port besides its registers. -/
structure StnPort where
  /-- the last frame sent -/
  last : Option StSent
  /-- sequence number of the next Pdelay_Req, and the one sent last while it waits for its answer, with its timestamp -/
  pdSeq : BitVec 16
  pdOut : Option (BitVec 16 × Nat)
  /-- peer delays, newest first, in half nanoseconds, at most sixteen (R365) -/
  delays : List Int
  /-- the best Announce heard and the tick it came at -/
  ann : Option (AnnounceIn × Nat)
  deriving DecidableEq, Repr

/-- The parts the two ports share. -/
structure StnState where
  /-- discard table: source address, sequence number, tick, oldest first (R360) -/
  dd : List (BitVec 48 × BitVec 16 × Nat)
  /-- the selected master: port and source identity (R365) -/
  master : Option (Bool × BitVec 80)
  /-- a two-step Sync that waits for its Follow_Up: sequence, receipt time, correction -/
  sync : Option (BitVec 16 × Nat × Int)
  /-- template of SV, read when EN rose -/
  svTmpl : List Byte
  deriving DecidableEq, Repr

/-- A GOOSE subscription slot (R366, R367). -/
structure SubSlot where
  alloc : Bool
  gen : Nat
  value : Bool
  stale : Bool
  typeErr : Bool
  seen : Bool
  stNum : Word
  sqNum : Word
  /-- tick at which the supervision timer expires -/
  expire : Option Nat
  deriving DecidableEq, Repr

/-- A GOOSE publisher (R368). -/
structure PubState where
  active : Bool
  tmpl : List Byte
  stNum : Word
  sqNum : Word
  data : Nat
  /-- t of the last change, ns -/
  t : Int
  /-- interval to the next transmission in ms, and its tick -/
  interval : Nat
  due : Nat
  deriving DecidableEq, Repr

/-! ## Identity memories and auxiliary pump ports (spec/19) -/

/-- The identity controller (R392–R397). -/
structure IdmState where
  /-- reads under way or to come: modules 0–15 as 0–15, record slots as 16–31 -/
  todo : List Nat
  /-- a scan is in progress -/
  scan : Bool
  /-- record slots whose device answers -/
  answers : BitVec 16
  /-- SERIAL last applied, per record slot -/
  serial : SMap (List Byte)
  deriving DecidableEq, Repr

/-- An auxiliary pump port (R398–R402). -/
structure AuxPort where
  /-- the Hall state is known, and the state -/
  known : Bool
  hall : BitVec 3
  /-- tick of the last valid edge, and of the last edge or start -/
  lastTick : Option Nat
  edgeAt : Nat
  /-- direction of the last valid edge: true reverse -/
  lastDir : Option Bool
  /-- the next interval is discarded -/
  discard : Bool
  /-- d as taken at the last E6: magnitude and sign (R400) -/
  mag : Word
  neg : Bool
  deriving DecidableEq, Repr

/-! ## The whole -/

/-- The machine (R1–R438): the queue of waiting commands, the registers, the memories and the parts above. -/
structure State where
  /-- commands waiting, first in first out -/
  pending : List Instr
  /-- how many free values have been used: the model's own field (Config.freeWord) -/
  freeCtr : Nat
  pw : PowerState
  clk : ClockState
  grd : GuardState
  kp : KeeperState
  /-- every register that software sees, by its byte address; an unlisted one holds its reset value -/
  regs : SMap Word
  /-- shadows of CMT registers written and not yet committed (R6, R37) -/
  shadow : SMap Word
  /-- values latched for SNAP registers (R36) -/
  snap : SMap Word
  /-- Main SRAM, Schedule RAM and Table RAM, by host byte address; zeroed at power-on (R32, R51) -/
  mem : SMap Byte
  /-- the Sump (R93) -/
  sump : SMap Word
  /-- the cell mirrors: word w of record i at 64 i + w (R31, R272) -/
  mirror : SMap Word
  /-- log entries noted by the command under way (R408); empty between commands -/
  logq : List LogNote
  tst : TestState
  pump : PumpState
  tab : TabState
  chans : SMap ChanSlot
  drainJob : Option DrainJob
  /-- the `CLK.BAND` entries written since reset, whose value is then the one written and no longer the factory one (R61) -/
  bandWritten : SMap Bool
  profs : SMap ProfSlot
  trks : SMap TrkSlot
  sync : SyncState
  ride : RideState
  isld : IsldState
  pwm : SMap PwmGen
  /-- SYNC_OUT is high, with the tick at which it falls (R181) -/
  syncOut : Option Nat
  isls : SMap Island
  /-- E0s since an interlock hold began, per island pair (R194) -/
  ilkE0 : SMap Nat
  /-- tick of the first fault captured (R200) -/
  faultAt : Option Nat
  adc : SMap AdcState
  cmpF : SMap CmpFilter
  /-- tick at which each latest-value register was written (R209) -/
  lvTick : SMap Nat
  /-- the snapshot of the latest values, and whether this period's has been taken (R211) -/
  lvSnap : SMap Word
  lvDone : Bool
  lanes : SMap Lane
  rings : SMap Ring
  dirs : SMap DirEntry
  plan : PlanState
  stb : StandbyState
  cell : CellState
  mets : SMap MetPoint
  pq : PqState
  stnPorts : SMap StnPort
  stn : StnState
  subs : SMap SubSlot
  pubs : SMap PubState
  idm : IdmState
  auxs : SMap AuxPort
  deriving DecidableEq, Repr

/-! ## Reset -/

/-- A bank never loaded. -/
def bankLayout0 : BankLayout :=
  { sysMain := 0, linkPos := 0, segs := [], sliceSys := [], sliceLen := [], slowDiv := 1, outPhase := 0, sysDesc := 0, unverified := false }

/-- The CELL block after reset. -/
def cell0 : CellState :=
  { digestOk := false, part := none, applied := false, coast := false, coastBlock := false, blocked := false, phasor := false,
    stale := false, c := 0, refA := 0, refB := 0, trim := 0, cphase := 0, kLoad := 0, prechg := false, impBad := false,
    hcrcBad := false, posErr := false, turn := false, drift := 0, meas := [0, 0, 0, 0, 0, 0], bypOn := false,
    bypAt := 0, bypLate := false, bypWait := false, gateTick := 0, bypClosed := false, autoHeld := false, reqWord := false, safeCmd := false,
    lastRefusal := none }

/-- Power, mode and bus after power-on: DORMANT with POR_N asserted, everything unpowered (R45, R51, R56). -/
def power0 : PowerState :=
  { mode := .dormant, role := .wellhead, roleBalls := 0, causePending := 1, bootDone := false, guardTimeout := false, bootFatal := false, prior := false,
    clearFirst := none, clearedAt := none, softOff := false, safeNew := false, safeAt := 0, cblock := true, guardLost := false,
    busSync := false, busChange := none, hostBank18 := false, hostData := 0, load := none, gpost := [] }

/-- Clock and plant time before BOOT (R66, R68). -/
def clock0 : ClockState :=
  { tick := 0, plant8 := 0, e0 := 0, gen := false, e0Plan := none, div0 := 0, relock := false, halted := false, frozen := false,
    bandCode := 0, lfsr := 1, e6Done := false, servoRun := 0, servoLast := none, ppsHigh := none, ppsLast := none, ppsIgnored := 0,
    aligning := false, tlPort := none, tlTaken := 0, tlMarks0 := 0, tlMarks1 := 0, tlLast := none, tlSpacing := none, tlMisses := 0 }

/-- The Guard before it is out of reset (R55, R339). -/
def guard0 : GuardState :=
  { inReset := true, profileOk := false, released := 0, stuckBalls := 0, modeRep := .dormant, reqRide := none, reqIsld := none,
    reqTt := none, estop := none, gtpLow0 := false, gtpLow1 := false, gtpRise0 := none, gtpRise1 := none, provedOpen := 0, provedClosed := 0,
    tpBad := false, slots := [], session := 0, sessionAt := 0, sessionDigest := 0, staged := false, nonceIx := 0, ram := [] }

/-- The Keeper before START (R380). -/
def keeper0 : KeeperState :=
  { st := 0, kpg := false, rtcValid := false, cistConn := false, vddioSrc := false, vkeepOk := false, headerOk := false, modeRec := .dormant,
    sealSeen := 0, sealLater := none, rtcSec := 0, rtcFrac := 0, gaspLost := false, burstPend := none, burstRun := none, burstCut := none,
    burstRetry := none, burstDenied := false, beacon := [], grCand := false, pNext := 0, pCount := 0, pNewest := none, pq := [], nv := [] }

/-- The Pump with no bank in force (R87). -/
def pump0 : PumpState :=
  { inForce := false, active := 0, stagedBank := false, missed := false, lay0 := bankLayout0, lay1 := bankLayout0, preds := 0, run := .idle,
    issue := [], cyc := 0, pipe := [], started := false, due := [], total := 0, slice := none, finAt := none, outPend := [], outLate := [],
    e4Done := false, overrun := false, overruns := 0 }

/-- The machine right after reset: DORMANT, POR_N asserted. Every register holds its reset value, every memory is zero. -/
def State.reset : State :=
  { pending := [], freeCtr := 0, pw := power0, clk := clock0, grd := guard0, kp := keeper0, regs := [], shadow := [], snap := [], mem := [],
    sump := [], mirror := [], logq := [], tst := { scrubPos := 0 }, pump := pump0, tab := { active := 0, armed := 0, busy := 0 },
    chans := [], drainJob := none, bandWritten := [], profs := [], trks := [],
    sync := { st := 0, gfm := false, clamp := false, fClamp := false, gfClamp := false, lockCnt := 0, settle := 0, coast := 0, thetaObs := 0,
              past := [] },
    ride := { sub := 0, timers := [], exitCnt := 0, hv := false, src := 0, point := 0, supportAt := 0, wasRun := false },
    isld := { req := false, src := 0, inert := false, rocofT := 0, afT := 0, decided := 0 },
    pwm := [], syncOut := none, isls := [], ilkE0 := [], faultAt := none, adc := [], cmpF := [], lvTick := [], lvSnap := [], lvDone := false,
    lanes := [], rings := [], dirs := [], plan := { inForce := false, body := [], staged := false, next := [] }, stb := { active := false },
    cell := cell0, mets := [], pq := { dip := none, swell := none, intr := none, flag := false, from10 := 0, count10 := 0, len10 := 0 },
    stnPorts := [], stn := { dd := [], master := none, sync := none, svTmpl := [] }, subs := [], pubs := [],
    idm := { todo := [], scan := false, answers := 0, serial := [] }, auxs := [] }

/-! ## Faults and refusals -/

/-- What stops the machine. -/
inductive Fault where
  /-- A host access in the microsecond in which the bus changes mode, which R24 forbids and gives no effect. Safe: the machine stops. -/
  | accessDuringBusModeChange
  deriving DecidableEq, Repr

/-- What the model declines. -/
inductive Refusal where
  /-- A command without a meaning in the model, by its mnemonic. Safe. -/
  | notModelled (mnemonic : String)
  deriving DecidableEq, Repr

end Sys2Proof.Machine
end

