-- ==== Sys2Proof/Machine/Ops.lean ====
section
/-! DEFINITION. The shared operations over State: the registers' home, counters and interrupts of the page header, refusals and
stale handles, the bus-error record, memory, time, the event log, and which pages a role leaves idle. -/
namespace Sys2Proof.Machine

/-! ## Register tables -/

/-- The page-index row of page `p` (R38). -/
def pageInfoIn (p : Nat) : List PageInfo → Option PageInfo
  | [] => none
  | i :: is => if i.first ≤ p ∧ p < i.first + i.count then some i else pageInfoIn p is

/-- The page-index row of page `p` in the index of R38. -/
def pageInfo (p : Nat) : Option PageInfo := pageInfoIn p pageTable

/-- Does the table row cover offset `off`? -/
def RegRow.covers (r : RegRow) (off : Nat) : Bool :=
  decide (r.off ≤ off) && decide ((off - r.off) % r.stride = 0) && decide ((off - r.off) / r.stride < r.n)

/-- The register row at an offset of a block's page. -/
def rowIn (off : Nat) : List RegRow → Option RegRow
  | [] => none
  | r :: rs => if r.covers off then some r else rowIn off rs

/-- The register row of a host address, if the tables give one there. -/
def regRow (a : Nat) : Option RegRow :=
  match pageInfo (a / 4096) with
  | none => none
  | some i => rowIn (a % 4096) i.rows

/-- What a register holds after reset (R34 and the register tables). -/
def resetWord (a : Nat) : Word :=
  if a = Hdr.PAGE_CTRL Pg.GRD ∨ a = Hdr.PAGE_CTRL Pg.GSAFE then 1
  else match regRow a with
    | some r => w32 r.reset
    | none => 0

/-- Is the page idle in the role (R18, R19)? Its page then reads reset values and ignores writes. -/
def pageIdle (r : Role) (p : Nat) : Bool :=
  match r with
  | .cell =>
    decide (p = Pg.PROF ∨ p = Pg.TRACK ∨ p = Pg.SYNC ∨ p = Pg.RIDE ∨ p = Pg.ISLD ∨ (Pg.PWMn 4 ≤ p ∧ p ≤ Pg.PWMn 11) ∨
      (Pg.LANEn 4 ≤ p ∧ p ≤ Pg.LANEn 15) ∨ (Pg.RINGn 2 ≤ p ∧ p ≤ Pg.RINGn 7) ∨ (Pg.METn 0 ≤ p ∧ p ≤ Pg.PQ) ∨
      (Pg.STNn 0 ≤ p ∧ p ≤ Pg.SV) ∨ p = Pg.AUXP)
  | .wellhead | .standby | .test => decide (p = Pg.CELL)

/-! ## The registers' home -/

/-- The value a register holds. -/
def State.getR (s : State) (a : Nat) : Word := SMap.get (resetWord a) a s.regs

/-- `s` with a register holding `v`. -/
def State.setR (s : State) (a : Nat) (v : Word) : State := { s with regs := SMap.set (resetWord a) a v s.regs }

/-- `s` with a register changed by `f`. -/
def State.modR (s : State) (a : Nat) (f : Word → Word) : State := s.setR a (f (s.getR a))

/-- A field of a register as a number. -/
def State.getF (s : State) (a lo len : Nat) : Nat := fld (s.getR a) lo len

/-- `s` with a field of a register replaced. -/
def State.setF (s : State) (a lo len v : Nat) : State := s.modR a (fun w => putFld w lo len v)

/-- A bit of a register. -/
def State.getB (s : State) (a i : Nat) : Bool := bit (s.getR a) i

/-- `s` with a bit of a register set to `b`. -/
def State.setB (s : State) (a i : Nat) (b : Bool) : State := s.modR a (fun w => putBit w i b)

/-- A 32-bit count one higher, holding at 0xFFFF_FFFF. -/
def State.incSat (s : State) (a : Nat) : State := s.modR a (fun w => if w = 0xFFFFFFFF then w else w + 1)

/-- A 32-bit count one higher, modulo 2^32. -/
def State.incMod (s : State) (a : Nat) : State := s.modR a (fun w => w + 1)

/-- A field one higher, holding at its largest value. -/
def State.incSatF (s : State) (a lo len : Nat) : State := s.setF a lo len (satInc len (s.getF a lo len))

/-- Set an interrupt source bit of page `p` (R34). -/
def State.irq (s : State) (p b : Nat) : State := s.setB (Hdr.IRQ_RAW p) b true

/-- Set an interrupt source bit where the condition holds. -/
def State.irqIf (s : State) (c : Bool) (p b : Nat) : State := if c then s.irq p b else s

/-- Count a block event of page `p` (EVENT_CNT.BLOCK_EVENTS, saturating, R34). -/
def State.blockEv (s : State) (p : Nat) : State := s.incSatF (Hdr.EVENT_CNT p) 16 16

/-- Count a refused write on page `p` (EVENT_CNT.REFUSED, saturating, R34). -/
def State.refuse (s : State) (p : Nat) : State := s.incSatF (Hdr.EVENT_CNT p) 0 16

/-- Is page `p` locked (R35)? -/
def State.locked (s : State) (p : Nat) : Bool := s.getB (Hdr.LOCK p) 0

/-- Is page `p` idle in the latched role (R18)? -/
def State.idle (s : State) (p : Nat) : Bool := pageIdle s.pw.role p

/-- Does a host write meet a live control domain (R45: the host reads nothing in DORMANT)? -/
def State.awake (s : State) : Bool := decide (s.pw.mode ≠ .dormant)

/-- A write to a lockable register of page `p`: ignored on an idle page (R18), refused and counted on a locked one (R35),
otherwise `f`. -/
def State.gated (s : State) (p : Nat) (f : State → State) : State :=
  if s.idle p then s else if s.locked p then s.refuse p else f s

/-- Record a bus error: it counts, and the first since the last clear keeps its address and cause (HOST map, R23, R33). -/
def State.busErr (s : State) (cause ad : Nat) : State :=
  let s1 := if s.getR Reg.HOST_BUS_ERR_CNT = 0
    then (s.setR Reg.HOST_BUS_ERR_ADDR (w32 (ad % 2 ^ 24))).setR Reg.HOST_BUS_ERR_CAUSE (w32 cause) else s
  (s1.incSat Reg.HOST_BUS_ERR_CNT).irq Pg.HOST 1

/-- The stale record of R41 for handle `h` presented at address `at_`. -/
def State.staleRecord (s : State) (h : Word) (at_ : Nat) : State :=
  (((s.incSat Reg.HOST_STALE_CNT).setR Reg.HOST_STALE_HANDLE h).setR Reg.HOST_STALE_WHERE (w32 (at_ % 2 ^ 20))).irq Pg.HOST 2

/-- A write that presents an invalid handle: counted on its page and recorded (R41). -/
def State.stale (s : State) (h : Word) (at_ : Nat) : State := (s.refuse (at_ / 4096)).staleRecord h at_

/-! ## Committed registers -/

/-- Write the shadow of a CMT register; SHADOW_CTRL.DIRTY is set (R6, R37). -/
def State.writeShadow (s : State) (a : Nat) (v : Word) : State :=
  ({ s with shadow := SMap.insert a v s.shadow }).setB (Hdr.SHADOW_CTRL (a / 4096)) 9 true

/-- Arm the commit of page `p` (R37). -/
def State.armCommit (s : State) (p : Nat) : State := s.setB (Hdr.SHADOW_CTRL p) 8 true

/-- Transfer the shadow of one register, if one is written (R37). -/
def State.commitReg (s : State) (a : Nat) : State :=
  match SMap.find a s.shadow with
  | none => s
  | some v => { (s.setR a v) with shadow := SMap.erase a s.shadow }

/-- Every shadow of page `p` transfers, and PENDING and DIRTY clear (R37). -/
def State.commitPage (s : State) (p : Nat) : State :=
  let s1 := (s.shadow.filter (fun e => decide (e.1 / 4096 = p))).foldl (fun s e => s.setR e.1 e.2) s
  ({ s1 with shadow := s1.shadow.filter (fun e => decide (e.1 / 4096 ≠ p)) }).setF (Hdr.SHADOW_CTRL p) 8 2 0

/-- The value a CMT register will take at its commit: its shadow where one is written. -/
def State.staged (s : State) (a : Nat) : Word := (SMap.find a s.shadow).getD (s.getR a)

/-! ## Memory -/

/-- First byte of Main SRAM (R32). -/
abbrev sramBase : Nat := 0x100000
/-- First byte of Schedule RAM (R32). -/
abbrev schedBase : Nat := 0x400000
/-- First byte of Table RAM (R32). -/
abbrev tableBase : Nat := 0x420000

/-- A stored byte; every memory is zeroed at power-on (R51 step 2), so an unlisted byte is 0. -/
def State.memB (s : State) (a : Nat) : Byte := SMap.get 0 a s.mem

/-- `s` with a byte stored. -/
def State.setMemB (s : State) (a : Nat) (b : Byte) : State := { s with mem := SMap.set 0 a b s.mem }

/-- `s` with bytes stored from address `a` upwards. -/
def State.setMemBytes (s : State) (a : Nat) : List Byte → State
  | [] => s
  | b :: bs => State.setMemBytes (s.setMemB a b) (a + 1) bs

/-- `n` stored bytes from address `a` upwards. -/
def State.memBytes (s : State) (a : Nat) : Nat → List Byte
  | 0 => []
  | n + 1 => s.memB a :: State.memBytes s (a + 1) n

/-- The little-endian word stored at `a`. -/
def State.memW (s : State) (a : Nat) : Word := w32 (leNat (s.memBytes a 4))

/-- `s` with a little-endian word stored at `a`. -/
def State.setMemW (s : State) (a : Nat) (w : Word) : State := s.setMemBytes a (leBytes 4 w.toNat)

/-- `s` with words stored from address `a` upwards. -/
def State.setMemWords (s : State) (a : Nat) : List Word → State
  | [] => s
  | w :: ws => State.setMemWords (s.setMemW a w) (a + 4) ws

/-- The word at word index `i` of Main SRAM. -/
def State.sramW (s : State) (i : Nat) : Word := s.memW (sramBase + 4 * i)

/-- `s` with a word stored at word index `i` of Main SRAM. -/
def State.setSramW (s : State) (i : Nat) (w : Word) : State := s.setMemW (sramBase + 4 * i) w

/-- A Sump word (1,024 words, zeroed at BOOT); words 0, 1 and 2 are the constants +0.0, +1.0 and 2π (R93). -/
def State.sumpW (s : State) (i : Nat) : Word :=
  if i = 0 then 0 else if i = 1 then 0x3F800000 else if i = 2 then 0x40C90FDB else SMap.get 0 i s.sump

/-- `s` with a Sump word stored. -/
def State.setSump (s : State) (i : Nat) (w : Word) : State := { s with sump := SMap.set 0 i w s.sump }

/-- Entry `i` of table `k` in half `h` of Table RAM: half h of the eight tables lies at byte 0x8000 × h, table k at 0x1000 × k of it. -/
def State.tableW (s : State) (h k i : Nat) : Word := s.memW (tableBase + 0x8000 * h + 0x1000 * k + 4 * i)

/-- Entry `i` of the active half of table `k` (R134). -/
def State.activeEntry (s : State) (k i : Nat) : Word := s.tableW (b2n (s.tab.active.getLsbD k)) k i

/-- A word of the cell mirrors: word `w` of record `i` (R31). -/
def State.mirrorW (s : State) (i w : Nat) : Word := SMap.get 0 (i * 64 + w) s.mirror

/-- `s` with a mirror word stored. -/
def State.setMirror (s : State) (i w : Nat) (v : Word) : State := { s with mirror := SMap.set 0 (i * 64 + w) v s.mirror }

/-- A byte of the Keeper's nonvolatile memory. -/
def State.nvB (s : State) (a : Nat) : Byte := SMap.get 0 a s.kp.nv

/-- `s` with a nonvolatile byte stored. -/
def State.setNvB (s : State) (a : Nat) (b : Byte) : State := { s with kp.nv := SMap.set 0 a b s.kp.nv }

/-- `s` with nonvolatile bytes stored from `a` upwards. -/
def State.setNvBytes (s : State) (a : Nat) : List Byte → State
  | [] => s
  | b :: bs => State.setNvBytes (s.setNvB a b) (a + 1) bs

/-- `n` nonvolatile bytes from `a` upwards. -/
def State.nvBytes (s : State) (a : Nat) : Nat → List Byte
  | 0 => []
  | n + 1 => s.nvB a :: State.nvBytes s (a + 1) n

/-- A word of the nonvolatile memory. -/
def State.nvW (s : State) (a : Nat) : Word := w32 (leNat (s.nvBytes a 4))

/-! ## Time -/

/-- Edge ticks in a microsecond, a millisecond and a second at the nominal root (R4). -/
abbrev tickUs : Nat := 1600
abbrev tickMs : Nat := 1600000
abbrev tickS : Nat := 1600000000

/-- The modulus of plant time in eighths of a nanosecond: 48 bits of seconds (R68). -/
def plantMod : Nat := 2 ^ 48 * (8 * 1000000000)

/-- `n` edge ticks pass: plant time advances 0.625 ns at each (R68). -/
def State.elapse (s : State) (n : Nat) : State :=
  { s with clk.tick := s.clk.tick + n, clk.plant8 := (s.clk.plant8 + 5 * n) % plantMod }

/-- Time passes up to edge tick `t`; an instant already past changes nothing. -/
def State.advanceTo (s : State) (t : Nat) : State := s.elapse (t - s.clk.tick)

/-- Seconds of plant time (R68). -/
def State.sec (s : State) : Nat := s.clk.plant8 / 8000000000
/-- Nanoseconds of plant time, truncated to 1 ns (R68). -/
def State.ns (s : State) : Nat := s.clk.plant8 / 8 % 1000000000
/-- Plant time in nanoseconds, SEC × 10^9 + NS modulo 2^64 (R407). -/
def State.timeNs (s : State) : Nat := s.clk.plant8 / 8 % 2 ^ 64

/-- Plant time moved by `d` ns, the sub-nanosecond accumulator kept (R70). -/
def State.shiftPlant (s : State) (d : Int) : State :=
  { s with clk.plant8 := ((s.clk.plant8 + 8 * d) % (plantMod : Int)).toNat }

/-- Period in force, in edge ticks (R67). -/
def State.period (s : State) : Nat := s.getF Reg.TIME_PERIOD 0 24

/-- S(k), edge ticks from E0 to step k of the period: floor(k × PERIOD / 256) (R11, R67). -/
def State.stepTick (s : State) (k : Nat) : Nat := k * s.period / 256

/-! ## Free values -/

/-- The next free value and the state with the counter advanced. -/
def State.takeFree (s : State) : Word × State := (Config.freeWord s.freeCtr, { s with freeCtr := s.freeCtr + 1 })

/-! ## The event log -/

/-- The values of an entry packed from byte 0 of 12-byte DATA fields, no value split (R407). -/
def packData : List Byte → List (Nat × Nat) → List (List Byte)
  | cur, [] => [cur]
  | cur, (k, v) :: r =>
    if cur.length + k ≤ 12 then packData (cur ++ leBytes k v) r else cur :: packData (leBytes k v) r

/-- `bs` cut or filled with zeros to `n` bytes. -/
def padTo (n : Nat) (bs : List Byte) : List Byte := bs.take n ++ List.replicate (n - bs.length) 0

/-- A 256-bit value in 4-byte pieces, least significant first (R407). -/
def words256 (d : BitVec 256) : List (Nat × Nat) :=
  [0, 1, 2, 3, 4, 5, 6, 7].map (fun k => (4, d.toNat / 2 ^ (32 * k) % 2 ^ 32))

/-- Is the class persistent (R407)? -/
def persistent (cls : Nat) : Bool := decide (3 ≤ cls ∧ cls ≤ 9)

/-- The 32 bytes of an entry (R407). -/
def entryBytes (time seq cls : Nat) (irqBit : Option Nat) (pg flags : Nat) (handle : Word) (data : List Byte) : List Byte :=
  leBytes 8 time ++ leBytes 4 seq ++ leBytes 2 (cls * 4096 + irqBit.getD 0xFF) ++ leBytes 1 pg ++ leBytes 1 flags ++
    leBytes 4 handle.toNat ++ padTo 12 data

/-- The 24-byte form of the persistent ring: TIME, SEQ, CODE, PAGE, FLAGS, then DATA bytes 0–7 (R410). -/
def packPersistent (e : List Byte) : PEntry := e.take 16 ++ (e.drop 20).take 8

/-- Entries held in the volatile ring (R409). -/
def State.volHeld (s : State) : Nat :=
  (s.getF Reg.LOG_VOL_WR 0 13 + 8192 - s.getF Reg.LOG_VOL_RD 0 13) % 8192

/-- Make room in a full volatile ring: the oldest entry is lost and counted (R409). -/
def State.volMakeRoom (s : State) : State :=
  if 4096 ≤ s.volHeld then
    ((s.setF Reg.LOG_VOL_RD 0 13 (s.getF Reg.LOG_VOL_RD 0 13 + 1)).incSat Reg.LOG_LOST_CNT).irq Pg.LOG 1
  else s

/-- Write one entry of 32 bytes to the volatile ring, advance VOL_WR and SEQ, and raise WATERMARK when the count reaches it
(R408, R409, R415); hand a persistent one to the Keeper (R408). -/
def State.putEntry (s : State) (cls : Nat) (e : List Byte) : State :=
  let s1 := s.volMakeRoom
  let wr := s1.getF Reg.LOG_VOL_WR 0 13
  let s2 := s1.setMemBytes (sramBase + 4 * (s1.getF Reg.LOG_VOL_BASE 0 18) + 32 * (wr % 4096)) e
  let s3 := (s2.setF Reg.LOG_VOL_WR 0 13 (wr + 1)).incMod Reg.LOG_SEQ_NEXT
  let wm := s3.getF Reg.LOG_WATERMARK 0 13
  let s4 := s3.irqIf (decide (wm ≠ 0) && decide (s3.volHeld = wm)) Pg.LOG 0
  if persistent cls then { s4 with kp.pq := s4.kp.pq ++ [packPersistent e] } else s4

/-- Write the continuation entries of one event (R407). -/
def State.putEntries (s : State) (cls : Nat) (irqBit : Option Nat) (pg : Nat) (handle : Word) (time flags : Nat) :
    List (List Byte) → State
  | [] => s
  | d :: ds =>
    State.putEntries (s.putEntry cls (entryBytes time (s.getR Reg.LOG_SEQ_NEXT).toNat cls irqBit pg flags handle d))
      cls irqBit pg handle time (flags ||| 8) ds

/-- Note an event of class `cls` from page `pg` for the log: `irqBit` the interrupt bit the event sets there, `handle` the object
concerned, `data` the values of the entry with their sizes in bytes (R407, R438). Time and flags are those of the event; the
entry is written when the command ends (`State.flushLog`), so that entries of one instant take their numbers in order. -/
def State.logE (s : State) (cls : Nat) (irqBit : Option Nat) (pg : Nat) (handle : Word) (data : List (Nat × Nat)) : State :=
  { s with logq := s.logq ++ [LogNote.mk cls irqBit pg handle data s.timeNs (b2n (persistent cls) + 2 * b2n (s.getB Reg.TIME_SERVO_STAT 8))] }

/-- Does entry `a` take its number before entry `b` of the same fabric tick (R408: ascending PAGE, then ascending CODE)? -/
def LogNote.before (a b : LogNote) : Bool :=
  decide (a.pg < b.pg) || (decide (a.pg = b.pg) && decide (a.cls * 4096 + a.irqBit.getD 0xFF ≤ b.cls * 4096 + b.irqBit.getD 0xFF))

/-- Insert a note into an ordered list of notes. -/
def insertNote (a : LogNote) : List LogNote → List LogNote
  | [] => [a]
  | b :: bs => if b.before a then b :: insertNote a bs else a :: b :: bs

/-- The notes in the order of R408; notes of equal PAGE and CODE keep the order they came in. -/
def sortNotes (l : List LogNote) : List LogNote := l.foldl (fun acc a => insertNote a acc) []

/-- Write the entries of one event, with its continuation entries. -/
def State.writeNote (s : State) (n : LogNote) : State :=
  s.putEntries n.cls n.irqBit n.pg n.handle n.time n.flags (packData [] n.data)

/-- Write the notes of one command to the log, in the order of R408. -/
def State.writeNotes (s : State) : List LogNote → State
  | [] => s
  | n :: ns => State.writeNotes (s.writeNote n) ns

/-- The end of a command: its log entries are written. -/
def State.flushLog (s : State) : State :=
  match s.logq with
  | [] => s
  | l => State.writeNotes { s with logq := [] } (sortNotes l)

/-- A command that ends in state `s`. -/
def done (s : State) : Host.Outcome State Fault Refusal := .next s.flushLog

/-- Set the interrupt bit and write the entry of the same event. -/
def State.irqLog (s : State) (cls b pg : Nat) (handle : Word) (data : List (Nat × Nat)) : State :=
  (s.irq pg b).logE cls (some b) pg handle data

/-- An entry the Keeper writes while the control domain is unpowered: to the persistent ring only, with FLAGS bit 2 and RTC time,
0 while RTC_VALID = 0 (R384, R408). The sequence goes on from the newest persistent entry. -/
def State.keeperLog (s : State) (cls pg : Nat) (data : List Byte) : State :=
  let t := if s.kp.rtcValid then s.kp.rtcSec * 1000000000 + s.kp.rtcFrac * 1000000000 / 32768 else 0
  let e := entryBytes t (s.getR Reg.LOG_SEQ_NEXT).toNat cls none pg (1 + 2 * b2n (s.getB Reg.TIME_SERVO_STAT 8) + 4) 0 data
  { (s.incMod Reg.LOG_SEQ_NEXT) with kp.pq := s.kp.pq ++ [packPersistent e] }

/-- A host command that writes a lockable register of page `p`. In DORMANT nothing answers (R45). During the microsecond in
which the bus mode changes the host must make no access (R24): such a command stops the run. -/
def hostCmd (s : State) (p : Nat) (f : State → State) : Host.Outcome State Fault Refusal :=
  if !s.awake then .next s
  else if s.pw.busChange.isSome then .fault .accessDuringBusModeChange
  else done (s.gated p f)

/-- A host command that the lock does not stop (R35: IRQ_RAW, IRQ_EN and LOCK stay writable; memories have no lock). -/
def hostRaw (s : State) (f : State → State) : Host.Outcome State Fault Refusal :=
  if !s.awake then .next s
  else if s.pw.busChange.isSome then .fault .accessDuringBusModeChange
  else done (f s)

/-! ## Handles -/

/-- A handle of class `cls`, generation `gen` and index `ix` (R40). -/
def mkHandle (cls gen ix : Nat) : Word := w32 (cls % 16 * 2 ^ 28 + gen % 256 * 2 ^ 20 + ix % 2 ^ 20)

/-- The class, generation and index fields of a handle (R40). -/
def hClass (h : Word) : Nat := fld h 28 4
def hGen (h : Word) : Nat := fld h 20 8
def hIndex (h : Word) : Nat := fld h 0 20

end Sys2Proof.Machine
end

