-- ==== Sys2Proof/Machine/Operands.lean ====
section
/-! DEFINITION. How a stroke reaches its operands and its destination (R79, R81, R83–R86, R93): the stroke words, the sequencer, the
retirement pipe, descriptors and the output region. -/
namespace Sys2Proof.Machine

/-! ## Stroke words (R81) -/

/-- The word of a scalar stroke. -/
def encodeScalar (op : Nat) (f : Scalar) : BitVec 64 :=
  BitVec.ofNat 64 (op * 2 ^ 58 + b2n f.pen * 2 ^ 57 + b2n f.pneg * 2 ^ 56 + f.pidx.toNat * 2 ^ 53 + f.dst.toNat * 2 ^ 43 +
    f.sa.toNat * 2 ^ 33 + f.sb.toNat * 2 ^ 23 + f.sc.toNat * 2 ^ 13 + b2n f.fin * 2 ^ 10 + b2n f.out * 2 ^ 9 + f.imm.toNat)

/-- The word of a vector stroke. -/
def encodeVec (op : Nat) (f : Vec) : BitVec 64 :=
  BitVec.ofNat 64 (op * 2 ^ 58 + b2n f.pen * 2 ^ 57 + b2n f.pneg * 2 ^ 56 + f.pidx.toNat * 2 ^ 53 + f.xd.toNat * 2 ^ 47 +
    f.yd.toNat * 2 ^ 41 + f.sa.toNat * 2 ^ 31 + f.sb.toNat * 2 ^ 21 + f.sd.toNat * 2 ^ 11 + b2n f.fin * 2 ^ 10 + f.imm.toNat)

/-- The opcode field of a stroke word. -/
def strokeOp (w : BitVec 64) : Nat := w.toNat / 2 ^ 58

/-- The FIN bit of a stroke word. -/
def strokeFin (w : BitVec 64) : Bool := w.getLsbD 10

/-- The opcodes R82 lists. -/
def opListed (op : Nat) : Bool :=
  decide (op ≤ 0x04 ∨ (0x08 ≤ op ∧ op ≤ 0x11) ∨ (0x14 ≤ op ∧ op ≤ 0x19) ∨ (0x20 ≤ op ∧ op ≤ 0x29) ∨ (0x30 ≤ op ∧ op ≤ 0x3C))

/-- Pump cycles a stroke occupies (R82): NOP and the element-wise vector strokes take IMM + 1, all others one. -/
def strokeCycles (w : BitVec 64) : Nat :=
  let op := strokeOp w
  if op = 0x00 ∨ (0x30 ≤ op ∧ op ≤ 0x39) ∨ op = 0x3C then w.toNat % 256 + 1 else 1

/-! ## Retirement (R79, R86, R93) -/

/-- Count an arithmetic event of a result (R80). -/
def State.countArith (s : State) (nan ofl : Bool) : State :=
  let s1 := if nan then s.incSat Reg.PUMP_NAN_CNT else s
  let s2 := if ofl then s1.incSat Reg.PUMP_OFL_CNT else s1
  s2.irqIf (nan || ofl) Pg.PUMP 3

/-- One retirement, in cycle `c`, of an element the main schedule or a slice issued. Writes to Sump words 0–47 are discarded and
counted (R93); output words wait for E4 (R86). -/
def State.retire (s : State) (c : Nat) (r : Retire) (main : Bool) : State :=
  match r with
  | .sump i w => if i < 48 then (s.incSat Reg.PUMP_SYSWR_CNT).irq Pg.PUMP 6 else s.setSump i w
  | .pred i b => { s with pump.preds := if b then s.pump.preds ||| ((1 : BitVec 8) <<< i) else s.pump.preds &&& ~~~((1 : BitVec 8) <<< i) }
  | .res i w => s.setSramW i w
  | .out i w =>
    if s.pump.e4Done then
      if main then s else { s with pump.outLate := SMap.set none i (some w) s.pump.outLate }
    else { s with pump.outPend := SMap.set none i (some w) s.pump.outPend }
  | .count nan ofl => s.countArith nan ofl
  | .fin =>
    if main then ({ s with pump.finAt := some c }).setR Reg.PUMP_PRED (w32 s.pump.preds.toNat) else s

/-- Retire from the front of the pipe everything due by the end of cycle `c`. -/
def State.retireUpTo (s : State) (c : Nat) : List (Nat × Retire × Bool) → State
  | [] => { s with pump.pipe := [] }
  | (r, a, m) :: rest => if r ≤ c then State.retireUpTo (s.retire r a m) c rest else { s with pump.pipe := (r, a, m) :: rest }

/-- The state after every retirement up to and including cycle `c`. -/
def State.settleTo (s : State) (c : Nat) : State := s.retireUpTo c s.pump.pipe

/-- The state a host access sees: every retirement of a cycle that has ended (R437). -/
def State.settleNow (s : State) : State :=
  if s.clk.e0 + 2 ≤ s.clk.tick then s.settleTo ((s.clk.tick - s.clk.e0) / 2 - 1) else s

/-- Append a retirement to the pipe. -/
def State.pushRetire (s : State) (c : Nat) (r : Retire) : State :=
  { s with pump.pipe := s.pump.pipe ++ [(c, r, decide (s.pump.run = .main))] }

/-! ## The sequencer (R78, R84) -/

/-- Is this the stroke the running schedule issues next? While the root PLL relocks the Pump stands still (R65). -/
def State.strokeReady (s : State) (w : BitVec 64) : Bool := s.clk.gen && decide (s.pump.run ≠ .idle) && decide (s.pump.issue.head? = some w)

/-- Time reaches the cycle of the next stroke, and earlier retirements are done (R79). -/
def State.strokeOpen (s : State) : State := (s.advanceTo (s.clk.e0 + 2 * s.pump.cyc)).settleTo (s.pump.cyc - 1)

/-- Does a stroke with these predicate fields take effect (R84)? -/
def State.predTakes (s : State) (pen pneg : Bool) (pidx : BitVec 3) : Bool :=
  !pen || (s.pump.preds.getLsbD pidx.toNat != pneg)

/-- The stroke leaves the sequencer: FIN retires with its last element, and the next stroke issues after its cycles. -/
def State.strokeClose (s : State) (fin : Bool) (cycles : Nat) : State :=
  let c := s.pump.cyc
  let s1 := if fin then s.pushRetire (c + cycles - 1 + 4) .fin else s
  let rest := s1.pump.issue.tail
  { s1 with pump.issue := rest, pump.cyc := c + cycles, pump.run := if rest = [] then .idle else s1.pump.run }

/-- A result written in cycle `c` that would have been NaN, or infinite, counts as it is written (R80). -/
def State.pushCount (s : State) (c : Nat) (nan ofl : Bool) : State := if nan || ofl then s.pushRetire c (.count nan ofl) else s

/-! ## Reservoir elements (R85) -/

/-- Count an element out of region. -/
def State.resFault (s : State) : State := (s.incSat Reg.PUMP_RES_FAULT_CNT).irq Pg.PUMP 4

/-- Descriptor `d` of the bank in force. -/
def State.descriptor (s : State) (d : Nat) : Word := s.getR (Reg.PUMP_DESC (64 * s.pump.active + d))

/-- Region and word offset of element `i` of descriptor `d`; none when it is invalid or out of region. -/
def State.element (s : State) (d i : Nat) : Option (Nat × Nat) :=
  let w := s.descriptor d
  let r := fld w 20 3
  let o := fld w 0 16 + i * (fld w 16 4 + 1)
  if bit w 23 && decide (o < s.getF (Reg.PUMP_RES_LEN r) 0 18) then some (r, o) else none

/-- Element `i` of a source descriptor: +0.0 with a fault count when out of region. -/
def State.readElem (s : State) (d i : Nat) : Word × State :=
  match s.element d i with
  | none => (0, s.resFault)
  | some (r, o) => (s.sramW (s.getF (Reg.PUMP_RES_BASE r) 0 18 + o), s)

/-- Element `i` of a destination descriptor takes `w` when cycle `c` ends: region 7 is the output region (R86). -/
def State.writeElem (s : State) (d i : Nat) (w : Word) (c : Nat) : State :=
  match s.element d i with
  | none => s.resFault
  | some (r, o) => if r = 7 then s.pushRetire c (.out o w) else s.pushRetire c (.res (s.getF (Reg.PUMP_RES_BASE r) 0 18 + o) w)

/-- A scalar result goes to its Sump word, or to output word DST: at or beyond RES_LEN[7] it is a region fault (R81, R86). -/
def State.writeScalar (s : State) (f : Scalar) (w : Word) : State :=
  let c := s.pump.cyc + 4
  if f.out then
    if f.dst.toNat < s.getF (Reg.PUMP_RES_LEN 7) 0 18 then s.pushRetire c (.out f.dst.toNat w) else s.resFault
  else s.pushRetire c (.sump f.dst.toNat w)

/-- A scalar result is written, and counted with its write (R80). -/
def State.writeResult (s : State) (f : Scalar) (r : FRes) : State :=
  let s1 := s.writeScalar f r.w
  if f.out && !decide (f.dst.toNat < s.getF (Reg.PUMP_RES_LEN 7) 0 18) then s1 else s1.pushCount (s.pump.cyc + 4) r.nan r.ofl

/-! ## Stroke shapes -/

/-- A scalar stroke that writes a word computed from its operands a, b, c, counted under R80. -/
def State.scalarWord (s : State) (op : Nat) (f : Scalar) (g : State → Word → Word → Word → FRes) : State :=
  if !s.strokeReady (encodeScalar op f) then s
  else
    let s1 := s.strokeOpen
    let s2 := if s1.predTakes f.pen f.pneg f.pidx then
        let r := g s1 (s1.sumpW f.sa.toNat) (s1.sumpW f.sb.toNat) (s1.sumpW f.sc.toNat)
        s1.writeResult f r
      else s1
    s2.strokeClose f.fin 1

/-- A scalar stroke that sets predicate P[DST[2:0]]; a NaN comparison writes 0 and counts (R80). -/
def State.scalarPred (s : State) (op : Nat) (f : Scalar) (g : State → Word → Word → Option Bool) : State :=
  if !s.strokeReady (encodeScalar op f) then s
  else
    let s1 := s.strokeOpen
    let s2 := if s1.predTakes f.pen f.pneg f.pidx then
        let r := g s1 (s1.sumpW f.sa.toNat) (s1.sumpW f.sb.toNat)
        (s1.pushRetire (s1.pump.cyc + 4) (.pred (f.dst.toNat % 8) (r.getD false))).pushCount (s1.pump.cyc + 4) r.isNone false
      else s1
    s2.strokeClose f.fin 1

/-- `n` elements from element `i`, each at its own issue cycle (R83): the accumulator and the state after them. -/
def vecFold {α : Type} (step : State → α → Nat → α × State) (c : Nat) (s : State) (acc : α) (i : Nat) : Nat → α × State
  | 0 => (acc, s)
  | n + 1 =>
    let r := step (s.settleTo (c + i - 1)) acc i
    vecFold step c r.2 r.1 (i + 1) n

/-- A vector stroke of IMM + 1 elements with a per-element step and a finish that may write D (R83, R84). -/
def State.vector {α : Type} (s : State) (op : Nat) (f : Vec) (init : State → α) (step : State → α → Nat → α × State)
    (finish : State → α → State) : State :=
  if !s.strokeReady (encodeVec op f) then s
  else
    let s1 := s.strokeOpen
    let n := f.imm.toNat + 1
    let s2 := if s1.predTakes f.pen f.pneg f.pidx then
        let r := vecFold step s1.pump.cyc s1 (init s1) 0 n
        finish r.2 r.1
      else s1
    s2.strokeClose f.fin n

/-- The reduction result D retires four cycles after the last element issues, counted once (R80, R83). -/
def State.writeD (s : State) (f : Vec) (r : FRes) : State :=
  let c := s.pump.cyc + f.imm.toNat + 4
  (s.pushRetire c (.sump f.sd.toNat r.w)).pushCount c r.nan r.ofl

/-- Read element `i` of XD, compute, write element `i` of YD and count what is written (R80). -/
def State.elemMap (s : State) (f : Vec) (i : Nat) (g : Word → FRes) : Word × State :=
  let (x, s1) := s.readElem f.xd.toNat i
  let r := g x
  let c := s1.pump.cyc + i + 4
  let s2 := s1.writeElem f.yd.toNat i r.w c
  (r.w, if (s1.element f.yd.toNat i).isNone then s2 else s2.pushCount c r.nan r.ofl)

end Sys2Proof.Machine
end

