-- ==== Sys2Proof/Machine/Banks.lean ====
section
/-! DEFINITION. Schedule banks: their system part, the linked channel segments, composition, budgets, swap checks
(R87–R92, R104–R108, R436). -/
namespace Sys2Proof.Machine

/-! ## Channel slots -/

/-- A FREE slot of generation `g` (R101). -/
def freeSlot (g : Nat) : ChanSlot :=
  { st := 0, gen := g, auto := false, divLog := 0, phase := 0, req := 0, used := 0, granules := [], replaces := 0, release := false,
    takesFrom := none, cmd := none, cmdAfterExec := false, drain := 0, executed := false, feLimit := 0, feTime := 0, feAction := 0,
    feTimer := 0, feOver := false, feFired := false, feHeld := false, integW := 0xFFFF, autoW := 0xFFFF, outW := 0xFFFF, manW := 0xFFFF,
    modeW := 0xFFFF, feRefW := 0xFFFF, feFbW := 0xFFFF, mainStrokes := [], slowStrokes := [], desc := [], sliceBase := 0, cycles := 0 }

/-- Loop-channel slot `n`. -/
def State.chan (s : State) (n : Nat) : ChanSlot := SMap.get (freeSlot 0) n s.chans

/-- `s` with a slot replaced. -/
def State.setChan (s : State) (n : Nat) (c : ChanSlot) : State := { s with chans := SMap.set (freeSlot 0) n c s.chans }

/-- `s` with a slot changed. -/
def State.modChan (s : State) (n : Nat) (f : ChanSlot → ChanSlot) : State := s.setChan n (f (s.chan n))

/-- The handle of loop channel `n` (R40). -/
def State.chanHandle (s : State) (n : Nat) : Word := mkHandle 1 (s.chan n).gen n

/-- Effective quota: max(REQ, USED) (R95). -/
def ChanSlot.eff (c : ChanSlot) : Nat := max c.req c.used

/-- Free granules of the pool: 240 minus the sum of EFF (R95). -/
def State.poolFree (s : State) : Nat := 240 - (s.chans.map (fun e => e.2.eff)).foldl (· + ·) 0

/-- Sump word of local word `w` of a channel (R105). -/
def ChanSlot.place (c : ChanSlot) (w : Nat) : Nat := 4 * c.granules.getD (w / 4) 0 + w % 4

/-- A channel has a MANUAL mode when MODE_W, OUT_W and MAN_W exist (R110). -/
def ChanSlot.hasManual (c : ChanSlot) : Bool := decide (c.modeW ≠ 0xFFFF ∧ c.outW ≠ 0xFFFF ∧ c.manW ≠ 0xFFFF)

/-- The Sump value of a header word of a channel; 0 without that word. -/
def State.chanWord (s : State) (c : ChanSlot) (w : Nat) : Word := if w = 0xFFFF then 0 else s.sumpW (c.place w)

/-- `s` with a header word of a channel stored, where the channel has one. -/
def State.setChanWord (s : State) (c : ChanSlot) (w : Nat) (v : Word) : State := if w = 0xFFFF then s else s.setSump (c.place w) v

/-- Is the channel due in a period with count `pc` (R90)? -/
def ChanSlot.due (c : ChanSlot) (pc : Nat) : Bool := decide (pc % 2 ^ c.divLog = c.phase)

/-- A state change of a channel: counted, logged, with interrupt bit 0 on a change to LIVE, to FREE, or by CREATE (R103, R108, R117). -/
def State.chanMove (s : State) (n : Nat) (c : ChanSlot) : State :=
  let o := s.chan n
  let h := mkHandle 1 o.gen n
  let flag := decide (c.st = 3 ∨ c.st = 0 ∨ o.st = 0)
  let s1 := ((s.setChan n c).blockEv Pg.CHAN0).irqIf flag Pg.CHAN0 0
  s1.logE 0 (if flag then some 0 else none) Pg.CHAN0 h [(1, o.st), (1, c.st), (1, b2n c.auto)]

/-- A channel becomes FREE: its granules return and its generation increments (R98, R101). -/
def State.chanFree (s : State) (n : Nat) : State := s.chanMove n (freeSlot (((s.chan n).gen + 1) % 256))

/-! ## Stroke fields that relocation reads (R82, R105) -/

/-- The Sump operand fields a scalar opcode reads: 1 for SA, 2 for SA and SB, 3 for all. -/
def scalarReads (op : Nat) : Nat :=
  if op = 0x00 then 0
  else if op ≤ 0x04 ∨ op = 0x0A then 3
  else if op = 0x0C ∨ op = 0x0D ∨ op = 0x0E ∨ op = 0x0F ∨ op = 0x27 ∨ op = 0x28 then 1
  else if op = 0x18 ∨ op = 0x19 then 0
  else if opListed op then 2 else 0

/-- Does a scalar opcode write a word at DST? -/
def scalarWrites (op : Nat) : Bool :=
  opListed op && decide (op ≠ 0x00 ∧ ¬(0x14 ≤ op ∧ op ≤ 0x19) ∧ op ≠ 0x29 ∧ op < 0x30)

/-- The Sump fields a vector opcode reads: 0 none, 1 A, 2 A and B. -/
def vecReads (op : Nat) : Nat :=
  if op = 0x30 ∨ op = 0x31 ∨ op = 0x32 ∨ op = 0x37 ∨ op = 0x3C then 2 else if op = 0x39 ∨ op = 0x3B then 1 else 0

/-- Does a vector opcode write D? -/
def vecWritesD (op : Nat) : Bool := decide ((0x31 ≤ op ∧ op ≤ 0x36) ∨ op = 0x3A)

/-- Does a vector opcode read XD? -/
def vecUsesX (op : Nat) : Bool := decide (0x30 ≤ op ∧ op ≤ 0x3C ∧ op ≠ 0x39 ∧ op ≠ 0x3B)

/-- Does a vector opcode write through YD? -/
def vecUsesY (op : Nat) : Bool :=
  decide (op = 0x30 ∨ op = 0x31 ∨ op = 0x37 ∨ op = 0x38 ∨ op = 0x39 ∨ op = 0x3B ∨ op = 0x3C)

/-- The Sump fields of a stroke that address a word, as (lowest bit, written). -/
def sumpFields (w : BitVec 64) : List (Nat × Bool) :=
  let op := strokeOp w
  if op < 0x30 then
    ([(33, false), (23, false), (13, false)].take (scalarReads op)) ++ (if scalarWrites op && !w.getLsbD 9 then [(43, true)] else [])
  else
    ([(31, false), (21, false)].take (vecReads op)) ++ (if vecWritesD op then [(11, true)] else [])

/-- The descriptor fields of a stroke. -/
def descFields (w : BitVec 64) : List Nat :=
  let op := strokeOp w
  (if vecUsesX op then [47] else []) ++ (if vecUsesY op then [41] else [])

/-- A field of a stroke word. -/
def sfld (w : BitVec 64) (lo len : Nat) : Nat := w.toNat / 2 ^ lo % 2 ^ len

/-- A stroke word with a field replaced. -/
def sput (w : BitVec 64) (lo len v : Nat) : BitVec 64 :=
  BitVec.ofNat 64 (w.toNat - sfld w lo len * 2 ^ lo + v % 2 ^ len * 2 ^ lo)

/-- A stroke with its FIN flag set to `b`. -/
def setFin (w : BitVec 64) (b : Bool) : BitVec 64 := sput w 10 1 (b2n b)

/-- What is wrong with a stroke of a channel image of `words` local words: reason 4 or 5 of LINK_FAIL (R105, R117). -/
def strokeFail (words : Nat) (w : BitVec 64) : Option Nat :=
  (sumpFields w).findSome? (fun f =>
    let v := sfld w f.1 10
    if v < 64 then (if f.2 then some 5 else none) else if v < 64 + words then none else some 4)

/-- A stroke with its local words placed in the channel's granules and its descriptors in the bank (R105). -/
def relocStroke (c : ChanSlot) (nums : List Nat) (w : BitVec 64) : BitVec 64 :=
  let w1 := (sumpFields w).foldl (fun w f => let v := sfld w f.1 10; if v < 64 then w else sput w f.1 10 (c.place (v - 64))) w
  (descFields w).foldl (fun w lo =>
    let v := sfld w lo 6
    sput w lo 6 (if v < c.desc.length then nums.getD v 0 else v - c.desc.length)) w1

/-- Does a stroke name a system descriptor beyond the `n` of the bank (R105)? -/
def namesBeyond (local_ n : Nat) (w : BitVec 64) : Bool :=
  (descFields w).any (fun lo => decide (local_ + n ≤ sfld w lo 6))

/-- Strokes split into slices, each ended by its FIN stroke (R92). -/
def splitSlices : List (BitVec 64) → List (BitVec 64) → List (List (BitVec 64))
  | cur, [] => if cur = [] then [] else [cur]
  | cur, w :: ws => if strokeFin w then (cur ++ [w]) :: splitSlices [] ws else splitSlices (cur ++ [w]) ws

/-- A slice whose last stroke alone has FIN (R106). -/
def finLast : List (BitVec 64) → List (BitVec 64)
  | [] => []
  | [w] => [setFin w true]
  | w :: ws => setFin w false :: finLast ws

/-- Pump cycles of a list of strokes (R82). -/
def cyclesOf (ws : List (BitVec 64)) : Nat := ws.foldl (fun n w => n + strokeCycles w) 0

/-! ## Bank memory -/

/-- Byte address of stroke `k` of bank `b` (R81). -/
def strokeAddr (b k : Nat) : Nat := schedBase + 0x10000 * b + 8 * k

/-- Stroke `k` of bank `b`. -/
def State.strokeAt (s : State) (b k : Nat) : BitVec 64 := BitVec.ofNat 64 (leNat (s.memBytes (strokeAddr b k) 8))

/-- `n` strokes of bank `b` from stroke `k`. -/
def State.strokes (s : State) (b k n : Nat) : List (BitVec 64) := (List.range n).map (fun i => s.strokeAt b (k + i))

/-- `s` with strokes written to bank `b` from stroke `k`. -/
def State.putStrokes (s : State) (b k : Nat) (ws : List (BitVec 64)) : State :=
  (ws.zipIdx k).foldl (fun t e => t.setMemBytes (strokeAddr b e.2) (leBytes 8 e.1.toNat)) s

/-- The layout of bank `b`. -/
def State.lay (s : State) (b : Nat) : BankLayout := if b = 0 then s.pump.lay0 else s.pump.lay1

/-- `s` with the layout of bank `b` replaced. -/
def State.setLay (s : State) (b : Nat) (l : BankLayout) : State :=
  if b = 0 then { s with pump.lay0 := l } else { s with pump.lay1 := l }

/-- The standby bank: bank 0 while none is in force (R87). -/
def State.standby (s : State) : Nat := if s.pump.inForce then 1 - s.pump.active else 0

/-- The system part of a bank and the segments linked into it. -/
structure BankPlan where
  main : List (BitVec 64)
  linkPos : Nat
  slices : List (List (BitVec 64))
  slowDiv : Nat
  outPhase : Nat
  desc : List Word
  unverified : Bool
  /-- linked channels in ascending index, with the descriptor numbers of their local descriptors -/
  segs : List (Nat × List Nat)
  deriving DecidableEq, Repr

/-- System strokes of the slow slices of bank `b`, read from the slices as composed. -/
def State.sysSlices (s : State) (b k : Nat) : List Nat → List Nat → List (List (BitVec 64))
  | n :: ns, l :: ls => finLast (s.strokes b k n) :: State.sysSlices s b (k + l) ns ls
  | _, _ => []

/-- What bank `b` is composed of. -/
def State.bankPlan (s : State) (b : Nat) : BankPlan :=
  let l := s.lay b
  let segLen := (l.segs.map (·.len)).foldl (· + ·) 0
  { main := s.strokes b 0 l.linkPos ++ s.strokes b (l.linkPos + segLen) (l.sysMain - l.linkPos), linkPos := l.linkPos,
    slices := s.sysSlices b 7168 l.sliceSys l.sliceLen, slowDiv := l.slowDiv, outPhase := l.outPhase,
    desc := (List.range l.sysDesc).map (fun k => s.getR (Reg.PUMP_DESC (64 * b + k))), unverified := l.unverified,
    segs := l.segs.map (fun g => (g.chan, g.desc)) }

/-- The plan a new segment is added to (R106): the staged bank, or a copy of the bank in force without the channels marked for
release; none when there is neither. -/
def State.basePlan (s : State) : Option BankPlan :=
  if s.pump.stagedBank then some (s.bankPlan s.standby)
  else if s.pump.inForce then
    let p := s.bankPlan s.pump.active
    some { p with segs := p.segs.filter (fun g => decide ((s.chan g.1).st = 3) && !(s.chan g.1).release) }
  else none

/-- The plan without the segment of channel `n`. -/
def BankPlan.without (p : BankPlan) (n : Nat) : BankPlan := { p with segs := p.segs.filter (fun g => decide (g.1 ≠ n)) }

/-- Insert a segment in ascending channel index. -/
def insertSeg (g : Nat × List Nat) : List (Nat × List Nat) → List (Nat × List Nat)
  | [] => [g]
  | h :: t => if g.1 < h.1 then g :: h :: t else h :: insertSeg g t

/-- The plan with channel `n` linked: its local descriptors take the lowest free numbers above the system descriptors (R105); numbers
from 64 up mean that they are exhausted. -/
def BankPlan.link (p : BankPlan) (n locals : Nat) : BankPlan :=
  let taken := p.segs.flatMap (·.2)
  let free := (List.range (64 + locals)).filter (fun k => decide (p.desc.length ≤ k) && !taken.contains k)
  { p with segs := insertSeg (n, free.take locals) p.segs }

/-- The main area of a plan (R90). -/
def State.planMain (s : State) (p : BankPlan) : List (BitVec 64) :=
  p.main.take p.linkPos ++ p.segs.flatMap (fun g => let c := s.chan g.1; c.mainStrokes.map (relocStroke c g.2)) ++ p.main.drop p.linkPos

/-- Slow slice `j` of a plan: its system strokes, then each channel's sub-slice in ascending index (R106). -/
def State.planSlice (s : State) (p : BankPlan) (j : Nat) (sys : List (BitVec 64)) : List (BitVec 64) :=
  finLast (sys ++ p.segs.flatMap (fun g =>
    let c := s.chan g.1
    if c.sliceBase ≤ j then (((splitSlices [] c.slowStrokes)[j - c.sliceBase]?).getD []).map (relocStroke c g.2) else []))

/-- All slices of a plan, from slice `j` on. -/
def State.planSlices (s : State) (p : BankPlan) (j : Nat) : List (List (BitVec 64)) → List (List (BitVec 64))
  | [] => []
  | x :: xs => s.planSlice p j x :: State.planSlices s p (j + 1) xs

/-! ## Limits and budgets (R91, R107) -/

/-- The Pump cycle of E4 for an OUT_PHASE: floor(floor(OUT_PHASE × PERIOD / 256) / 2) (R91). -/
def State.e4Cycle (s : State) (outPhase : Nat) : Nat := s.stepTick outPhase / 2

/-- BUDGET_MAIN and BUDGET_SLOW of an OUT_PHASE (R91). -/
def State.budgetMain (s : State) (outPhase : Nat) : Int := s.e4Cycle outPhase - 1603
def State.budgetSlow (s : State) (outPhase : Nat) : Int := (s.period / 2 : Nat) - s.e4Cycle outPhase - 5

/-- Worst-case main load over the 64 residues (R91). -/
def State.planLoadMain (s : State) (p : BankPlan) : Nat :=
  cyclesOf p.main + ((List.range 64).map (fun r =>
    (p.segs.map (fun g => let c := s.chan g.1; if c.due r then c.cycles else 0)).foldl (· + ·) 0)).foldl max 0

/-- Longest slice (R91). -/
def State.planLoadSlow (s : State) (p : BankPlan) : Nat := ((s.planSlices p 0 p.slices).map cyclesOf).foldl max 0

/-- A refusal of a composition: result code, DETAIL, LINK_FAIL.REASON and STROKE. -/
structure LinkRefusal where
  code : Nat
  detail : Nat
  reason : Nat
  stroke : Nat
  deriving DecidableEq, Repr

/-- The first channel stroke of the plan that names a system descriptor outside it (R105, R107). -/
def State.planDescFail (s : State) (p : BankPlan) : Option LinkRefusal :=
  p.segs.findSome? (fun g =>
    let c := s.chan g.1
    ((c.mainStrokes ++ c.slowStrokes).findIdx? (namesBeyond c.desc.length p.desc.length)).map (fun k => ⟨5, 0, 4, k⟩))

/-- Composition limits and budgets of a plan (R91, R107). -/
def State.planLimitFail (s : State) (p : BankPlan) : Option LinkRefusal :=
  let slices := s.planSlices p 0 p.slices
  let excess := s.planLoadMain p - s.budgetMain p.outPhase
  let overSlow := s.planLoadSlow p - s.budgetSlow p.outPhase
  if p.segs.any (fun g => let c := s.chan g.1; c.slowStrokes ≠ [] && decide (p.slices.length < c.sliceBase + (splitSlices [] c.slowStrokes).length))
  then some ⟨0x0C, 0xFFFF, 6, 0xFFFF⟩
  else if 7168 < (s.planMain p).length then some ⟨0x0C, 0xFFFF, 1, 0xFFFF⟩
  else if 1024 < (slices.map (·.length)).foldl (· + ·) 0 then some ⟨0x0C, 0xFFFF, 2, 0xFFFF⟩
  else if p.segs.any (fun g => g.2.any (fun k => decide (64 ≤ k))) then some ⟨0x0C, 0xFFFF, 3, 0xFFFF⟩
  else if 0 < excess then some ⟨0x0C, min 0xFFFF excess.toNat, 0, 0xFFFF⟩
  else if 0 < overSlow then some ⟨0x0C, min 0xFFFF overSlow.toNat, 0, 0xFFFF⟩
  else none

/-! ## Writing and staging a bank -/

/-- The segments of a plan with their places in the main area, the first at stroke `at_`. -/
def State.planSegs (s : State) (at_ : Nat) : List (Nat × List Nat) → List Segment
  | [] => []
  | g :: gs =>
    let n := (s.chan g.1).mainStrokes.length
    ⟨g.1, at_, n, g.2⟩ :: State.planSegs s (at_ + n) gs

/-- The layout of a plan. -/
def State.planLayout (s : State) (p : BankPlan) : BankLayout :=
  { sysMain := p.main.length, linkPos := p.linkPos, segs := s.planSegs p.linkPos p.segs, sliceSys := p.slices.map (·.length),
    sliceLen := (s.planSlices p 0 p.slices).map (·.length), slowDiv := p.slowDiv, outPhase := p.outPhase, sysDesc := p.desc.length,
    unverified := p.unverified }

/-- Descriptor `k` of a plan: a system descriptor, a channel's, or none. -/
def State.planDesc (s : State) (p : BankPlan) (k : Nat) : Word :=
  if k < p.desc.length then p.desc.getD k 0
  else (p.segs.findSome? (fun g => (g.2.findIdx? (· == k)).map (fun i => (s.chan g.1).desc.getD i 0))).getD 0

/-- SWAP_AT − PERIOD_CNT says that the swap period is past (R88). -/
def State.swapPast (s : State) : Bool :=
  let d := (s.getR Reg.PUMP_SWAP_AT - s.getR Reg.TIME_PERIOD_CNT).toNat
  decide (d = 0 ∨ 2 ^ 31 ≤ d)

/-- The check of SWAP_AT with MODE = 1, when a bank becomes STAGED and when SWAP_AT is written (R88). -/
def State.checkMissed (s : State) : State :=
  if s.pump.stagedBank && s.getB Reg.PUMP_SWAP_CFG 0 && s.swapPast then
    ({ s with pump.missed := true }).irqLog 1 5 Pg.PUMP 0
      [(4, (s.getR Reg.PUMP_SWAP_AT).toNat), (4, (s.getR Reg.TIME_PERIOD_CNT).toNat)]
  else s

/-- The standby becomes STAGED (R88). -/
def State.stageBank (s : State) : State :=
  if s.pump.stagedBank then s else ({ s with pump.stagedBank := true }).checkMissed

/-- Write a plan into the standby bank, with its descriptors, and stage it (R106). -/
def State.compose (s : State) (p : BankPlan) : State :=
  let b := s.standby
  let s1 := (s.putStrokes b 0 (s.planMain p)).putStrokes b 7168 (s.planSlices p 0 p.slices).flatten
  let s2 := (List.range 64).foldl (fun t k => t.setR (Reg.PUMP_DESC (64 * b + k)) (s.planDesc p k)) s1
  (s2.setLay b (s.planLayout p)).stageBank

/-- The bank is dropped (R108): its STAGED channels return to LOADING with USED = 0, every release mark falls away, and the drop is
logged. -/
def State.dropBank (s : State) : State :=
  if !s.pump.stagedBank then s
  else
    let s1 := { s with pump.stagedBank := false }
    let s2 := (List.range 128).foldl (fun s n =>
      let c := s.chan n
      if c.st = 2 then s.chanMove n { c with st := 1, used := 0, granules := [], takesFrom := none, cmd := none }
      else if c.release then s.setChan n { c with release := false } else s) s1
    s2.logE 0 none Pg.PUMP 0 [(1, 2), (1, 0), (1, 0)]

end Sys2Proof.Machine
end

