-- ==== Sys2Proof/Machine/Crypto.lean ====
section
/-! DEFINITION. CRC-32 of R42, SHA-256 and HMAC-SHA-256 over byte lists, the functions the images, the seal and the beacon use. -/
namespace Sys2Proof.Machine

/-- `n` shifts of the reflected CRC-32 register. -/
def crc32Shift : Nat → Word → Word
  | 0, c => c
  | n + 1, c => crc32Shift n (if c.getLsbD 0 then (c >>> 1) ^^^ 0xEDB88320 else c >>> 1)

/-- The CRC register after the bytes. -/
def crc32Run : Word → List Byte → Word
  | c, [] => c
  | c, b :: bs => crc32Run (crc32Shift 8 (c ^^^ b.setWidth 32)) bs

/-- CRC-32, polynomial 0x04C1_1DB7 reflected, initial value and final XOR 0xFFFF_FFFF (R42). -/
def crc32 (bs : List Byte) : Word := crc32Run 0xFFFFFFFF bs ^^^ 0xFFFFFFFF

/-- Rotate right. -/
def rotr (x : Word) (n : Nat) : Word := (x >>> n) ||| (x <<< (32 - n))

/-- The round constants of SHA-256. -/
def shaK : List Word :=
  [0x428a2f98, 0x71374491, 0xb5c0fbcf, 0xe9b5dba5, 0x3956c25b, 0x59f111f1, 0x923f82a4, 0xab1c5ed5,
   0xd807aa98, 0x12835b01, 0x243185be, 0x550c7dc3, 0x72be5d74, 0x80deb1fe, 0x9bdc06a7, 0xc19bf174,
   0xe49b69c1, 0xefbe4786, 0x0fc19dc6, 0x240ca1cc, 0x2de92c6f, 0x4a7484aa, 0x5cb0a9dc, 0x76f988da,
   0x983e5152, 0xa831c66d, 0xb00327c8, 0xbf597fc7, 0xc6e00bf3, 0xd5a79147, 0x06ca6351, 0x14292967] ++
  [0x27b70a85, 0x2e1b2138, 0x4d2c6dfc, 0x53380d13, 0x650a7354, 0x766a0abb, 0x81c2c92e, 0x92722c85,
   0xa2bfe8a1, 0xa81a664b, 0xc24b8b70, 0xc76c51a3, 0xd192e819, 0xd6990624, 0xf40e3585, 0x106aa070,
   0x19a4c116, 0x1e376c08, 0x2748774c, 0x34b0bcb5, 0x391c0cb3, 0x4ed8aa4a, 0x5b9cca4f, 0x682e6ff3,
   0x748f82ee, 0x78a5636f, 0x84c87814, 0x8cc70208, 0x90befffa, 0xa4506ceb, 0xbef9a3f7, 0xc67178f2]

/-- The eight working words of SHA-256. -/
structure ShaWords where
  a : Word
  b : Word
  c : Word
  d : Word
  e : Word
  f : Word
  g : Word
  h : Word
  deriving DecidableEq, Repr

/-- The initial hash value. -/
def shaInit : ShaWords :=
  ⟨0x6a09e667, 0xbb67ae85, 0x3c6ef372, 0xa54ff53a, 0x510e527f, 0x9b05688c, 0x1f83d9ab, 0x5be0cd19⟩

/-- One round with constant `k` and message word `w`. -/
def shaRound (v : ShaWords) (k w : Word) : ShaWords :=
  let t1 := v.h + (rotr v.e 6 ^^^ rotr v.e 11 ^^^ rotr v.e 25) + ((v.e &&& v.f) ^^^ (~~~v.e &&& v.g)) + k + w
  let t2 := (rotr v.a 2 ^^^ rotr v.a 13 ^^^ rotr v.a 22) + ((v.a &&& v.b) ^^^ (v.a &&& v.c) ^^^ (v.b &&& v.c))
  ⟨t1 + t2, v.a, v.b, v.c, v.d + t1, v.e, v.f, v.g⟩

/-- The rounds, over the round constants left and a window of the last 16 message words. -/
def shaRounds (v : ShaWords) : List Word → List Word → ShaWords
  | [], _ => v
  | k :: ks, win =>
    let w0 := win.getD 0 0
    let w1 := win.getD 1 0
    let w14 := win.getD 14 0
    let nxt := w0 + (rotr w1 7 ^^^ rotr w1 18 ^^^ (w1 >>> 3)) + win.getD 9 0 + (rotr w14 17 ^^^ rotr w14 19 ^^^ (w14 >>> 10))
    shaRounds (shaRound v k w0) ks (win.drop 1 ++ [nxt])

/-- `n` big-endian words of a block. -/
def beWords : Nat → List Byte → List Word
  | 0, _ => []
  | n + 1, bs => w32 (beNat (bs.take 4)) :: beWords n (bs.drop 4)

/-- One 64-byte block. -/
def shaBlock (v : ShaWords) (blk : List Byte) : ShaWords :=
  let r := shaRounds v shaK (beWords 16 blk)
  ⟨v.a + r.a, v.b + r.b, v.c + r.c, v.d + r.d, v.e + r.e, v.f + r.f, v.g + r.g, v.h + r.h⟩

/-- `n` blocks. -/
def shaBlocks (v : ShaWords) : Nat → List Byte → ShaWords
  | 0, _ => v
  | n + 1, bs => shaBlocks (shaBlock v (bs.take 64)) n (bs.drop 64)

/-- The padded message: a one bit, zeros, and the length in bits as 8 big-endian bytes. -/
def shaPad (bs : List Byte) : List Byte :=
  bs ++ [0x80] ++ List.replicate ((119 - bs.length % 64) % 64) 0 ++ beBytes 8 (8 * bs.length)

/-- SHA-256 as 32 bytes. -/
def sha256 (bs : List Byte) : List Byte :=
  let p := shaPad bs
  let v := shaBlocks shaInit (p.length / 64) p
  [v.a, v.b, v.c, v.d, v.e, v.f, v.g, v.h].flatMap (fun w => beBytes 4 w.toNat)

/-- The key of HMAC-SHA-256 filled to one block. -/
def hmacKey (k : List Byte) : List Byte :=
  let k0 := if 64 < k.length then sha256 k else k
  k0 ++ List.replicate (64 - k0.length) 0

/-- HMAC-SHA-256 as 32 bytes. -/
def hmacSha256 (key msg : List Byte) : List Byte :=
  let k := hmacKey key
  sha256 (k.map (· ^^^ 0x5c) ++ sha256 (k.map (· ^^^ 0x36) ++ msg))

/-- A 32-byte digest as a number, byte 0 in bits [7:0] (register word k holds bytes 4k to 4k + 3, R348). -/
def digestBV (bs : List Byte) : BitVec 256 := BitVec.ofNat 256 (leNat bs)

/-- One bit step of a non-reflected CRC of `w` bits with polynomial `p`. -/
def crcStep (w p c : Nat) : Nat := if 2 ^ (w - 1) ≤ c then (2 * c % 2 ^ w) ^^^ p else 2 * c % 2 ^ w

/-- `n` bit steps. -/
def crcSteps (w p : Nat) : Nat → Nat → Nat
  | 0, c => c
  | n + 1, c => crcSteps w p n (crcStep w p c)

/-- A non-reflected CRC of `w` bits over bytes. -/
def crcRun (w p : Nat) : Nat → List Byte → Nat
  | c, [] => c
  | c, b :: bs => crcRun w p (crcSteps w p 8 (c ^^^ (b.toNat * 2 ^ (w - 8)))) bs

/-- CRC-16: polynomial 0x1021, initial value 0xFFFF, not reflected (R250). -/
def crc16 (bs : List Byte) : Nat := crcRun 16 0x1021 0xFFFF bs

/-- CRC-8: polynomial 0x2F, initial value 0xFF, not reflected, final XOR 0xFF (R250). -/
def crc8 (bs : List Byte) : Nat := crcRun 8 0x2F 0xFF bs ^^^ 0xFF

end Sys2Proof.Machine
end

