-- ==== Sys2Proof/Machine/GuardOps.lean ====
section
/-! DEFINITION. What the Guard die holds and shows (spec/16_guard_domain.md): the sealed profile, its slots, the cell limit set, the
block line and the GTRIP outputs. The Guard's commands are in Guard.lean. -/
namespace Sys2Proof.Machine

/-- The Guard verifies the settings it runs: the sealed profile, or in the Cell role the limit set whose digest matches (R339, R351). -/
def State.guardOk (s : State) : Bool := !s.grd.inReset && (if s.pw.role = .cell then s.cell.digestOk else s.grd.profileOk)

/-- Word at byte `o` of the active profile image; 0 while PROFILE_OK = 0 (R353, R385). -/
def State.profW (s : State) (o : Nat) : Word :=
  if s.grd.profileOk && decide (s.pw.role ≠ .cell) then s.nvW (0x100 + o) else 0

/-- Byte `o` of the cell limit set, in Guard RAM (R350, R351). -/
def State.lsetB (s : State) (o : Nat) : Nat := (SMap.get 0 o s.grd.ram).toNat

/-- `n` bytes of Guard RAM from `o`. -/
def State.gramBytes (s : State) (o : Nat) : Nat → List Byte
  | 0 => []
  | n + 1 => SMap.get 0 o s.grd.ram :: State.gramBytes s (o + 1) n

/-- Word of the cell limit set. -/
def State.lsetW (s : State) (o : Nat) : Word := w32 (leNat (s.gramBytes o 4))

/-- STG_CFG of stage `k`: from the profile, or in the Cell role stage 0 as the limit set gives it, KIND 7 (R350). -/
def State.stgCfg (s : State) (k : Nat) : Word :=
  if s.pw.role = .cell then
    if k = 0 && s.guardOk then w32 (7 + s.lsetB 9 % 2 * 256 + s.lsetB 9 / 16 * 4096) else 0
  else s.profW (0xA0 + 4 * k)

/-- Point `n` of the Guard curves (R350, R354). -/
def State.gPoint (s : State) (n : Nat) : Word :=
  if s.pw.role = .cell then (if n < 8 && s.guardOk then s.lsetW (0x0C + 4 * n) else 0) else s.profW (0xE0 + 4 * n)

/-- GMASK of a function: of the stage, or FN_MAP (R337). -/
def State.fnMask (s : State) (f : Nat) : Nat :=
  if f < 16 then fld (s.stgCfg f) 12 4
  else if f < 24 then fld (s.profW (0x70 + 0x20)) (4 * (f - 16)) 4
  else fld (s.profW (0x70 + 0x24)) (4 * (f - 24)) 4

/-- GTRIP outputs commanded released: by a decision, and all of them in reset or unverified, and in the Test role (R2, R330, R339). -/
def State.relEff (s : State) : BitVec 4 := if s.guardOk && decide (s.pw.role ≠ .test) then s.grd.released else 0xF

/-- The Guard's block line: in reset, unverified, latched, or burning (R55, R337, R339, R349). -/
def State.gblock (s : State) : Bool :=
  !s.guardOk || decide (s.getR Reg.GRD_TRIP_LATCH ≠ 0) || decide (s.grd.session = 3)

/-- The block line held only under R339 or R55, with no trip latched (R58). -/
def State.gblockOnlyUnverified (s : State) : Bool :=
  s.gblock && !s.grd.inReset && !s.guardOk && decide (s.getR Reg.GRD_TRIP_LATCH = 0)

/-- GWDO (R331). -/
def State.gwdo (s : State) : Bool := s.guardOk && decide (s.getR Reg.GRD_TRIP_LATCH = 0)

/-- `s` with the released outputs changed: a ball that did not follow its old command follows the new one. -/
def State.guardChange (s : State) (f : State → State) : State :=
  let t := f s
  { t with grd.stuckBalls := t.grd.stuckBalls &&& ~~~(s.relEff ^^^ t.relEff) }

/-- A seal slot (R346). -/
def State.slot (s : State) (k : Nat) : SealSlot := SMap.get ⟨false, 0, 0⟩ k s.grd.slots

/-- A slot is free when all of its bits are 0 (R346). -/
def State.slotFree (s : State) (k : Nat) : Bool := decide (s.slot k = ⟨false, 0, 0⟩)

/-- Not free and without its fuse: spoiled (R346). -/
def State.slotSpoiled (s : State) (k : Nat) : Bool := !s.slotFree k && !(s.slot k).fuse

/-- Free slots among the first `n`. -/
def State.freeSlots (s : State) : Nat → Nat
  | 0 => 0
  | n + 1 => b2n (s.slotFree n) + State.freeSlots s n

/-- The highest-numbered burned slot below `n` (R346). -/
def State.activeSlot (s : State) : Nat → Option Nat
  | 0 => none
  | n + 1 => if (s.slot n).fuse then some n else State.activeSlot s n

/-- Slot 47 is active or spoiled (R346). -/
def State.frozen (s : State) : Bool := (s.slot 47).fuse || s.slotSpoiled 47

/-- Digest of the active profile image in the Keeper (R345). -/
def State.profileDigest (s : State) : BitVec 256 := digestBV (sha256 (s.nvBytes 0x100 0x4F0))

/-- The Guard verifies the profile against the latest burned slot (R51 step 4); a change of PROFILE_OK sets GRD.IRQ_RAW bit 3. -/
def State.verifyProfile (s : State) : State :=
  let ok := match s.activeSlot 48 with
    | none => false
    | some k => decide (s.profileDigest = (s.slot k).digest)
  let t := { s with grd.profileOk := ok }
  if ok = s.grd.profileOk then t else t.irq Pg.GRD 3

/-- The seal nonce in use (R348). -/
def State.nonce (s : State) : BitVec 64 := Config.nonce s.grd.nonceIx

/-- Close the seal session: the nonce is renewed and a staged image forgotten (R348, R349). -/
def State.sealClose (s : State) : State :=
  { s with grd.session := 0, grd.staged := false, grd.nonceIx := s.grd.nonceIx + 1 }

/-- The session closes without effect when the device leaves CONFIGURE (R349). -/
def State.sealLeave (s : State) : State := if s.grd.session = 0 then s else s.sealClose

/-- Debounced SEAL15–0 (R347). -/
def State.sealNow (s : State) : Nat := s.getF Reg.GSEAL_SW_NOW 0 16

/-- Is function `f` armed in mode `m` (R333)? -/
def fnArmed (f : Nat) (m : Mode) : Bool :=
  if f < 16 || f = 18 || f = 19 || f = 20 || f = 22 || f = 23 then decide (m = .armed ∨ m = .run)
  else if f = 16 || f = 17 then decide (m = .run)
  else if f = 21 then decide (m ≠ .dormant)
  else decide (f = 24 ∨ f = 25)

/-- ESTOP and door inputs that are enabled: GSAFE.CFG bits 2:0 (R356). -/
def State.safetyEn (s : State) (i : Nat) : Bool := bit (s.profW 0x2E0) i

/-- An enabled input is healthy while both its channels are closed (R342). -/
def State.inputHealthy (s : State) (i : Nat) : Bool := s.getB Reg.GSAFE_STAT (8 + i) && s.getB Reg.GSAFE_STAT (16 + i)

/-- No enabled safety input is unhealthy (R342). -/
def State.safetyHealthy (s : State) : Bool :=
  (!s.safetyEn 0 || s.inputHealthy 0) && (!s.safetyEn 1 || s.inputHealthy 1) && (!s.safetyEn 2 || s.inputHealthy 2)

end Sys2Proof.Machine
end

