-- ==== Sys2Proof/Machine/Roles.lean ====
section
/-! DEFINITION. What the role and the units above the generators hold of them (R18, R182, R254, R398). -/
namespace Sys2Proof.Machine

/-- The standby role before takeover holds its outputs off (R18, R178). -/
def State.standbyHold (s : State) : Bool := decide (s.pw.role = .standby) && !s.stb.active

/-- The precharge bit of the part taken at the last E6 (R254). -/
def State.cellPrecharge (s : State) : Bool := s.cell.prechg

/-- The generators 0–3 of a Cell are held off: BLOCK of the part taken, coasting past its limit, the bypass closing or closed, or
SRC = 0 (R285, R286, R290, R293). -/
def State.cellHold (s : State) (g : Nat) : Bool :=
  decide (s.pw.role = .cell) && decide (g < 4) &&
    (s.cell.blocked || s.cell.coastBlock || s.cell.bypWait || s.cell.bypOn || decide (s.getF (Reg.CELL_GEN_CFG g) 0 4 = 0))

/-- Auxiliary pump port `q` owns its three generators: EN = 1 and DRV = 0 (R398). -/
def State.auxPort (s : State) (q : Nat) : Bool := s.getB (Reg.AUXP_P_CFG q) 0 && !s.getB (Reg.AUXP_P_CFG q) 1

/-- AUXP owns generator `g`: 6–8 for port 0, 9–11 for port 1 (R182, R398). -/
def State.auxOwns (s : State) (g : Nat) : Bool := decide (6 ≤ g ∧ g < 12) && s.auxPort (g / 3 - 2)

end Sys2Proof.Machine
end

