-- ==== Sys2Proof/Machine/PwmOps.lean ====
section
/-! DEFINITION. The PWM generators as machines (spec/09_pwm_generators.md): counter and position, transfers, raw signals, dead time
and minimum pulse, trips, holds and the epoch lock. Their commands are in Pwm.lean. -/
namespace Sys2Proof.Machine

/-- A generator after reset: stopped, outputs off, waiting for a BOUNDARY. -/
def pwmOff0 : PwmOut := { raw := false, on := false, rose := 0, fell := none, pend := none, place := none, defer := false }
/-- A generator after reset. -/
def pwmReset : PwmGen :=
  { running := false, t0 := 0, pos := 0, prd := 100000, a := pwmOff0, b := pwmOff0, c1a := 0, c1b := 0, half := false, wait := true,
    oneShot := 0, cbc := false, stg := false, startE0 := false, loadE0 := false, frozen := false, cDone := false, dDone := false }

/-- Generator `g`. -/
def State.gen (s : State) (g : Nat) : PwmGen := SMap.get pwmReset g s.pwm
/-- `s` with generator `g` replaced. -/
def State.setGen (s : State) (g : Nat) (p : PwmGen) : State := { s with pwm := SMap.set pwmReset g p s.pwm }
/-- `s` with generator `g` changed. -/
def State.modGen (s : State) (g : Nat) (f : PwmGen → PwmGen) : State := s.setGen g (f (s.gen g))

/-- One output of a generator: `b` false for A, true for B. -/
def PwmGen.out (p : PwmGen) (b : Bool) : PwmOut := if b then p.b else p.a
/-- A generator with one output changed. -/
def PwmGen.modOut (p : PwmGen) (b : Bool) (f : PwmOut → PwmOut) : PwmGen := if b then { p with b := f p.b } else { p with a := f p.a }

/-! ## Control fields -/

/-- CTRL as the generator takes it: LOCK and SRC forced to 1 in the Cell role (R182). -/
def State.pwmCtrl (s : State) (g : Nat) : Word :=
  let w := s.getR (Reg.PWMn_CTRL g)
  if s.pw.role = .cell then putBit (putBit w 6 true) 8 true else w

def State.pwmEn (s : State) (g : Nat) : Bool := bit (s.pwmCtrl g) 0
def State.pwmUpDown (s : State) (g : Nat) : Bool := bit (s.pwmCtrl g) 1
def State.pwmIndep (s : State) (g : Nat) : Bool := bit (s.pwmCtrl g) 5
def State.pwmLock (s : State) (g : Nat) : Bool := bit (s.pwmCtrl g) 6
def State.pwmSynci (s : State) (g : Nat) : Bool := bit (s.pwmCtrl g) 7
def State.pwmStaged (s : State) (g : Nat) : Bool := bit (s.pwmCtrl g) 8

/-- Transfers happen at BOUNDARY: always in up counting; in up-down counting unless XFER = 1 (R170). -/
def State.xferBoundary (s : State) (g : Nat) : Bool := !s.pwmUpDown g || decide (fld (s.pwmCtrl g) 2 2 ≠ 1)
/-- Transfers happen at MID: in up-down counting with XFER 1 or 2 (R170). -/
def State.xferMid (s : State) (g : Nat) : Bool := s.pwmUpDown g && decide (fld (s.pwmCtrl g) 2 2 = 1 ∨ fld (s.pwmCtrl g) 2 2 = 2)

/-- Position t (R168). -/
def State.pwmPos (s : State) (g : Nat) : Nat :=
  let p := s.gen g
  if p.running then (((s.clk.tick : Int) - p.t0) % (max 1 p.prd : Nat)).toNat else p.pos

/-- PWMn.CNT: t, and the direction of up-down counting (R168). -/
def State.pwmCnt (s : State) (g : Nat) : Word :=
  let t := s.pwmPos g
  w32 (t + 2 ^ 24 * b2n (s.pwmUpDown g && decide ((s.gen g).prd / 2 ≤ t)))

/-! ## Blocks and trips -/

/-- LOCK_ERR holds the outputs off (R179). -/
def State.pwmLockErr (s : State) (g : Nat) : Bool := s.getB (Reg.PWMn_STAT g) 6

/-- PRECHARGE lets generator `g` switch in ARMED: its mask bit with PRECHARGE_EN.EN set; in the Cell role the precharge bit of the
command word stands for both, for generators 0 to 3 (R178, R182, R254). -/
def State.pwmPrecharge (s : State) (g : Nat) : Bool :=
  if s.pw.role = .cell then s.cellPrecharge && decide (g < 4) else s.getB Reg.PWR_PRECHARGE_EN 0 && s.getB Reg.PWMC_PRECHARGE g

/-- The holds of R178 that all generators and SWIN-sourced islands share; `pre` lets the output through in ARMED. -/
def State.outputHold (s : State) (pre : Bool) : Bool :=
  s.gblock || s.pw.cblock || s.standbyHold || !s.getB Reg.CLK_RPLL_STAT 0 ||
    match s.pw.mode with
    | .run => false
    | .armed => !pre
    | .dormant | .boot | .configure | .safe => true

/-- A condition of R178 holds (STAT.BLOCKED). -/
def State.pwmBlocked (s : State) (g : Nat) : Bool := s.outputHold (s.pwmPrecharge g) || !s.pwmEn g || s.cellHold g

/-- Is comparator `n` taken by the Keeper: 14 and 15 on a Wellhead with grid-return sensing enabled (R216, R387)? -/
def State.cmpKept (s : State) (n : Nat) : Bool := decide (14 ≤ n) && s.getB Reg.KEEP_GR_CFG 0 && decide (s.pw.role ≠ .cell)

/-- Trip sources asserted now: TZ0–3, then the latches of comparators 0–15, but not of those the Keeper owns (R177, R216). -/
def State.tripLevel (s : State) : Nat :=
  s.getF Reg.PWMC_TZ_STAT 0 4 + 16 * s.getF Reg.CMP_LATCH 0 (if s.cmpKept 14 then 14 else 16)

/-- Held off by a trip source (STAT.TRIPPED, R177). -/
def PwmGen.tripped (p : PwmGen) : Bool := decide (p.oneShot ≠ 0) || p.cbc

/-- The outputs may not rise now. -/
def State.pwmHeld (s : State) (g : Nat) : Bool :=
  s.pwmBlocked g || s.pwmLockErr g || (s.gen g).tripped || !(s.gen g).running

/-! ## Outputs -/

/-- Dead time before a rise: DT_RISE for A, DT_FALL for B; none in independent operation (R173). -/
def State.pwmDead (s : State) (g : Nat) (b : Bool) : Nat :=
  if s.pwmIndep g then 0 else s.getF (Reg.PWMn_DT g) (if b then 16 else 0) 12

/-- MIN_PULSE in force. -/
def State.minPulse (s : State) (g : Nat) : Nat := s.getF (Reg.PWMn_MIN_PULSE g) 0 12

/-- The raw signal of an output: in complementary operation B is the complement of raw A (R169). -/
def State.pwmSig (s : State) (g : Nat) (b : Bool) : Bool :=
  let p := s.gen g
  if b then (if s.pwmIndep g then p.b.raw else !p.a.raw) else p.a.raw

/-- Count one for the minimum-pulse rules: drop or stretch (R174, R175). -/
def State.countMp (s : State) (g : Nat) (drop : Bool) : State :=
  (s.incSat (if drop then Reg.PWMn_MP_DROP_CNT g else Reg.PWMn_MP_STRETCH_CNT g)).irq (Pg.PWMn g) 3

/-- min(CMP, PRD): the compare value used (R169, R172). -/
def State.pwmCmp (s : State) (g : Nat) (b : Bool) : Nat :=
  min (s.getF (if b then Reg.PWMn_CMPB g else Reg.PWMn_CMPA g) 0 24) (s.gen g).prd

/-- The window of positions in which a raw channel is high, with the compare values in force (R169). -/
def State.rawWindow (s : State) (g : Nat) (b : Bool) : Nat × Nat :=
  let p := s.gen g
  let c := s.pwmCmp g b
  if s.pwmUpDown g then (p.prd / 2 - ((if b then p.c1b else p.c1a) + 1) / 2, p.prd / 2 + c / 2) else (0, c)

/-- The falling edge that the values in force schedule for the pulse of output `b` in progress at `now`; none where they schedule
none (R174). -/
def State.pwmEnd (s : State) (g : Nat) (b : Bool) (now : Int) : Option Int :=
  let p := s.gen g
  let comp := b && !s.pwmIndep g
  let c := s.pwmCmp g (b && !comp)
  let (lo, hi) := s.rawWindow g (b && !comp)
  if comp then
    if c = 0 then none
    else if now < p.t0 + lo then some (p.t0 + lo)
    else some (p.t0 + p.prd + (if s.pwmUpDown g then p.prd / 2 - (c + 1) / 2 else 0 : Nat))
  else if p.prd ≤ c then none
  else some (p.t0 + hi)

/-- An output rises at `now` (R173). -/
def State.pwmRise (s : State) (g : Nat) (b : Bool) (now : Int) : State :=
  s.modGen g (fun p => p.modOut b (fun o => { o with on := true, rose := now, pend := none }))

/-- The instant at which a raw rise at `now` lets output `b` rise, or none while the other output's pulse defers it (R173, R174). -/
def State.planRise (s : State) (g : Nat) (b : Bool) (now : Int) : State :=
  if (s.gen g).wait || ((s.gen g).out b).on then s
  else if !s.pwmIndep g && ((s.gen g).out (!b)).on then s.modGen g (fun p => p.modOut b (fun o => { o with pend := none, defer := true }))
  else
    let from_ := if s.pwmIndep g then now else max now (((s.gen g).out (!b)).fell.getD now)
    s.modGen g (fun p => p.modOut b (fun o => { o with pend := some (from_ + s.pwmDead g b), defer := false }))

/-- An output that would rise at `now` is checked against MIN_PULSE and rises, is dropped or is stretched (R174). Where the other output
has fallen since its rise was planned, it waits for the dead time after that fall, the later of the two instants of R173. -/
def State.tryRise (s : State) (g : Nat) (b : Bool) (now : Int) : State :=
  let s0 := s.modGen g (fun p => p.modOut b (fun o => { o with pend := none }))
  let other := (s0.gen g).out (!b)
  let clear := other.fell.getD (now - s.pwmDead g b) + s.pwmDead g b
  if (s0.gen g).wait then s0
  else if !s.pwmIndep g && other.on then s.planRise g b now
  else if !s.pwmIndep g && decide (now < clear) then s0.modGen g (fun p => p.modOut b (fun o => { o with pend := some clear }))
  else
    let short := match s0.pwmSig g b, s0.pwmEnd g b now with
      | false, _ => decide (s.minPulse g ≠ 0)
      | true, none => false
      | true, some e => decide (e - now < s.minPulse g)
    if short then
      if bit (s.pwmCtrl g) 11 then
        ((s0.countMp g false).pwmRise g b now).modGen g (fun p => p.modOut b (fun o => { o with place := some (now + s.minPulse g) }))
      else s0.countMp g true
    else if s0.pwmSig g b then s0.pwmRise g b now else s0

/-- An output falls at `now`; ONTIME takes the length of the pulse (R175), and a deferred rise of the other output is planned
(R174). -/
def State.pwmFall (s : State) (g : Nat) (b : Bool) (now : Int) : State :=
  if !((s.gen g).out b).on then s
  else
    let len := (now - ((s.gen g).out b).rose).toNat
    let s1 := s.modGen g (fun p => p.modOut b (fun o => { o with on := false, fell := some now, place := none }))
    let s2 := s1.setR (if b then Reg.PWMn_ONTIME_B g else Reg.PWMn_ONTIME_A g) (w32 (min len 0xFFFFFF))
    if ((s2.gen g).out (!b)).defer then
      (s2.modGen g (fun p => p.modOut (!b) (fun o => { o with defer := false }))).planRise g (!b) now
    else s2

/-- The raw signal of output `b` falls at `now`: the output falls, but never before its minimum pulse (R173, R175). -/
def State.rawFall (s : State) (g : Nat) (b : Bool) (now : Int) : State :=
  let o := (s.gen g).out b
  if !o.on || o.place.isSome then s
  else if now < o.rose + s.minPulse g then
    (s.countMp g false).modGen g (fun p => p.modOut b (fun o => { o with place := some (o.rose + s.minPulse g) }))
  else s.pwmFall g b now

/-- A raw channel takes the level `lvl` at `now`; of a complementary pair the falling output is taken first (R173). -/
def State.rawSet (s : State) (g : Nat) (b lvl : Bool) (now : Int) : State :=
  if ((s.gen g).out b).raw = lvl then s
  else
    let s1 := s.modGen g (fun p => p.modOut b (fun o => { o with raw := lvl }))
    if s.pwmIndep g then (if lvl then s1.planRise g b now else s1.rawFall g b now)
    else if b then s1
    else (s1.rawFall g lvl now).planRise g (!lvl) now

/-- Both outputs go to the off level at once and wait for a BOUNDARY (R177, R178). -/
def State.pwmDrop (s : State) (g : Nat) : State :=
  let quiet : PwmOut → PwmOut := fun o => { o with pend := none, place := none, defer := false }
  let s1 := s.modGen g (fun p => { p with a := quiet p.a, b := quiet p.b, wait := true })
  (s1.pwmFall g false s.clk.tick).pwmFall g true s.clk.tick

/-- The counter goes into position `p` of its period at `now`: C1 is taken in the first half, and the raw signals follow (R169). -/
def State.pwmSegment (s : State) (g p : Nat) (now : Int) : State :=
  let first := decide (2 * p < (s.gen g).prd)
  let ca := s.pwmCmp g false
  let cb := s.pwmCmp g true
  let s1 := if first then s.modGen g (fun q => { q with c1a := ca, c1b := cb, half := false })
    else s.modGen g (fun q => { q with half := true })
  let lvl (b : Bool) : Bool := let w := s1.rawWindow g b; decide (w.1 ≤ p ∧ p < w.2)
  let s2 := s1.rawSet g false (lvl false) now
  if s.pwmIndep g then s2.rawSet g true (lvl true) now else s2

/-! ## Transfers -/

/-- round(clamp(u, 0, 1) × PRD), ties to even; a NaN gives 0 (R171). -/
def fracOf (u : Word) (prd : Nat) : Nat :=
  match fdec (fclampW u 0 0x3F800000), fdec u with
  | _, .nan => 0
  | .fin _ m e, _ => if 0 ≤ e then m * prd * 2 ^ e.toNat else rneShift (m * prd) (-e).toNat
  | _, _ => 0

/-- CMPA or CMPB in force exceeds PRD in force: STAT.CLAMPED (R172). -/
def State.markClamped (s : State) (g : Nat) : State :=
  let prd := s.getF (Reg.PWMn_PRD g) 0 24
  if prd < s.getF (Reg.PWMn_CMPA g) 0 24 ∨ prd < s.getF (Reg.PWMn_CMPB g) 0 24 then s.setB (Reg.PWMn_STAT g) 5 true else s

/-- A transfer changed PRD without a compare value written since the previous one (R172). -/
def State.splitUpdate (s : State) (g : Nat) : State :=
  let s1 := if s.getB (Reg.PWMn_STAT g) 4 then s else s.logE 1 (some 2) (Pg.PWMn g) 0 []
  ((s1.setB (Reg.PWMn_STAT g) 4 true).incSat (Reg.PWMn_SPLIT_CNT g)).irq (Pg.PWMn g) 2

/-- The staged fractions become compare values, with PRD in force after the transfer (R171). -/
def State.takeStaged (s : State) (g : Nat) : State :=
  if (s.gen g).stg && s.pwmStaged g then
    let prd := s.getF (Reg.PWMn_PRD g) 0 24
    (((s.setR (Reg.PWMn_CMPA g) (w32 (fracOf (s.getR (Reg.PWMn_STG_A g)) prd))).setR (Reg.PWMn_CMPB g)
      (w32 (fracOf (s.getR (Reg.PWMn_STG_B g)) prd)))).modGen g (fun p => { p with stg := false })
  else s

/-- A transfer point: an armed commit transfers every shadow of the page together (R37, R170–R172). -/
def State.pwmTransfer (s : State) (g : Nat) : State :=
  if !s.getB (Hdr.SHADOW_CTRL (Pg.PWMn g)) 8 then s
  else
    let newPrd := decide (s.staged (Reg.PWMn_PRD g) ≠ s.getR (Reg.PWMn_PRD g))
    let has (a : Nat) : Bool := (SMap.find a s.shadow).isSome
    let carried := ((s.gen g).stg && s.pwmStaged g) ||
      (has (Reg.PWMn_CMPA g) && (!s.pwmIndep g || has (Reg.PWMn_CMPB g)))
    let s1 := (s.commitPage (Pg.PWMn g)).takeStaged g
    (if newPrd && !carried then s1.splitUpdate g else s1).markClamped g

/-- PERIOD that PRD does not divide holds the outputs off, until a dividing PRD is in force (R179). -/
def State.judgeLock (s : State) (g : Nat) : State :=
  let prd := s.getF (Reg.PWMn_PRD g) 0 24
  let bad := s.pwmLock g && s.pwmEn g && decide (s.period % max 1 prd ≠ 0)
  let s1 := s.setB (Reg.PWMn_STAT g) 6 bad
  if bad && !s.pwmLockErr g then s1.pwmDrop g else s1

/-! ## The counter's points -/

/-- Cycle-by-cycle holds release where no such source is asserted, and a cleared one-shot latch ends (R177). -/
def State.releaseTrips (s : State) (g : Nat) : State :=
  let cbcNow := s.tripLevel &&& s.getF (Reg.PWMn_TRIP_EN g) 0 20 &&& s.getF (Reg.PWMn_TRIP_CBC g) 0 20
  s.modGen g (fun p => { p with cbc := p.cbc && decide (cbcNow ≠ 0), oneShot := if p.oneShot = 2 then 0 else p.oneShot })

/-- Resume after a block or trip: an output whose raw signal is high rises after its dead time from the BOUNDARY (R178). -/
def State.pwmResume (s : State) (g : Nat) (now : Int) : State :=
  if (s.gen g).wait && !s.pwmHeld g then
    let s1 := s.modGen g (fun p => { p with wait := false })
    let s2 := if s1.pwmSig g false then s1.planRise g false now else s1
    if s2.pwmSig g true then s2.planRise g true now else s2
  else s

/-- At a BOUNDARY of generator `g`, the cycle-by-cycle latches of the comparators that name it release where the filtered output is 0,
before the trip test (R217). -/
def State.cmpAutoRelease (s : State) (g : Nat) : State :=
  (List.range 16).foldl (fun s n =>
    let cfg := s.getR (Reg.CMP_C_CFG n)
    if bit cfg 7 && decide (fld cfg 8 4 = g) && !s.getB Reg.CMP_LEVEL n then s.setB Reg.CMP_LATCH n false else s) s

/-- BOUNDARY at `now`: the position is 0, commits transfer, holds release and the raw signals start their period (R168–R178). -/
def State.pwmBoundary (s : State) (g : Nat) (now : Int) : State :=
  let s1 := if s.xferBoundary g then s.pwmTransfer g else s
  let s2 := (s1.modGen g (fun p => { p with t0 := now, prd := s1.getF (Reg.PWMn_PRD g) 0 24, cDone := false, dDone := false }))
  let s3 := ((s2.markClamped g).irq (Pg.PWMn g) 0).judgeLock g
  (((s3.cmpAutoRelease g).releaseTrips g).pwmSegment g 0 now).pwmResume g now

/-- MID at `now` (R168, R170). A PRD transferred here counts from the next BOUNDARY. -/
def State.pwmMid (s : State) (g : Nat) (now : Int) : State :=
  let s1 := if s.xferMid g then s.pwmTransfer g else s
  s1.pwmSegment g ((s1.gen g).prd / 2) now

/-- The counter is put at position `p` at once, and runs (R179, R180). -/
def State.pwmLoad (s : State) (g p : Nat) : State :=
  let now : Int := s.clk.tick
  let prd := s.getF (Reg.PWMn_PRD g) 0 24
  let q := p % max 1 prd
  let s1 := s.modGen g (fun x => { x with running := true, startE0 := false, prd := prd, t0 := now - q })
  if q = 0 then s1.pwmBoundary g now else s1.pwmSegment g q now

/-- The counter stops where it stands and the outputs go to the off level (R185: EN = 0; R65: the clocks stop). -/
def State.pwmStop (s : State) (g : Nat) : State :=
  let t := s.pwmPos g
  let s1 := s.pwmDrop g
  s1.modGen g (fun p => { p with running := false, pos := t, startE0 := false, a := { p.a with raw := false }, b := { p.b with raw := false } })

/-- A RELOCK stops every running generator where it stands (R65). -/
def State.pwmFreeze (s : State) : State :=
  (List.range 12).foldl (fun s g => if (s.gen g).running then (s.pwmStop g).modGen g (fun p => { p with frozen := true }) else s) s

/-- The divided clocks are back: the stopped generators go on from where they stood. -/
def State.pwmThaw (s : State) : State :=
  (List.range 12).foldl (fun s g =>
    if (s.gen g).frozen then (s.modGen g (fun p => { p with frozen := false })).pwmLoad g (s.gen g).pos else s) s

/-- A generator at E0: the first E0 after EN starts a locked one; later ones check its position (R179). -/
def State.pwmE0 (s : State) (g : Nat) : State :=
  if !s.pwmLock g || !s.pwmEn g then s
  else
    let ph := s.getF (Reg.PWMn_EPOCH_PHASE g) 0 24
    let s0 := s.judgeLock g
    let p := s0.gen g
    if p.startE0 || !p.running then (s0.modGen g (fun x => { x with loadE0 := false })).pwmLoad g ph
    else if s0.pwmPos g = ph then s0.modGen g (fun x => { x with loadE0 := false })
    else
      let s1 := if p.loadE0 then s0 else (s0.incSat (Reg.PWMn_LOCK_SLIP_CNT g)).irq (Pg.PWMn g) 4
      (s1.modGen g (fun x => { x with loadE0 := false })).pwmLoad g ph

/-- Fractions staged at E6, or before a transfer point in phasor form: STG_A and STG_B are written and the commit armed (R13, R171). -/
def State.pwmStage (s : State) (g : Nat) (ua ub : Word) : State :=
  (((s.setR (Reg.PWMn_STG_A g) ua).setR (Reg.PWMn_STG_B g) ub).modGen g (fun p => { p with stg := true })).armCommit (Pg.PWMn g)

/-! ## Trips -/

/-- Trip source `k` asserts at generator `g` (R177). -/
def State.pwmTrip (s : State) (k g : Nat) : State :=
  if !s.getB (Reg.PWMn_TRIP_EN g) k then s
  else
    let s1 := if s.getB (Reg.PWMn_TRIP_CBC g) k then s.modGen g (fun p => { p with cbc := true })
      else s.modGen g (fun p => { p with oneShot := 1 })
    let s2 := ((s1.setB (Reg.PWMn_TRIP_STAT g) k true).incSat (Reg.PWMn_TRIP_CNT g)).irq (Pg.PWMn g) 1
    (s2.blockEv (Pg.PWMn g)).pwmDrop g

/-- Trip source `k` asserts: every generator that selects it trips (R177); idle generators of a Cell do not (R182). -/
def State.pwmTripAll (s : State) (k : Nat) : State :=
  (List.range 12).foldl (fun s g => if s.idle (Pg.PWMn g) then s else s.pwmTrip k g) s

/-- Every generator whose block of R178 holds now goes to the off level and waits for a BOUNDARY. -/
def State.pwmBlocks (s : State) : State :=
  (List.range 12).foldl (fun s g => if s.pwmBlocked g then s.pwmDrop g else s) s

/-! ## Views -/

/-- PWMn.STAT (R185). -/
def State.pwmStat (s : State) (g : Nat) : Word :=
  let p := s.gen g
  w32 (fld (s.getR (Reg.PWMn_STAT g)) 4 3 * 16 + 8 * b2n (s.pwmBlocked g) + 4 * b2n p.tripped +
    2 * b2n (bit (s.pwmCnt g) 24) + b2n p.running)

/-- The sum of the bits of a list, bit i for element i. -/
def bitsOf (l : List Bool) : Nat := l.foldr (fun b n => b2n b + 2 * n) 0

/-- PWMC.RUN_STAT (R184). -/
def State.pwmRunStat (s : State) : Word :=
  w32 (bitsOf ((List.range 12).map (fun g => (s.gen g).running)) +
    2 ^ 16 * bitsOf ((List.range 12).map (fun g => (s.gen g).tripped)))

/-- PWMC.BLOCK_STAT (R184): bit 2 while the mode holds some generator. -/
def State.pwmBlockStat (s : State) : Word :=
  let mode := match s.pw.mode with
    | .run => false
    | .armed => (List.range 12).any (fun g => !s.pwmPrecharge g)
    | .dormant | .boot | .configure | .safe => true
  w32 (bitsOf [s.gblock, s.pw.cblock, mode, s.standbyHold, !s.getB Reg.CLK_RPLL_STAT 0])

/-- The level of ball PWMnA or PWMnB: the output while BALL_EN is set and no block holds, then the polarity (R177, R178, R182). -/
def State.pwmBall (s : State) (g : Nat) (b : Bool) : Bool :=
  (s.getB Reg.PWMC_BALL_EN g && ((s.gen g).out b).on && !s.idle (Pg.PWMn g)) != bit (s.getR (Reg.PWMn_CTRL g)) (if b then 10 else 9)

end Sys2Proof.Machine
end

