-- ==== Sys2Proof/Machine/IslOps.lean ====
section
/-! DEFINITION. The drive islands as machines (spec/10_drive_islands.md): commands, blocks, turn-off, holds and views. Their commands
are in Islands.lean. -/
namespace Sys2Proof.Machine

/-- An island after reset: no supplies, no link, everything off. -/
def island0 : Island :=
  { level := false, cmd := false, swin := false, out := false, clamp := false, gateOff := false, soft := none, seqAt := 0, blank := false,
    armed := false, fault := false, typ := 0, scope := false, vddGood := false, veeGood := false, linkOk := false }

/-- Island `n`. -/
def State.isl (s : State) (n : Nat) : Island := SMap.get island0 n s.isls
/-- `s` with island `n` changed. -/
def State.modIsl (s : State) (n : Nat) (f : Island → Island) : State := { s with isls := SMap.set island0 n (f (s.isl n)) s.isls }

/-- The other island of the pair (R194). -/
def partner (n : Nat) : Nat := if n % 2 = 0 then n + 1 else n - 1

def State.islEn (s : State) (n : Nat) : Bool := s.getB (Reg.ISLn_CTRL n) 0
/-- SWINn is the command source; never in the Cell role (R189). -/
def State.islSwin (s : State) (n : Nat) : Bool := s.getB (Reg.ISLn_CTRL n) 1 && decide (s.pw.role ≠ .cell)

/-- The island block: Guard block line, control-domain block, or SAFE (R190). -/
def State.islBlock (s : State) : Bool := s.gblock || s.pw.cblock || decide (s.pw.mode = .safe)

/-- A condition of R189 forces a SWIN-sourced command off (STAT.GATED): the holds of R178 with the island's own PRECHARGE bit. -/
def State.islGated (s : State) (n : Nat) : Bool :=
  s.islSwin n && s.outputHold (s.getB Reg.PWR_PRECHARGE_EN 0 && s.getB Reg.ISLC_PRECHARGE n)

/-- The selected command now, after R189. -/
def State.islLevel (s : State) (n : Nat) : Bool :=
  if s.islSwin n then (s.isl n).swin && !s.islGated n else ((s.gen (n / 2)).out (n % 2 == 1)).on

/-- Pair `g` is held off by the interlock (ILK_STAT[3:0], R194). -/
def State.ilkHeld (s : State) (g : Nat) : Bool := s.getB Reg.ISLC_ILK_STAT g

/-- A rising command does nothing: blocked, faulted or held, disabled, in soft turn-off, or without link or supplies (R188, R190, R197,
R198). -/
def State.islIgnores (s : State) (n : Nat) : Bool :=
  let i := s.isl n
  s.islBlock || i.fault || i.scope || (s.isl (partner n)).fault || !s.islEn n || i.soft.isSome || !i.linkOk || !i.vddGood || !i.veeGood

/-- Soft turn-off of a conducting island starts (R192). -/
def State.softStart (s : State) (n : Nat) : State :=
  if (s.isl n).out then
    s.modIsl n (fun i => { i with out := false, soft := some s.clk.tick, blank := false, armed := false, gateOff := false })
  else s

/-- Soft turn-off of every conducting island (R49, R190). -/
def State.softAll (s : State) : State := (List.range 8).foldl (fun s n => s.softStart n) s

/-- An ordinary turn-off sequence of a conducting island starts (R191). -/
def State.turnOff (s : State) (n : Nat) : State :=
  if (s.isl n).out then s.modIsl n (fun i => { i with out := false, blank := false, armed := false }) else s

/-- The turn-on sequence: the clamp opens, blanking starts and SWITCH_CNT counts (R191, R195). -/
def State.turnOn (s : State) (n : Nat) : State :=
  (s.modIsl n (fun i => { i with out := true, clamp := false, gateOff := false, seqAt := s.clk.tick, blank := true, armed := false })).incMod
    (Reg.ISLn_SWITCH_CNT n)

/-- Every local island that can drive a gate reports it off (R49, R193). -/
def State.islAllOff (s : State) : Bool :=
  (List.range 8).all (fun n => let i := s.isl n; !i.out && i.soft.isNone && (i.gateOff || !i.linkOk || !s.islEn n))

/-- An enabled island without link or with a supply not good refuses ARMED (R188). -/
def State.islRefuse (s : State) : Bool :=
  (List.range 8).any (fun n => s.islEn n && (!(s.isl n).linkOk || !(s.isl n).vddGood || !(s.isl n).veeGood))

/-! ## Views -/

/-- ISLn.STAT (R204). -/
def State.islStat (s : State) (n : Nat) : Word :=
  let i := s.isl n
  w32 (bitsOf [i.cmd, i.linkOk, i.vddGood, i.veeGood, i.out, i.gateOff, i.soft.isSome, i.clamp, s.islGated n, s.islBlock])

/-- ISLn.FAULT_STAT (R204). -/
def State.islFaultStat (s : State) (n : Nat) : Word :=
  let i := s.isl n
  w32 (i.typ + 2 ^ 8 * b2n (s.getB Reg.ISLC_FAULT_FOLLOW n) + 2 ^ 9 * b2n (i.fault || i.scope))

/-- One bit per island. -/
def State.islBits (s : State) (f : Island → Bool) : Nat := bitsOf ((List.range 8).map (fun n => f (s.isl n)))

/-- ISLC.GATE_STAT, LINK_STAT and SUPPLY_STAT (R203). -/
def State.gateStat (s : State) : Word := w32 (s.islBits (·.out) + 2 ^ 8 * s.islBits (·.gateOff) + 2 ^ 16 * s.islBits (·.fault))
/-- ISLC.LINK_STAT (R203). -/
def State.linkStat (s : State) : Word := w32 (s.islBits (·.linkOk) + 2 ^ 8 * s.getF Reg.ISLC_LINK_STAT 8 8)
/-- ISLC.SUPPLY_STAT (R203). -/
def State.supplyStat (s : State) : Word := w32 (s.islBits (·.vddGood) + 2 ^ 8 * s.islBits (·.veeGood))

end Sys2Proof.Machine
end

