-- ==== Sys2Proof/Machine/Line.lean ====
section
/-! DEFINITION. The line coding of a Wiled data lane, bit by bit (R228–R232): scrambler, stuffing, markers and their recognition. -/
namespace Sys2Proof.Machine

/-- One scrambled bit: s(n) = d(n) XOR s(n − 39) XOR s(n − 58); bit 0 of the history is s(n − 1) (R228). -/
def scrambleBit (hist : BitVec 58) (d : Bool) : Bool := (d != hist.getLsbD 38) != hist.getLsbD 57

/-- The history after line bit `b` (R228). -/
def histPush (hist : BitVec 58) (b : Bool) : BitVec 58 := (hist <<< 1) ||| (if b then 1 else 0)

/-- Data bits scrambled (R228). -/
def scramble : BitVec 58 → List Bool → List Bool
  | _, [] => []
  | h, d :: ds => let b := scrambleBit h d; b :: scramble (histPush h b) ds

/-- Line bits descrambled: d(n) = r(n) XOR r(n − 39) XOR r(n − 58) (R228). -/
def descramble : BitVec 58 → List Bool → List Bool
  | _, [] => []
  | h, r :: rs => scrambleBit h r :: descramble (histPush h r) rs

/-- Stuffing: after the tenth identical bit one bit of the complement is inserted, which counts as the first of a new run (R229). -/
def stuff : Bool → Nat → List Bool → List Bool
  | _, _, [] => []
  | last, run, b :: bs =>
    let n := if b = last then run + 1 else 1
    if n = 10 then b :: (!b) :: stuff (!b) 1 bs else b :: stuff b n bs

/-- Destuffing: the bit that follows any ten identical bits is deleted, and the count restarts from it (R229). -/
def destuff : Bool → Nat → List Bool → List Bool
  | _, _, [] => []
  | last, run, b :: bs =>
    if run = 10 then destuff b 1 bs
    else b :: destuff b (if b = last then run + 1 else 1) bs

/-- The 24 marker bits in line order (R231). -/
def markerBits (trip : Bool) : List Bool := List.replicate 12 (!trip) ++ List.replicate 12 trip

/-- The 26 line bits of a marker after the line bit `last`: guards are complements (R231). -/
def markerLine (trip last : Bool) : List Bool := (!last) :: (markerBits trip ++ [!trip])

/-- A run of 12 or 13 identical bits followed by a run of 12 of the other value is a marker (R232): its kind. -/
def markerKind (first : Bool) (n m : Nat) : Option Bool :=
  if (n = 12 ∨ n = 13) ∧ m = 12 then some (!first) else none

/-- A run of `n` identical bits is a code violation: 11, 14 or more, or 12 or 13 that begin no marker (R233). -/
def runViolates (n : Nat) (beginsMarker : Bool) : Bool := decide (n = 11 ∨ 14 ≤ n) || (decide (n = 12 ∨ n = 13) && !beginsMarker)

/-- The bits of bytes, least significant first (R228). -/
def byteBits : List Byte → List Bool
  | [] => []
  | b :: bs => (List.range 8).map b.getLsbD ++ byteBits bs

/-- A bit leaves the transmitter. -/
def LineTx.send (l : LineTx) (b : Bool) : LineTx :=
  { l with last := b, run := if b = l.last then l.run + 1 else 1, ui := l.ui + 1 }

/-- One unit interval of the transmitter: a marker's bits; or an owed stuff bit; or the start of a due marker, TRIP first; or the next
data bit, IDLE fill where no train is under way (R229–R231, R234). -/
def LineTx.step (l : LineTx) : LineTx :=
  match l.raw with
  | b :: r => let m := { l with raw := r }.send b; if r = [] then { m with run := 1, pair := false } else m
  | [] =>
    if l.run = 10 then { (l.send (!l.last)) with stuffed := l.stuffed + 1, run := 1 }
    else if l.trip then
      { l with trip := false, pair := true, raw := (markerLine true l.last ++ markerLine true false).drop 1 }.send (!l.last)
    else if l.start then { l with start := false, raw := (markerLine false l.last).drop 1 }.send (!l.last)
    else
      let b := scrambleBit l.hist (l.data.headD false)
      { l with hist := histPush l.hist b, data := l.data.drop 1 }.send b

/-- `n` unit intervals of the transmitter. -/
def LineTx.run_ (l : LineTx) : Nat → LineTx
  | 0 => l
  | n + 1 => LineTx.run_ l.step n

/-- The transmitter up to unit interval `ui`. -/
def LineTx.to (l : LineTx) (ui : Nat) : LineTx := l.run_ (ui - l.ui)

end Sys2Proof.Machine
end

