-- ==== Sys2Proof/Machine/LaneOps.lean ====
section
/-! DEFINITION. The Wiled lanes as machines (spec/12_wiled_lanes.md). Their commands are in Lanes.lean. -/
namespace Sys2Proof.Machine

/-- A line transmitter as SERVICE starts it (R228). -/
def line0 : LineTx :=
  { hist := BitVec.allOnes 58, last := false, run := 0, raw := [], data := [], trip := false, start := false, pair := false, stuffed := 0, ui := 0 }

/-- A lane after reset. -/
def lane0 : Lane :=
  { owned := false, tx := line0, cdr := false, sync := false, clean := 0, viol := [], tripAt := none, markLast := none, marksOk := 0,
    fomWarn := false, fomFail := false, failRun := 0, okRun := 0, sweepAt := 0, fomFrom := 0, eyeAt := none, par := 0, dirs := 0,
    trial := false, trialAt := 0, eqBefore := 0, fomBefore := 0, fomBest := 0, suspended := false, kept := 0, adPeriods := 0,
    tuneReq := none, tuneCmd := none, tuneDue := false, prbsFrom := none, prbsBits := 0, prbsErrs := 0, prbsRecent := [] }

/-- Lane `n`. -/
def State.lane (s : State) (n : Nat) : Lane := SMap.get lane0 n s.lanes
/-- `s` with lane `n` changed. -/
def State.modLane (s : State) (n : Nat) (f : Lane → Lane) : State := { s with lanes := SMap.set lane0 n (f (s.lane n)) s.lanes }

/-- Even lanes carry data, odd ones the time pattern (R225). -/
def isData (n : Nat) : Bool := n % 2 == 0

/-- Lanes operate: 0–3 alone in the Cell role (R225). -/
def State.laneUsed (s : State) (n : Nat) : Bool := s.awake && !s.idle (Pg.LANEn n)

/-- Mode of a lane (R226). -/
def State.laneMode (s : State) (n : Nat) : Nat := s.getF (Reg.LANEn_CTRL n) 0 2
/-- TEST or LOOPBACK. -/
def State.laneTest (s : State) (n : Nat) : Bool := decide (2 ≤ s.laneMode n)

/-- The transmitter is in electrical idle: OFF or LOOPBACK, and in a Cell until the PLL has locked (R226, R227). -/
def State.txIdle (s : State) (n : Nat) : Bool :=
  decide (s.laneMode n = 0 ∨ s.laneMode n = 3) || (decide (s.pw.role = .cell) && !s.getB Reg.CLK_RPLL_STAT 0)

/-- A data lane sends line bits. -/
def State.lineRuns (s : State) (n : Nat) : Bool := isData n && decide (s.laneMode n = 1) && !s.txIdle n

/-- The transmitter of a data lane catches up with the present (4 UI to an edge tick, R225). -/
def State.lineCatch (s : State) (n : Nat) : State :=
  if s.lineRuns n then s.modLane n (fun l => { l with tx := l.tx.to (4 * s.clk.tick) })
  else s.modLane n (fun l => { l with tx := { l.tx with ui := 4 * s.clk.tick } })

/-- A TRIP request: the pair is sent at the first bit boundary the coding allows; one under way takes no second (R234). -/
def State.lineTrip (s : State) (n : Nat) : State :=
  if s.lineRuns n then (s.lineCatch n).modLane n (fun l => if l.tx.pair then l else { l with tx := { l.tx with trip := true } }) else s

/-- A train leaves at E4, its TRAIN_START in the 26 UI before (R258). -/
def State.lineTrain (s : State) (n : Nat) (bytes : List Byte) : State :=
  if s.lineRuns n then
    s.modLane n (fun l =>
      let t := l.tx.to (4 * s.clk.tick - 26)
      { l with tx := { t with start := true, data := byteBits bytes } })
  else s

/-- Sync is lost: counted, interrupt, entry; only of a data lane in sync (R236). -/
def State.syncLoss (s : State) (n : Nat) : State :=
  if !(s.lane n).sync then s
  else
    let s1 := (s.modLane n (fun l => { l with sync := false, viol := [] })).incSat (Reg.LANEn_SYNC_LOSS_CNT n)
    (s1.blockEv (Pg.LANEn n)).irqLog 2 0 (Pg.LANEn n) 0 []

/-- CDR_LOCK clears, and with it SYNC and the marks (R235, R236). -/
def State.cdrLoss (s : State) (n : Nat) : State :=
  (s.syncLoss n).modLane n (fun l => { l with cdr := false, marksOk := 0, markLast := none })

/-- A mark edge is recognised on time lane `n`, `frac` sixty-fourths of a UI after the present edge tick (R238): counted, its arrival
after local E0 + 2.5 ns recorded; `period` is the spacing expected. -/
def State.laneMark (s : State) (n period frac : Nat) : State :=
  let good := (s.lane n).markLast.any (fun t => decide (((s.clk.tick : Int) - t - period).natAbs ≤ 2))
  let arr : Int := 256 * ((s.clk.tick : Int) - s.clk.e0 - 4) + frac
  let s1 := (s.incMod (Reg.LANEn_MARK_CNT n)).setR (Reg.LANEn_MARK_ARR n) (wInt arr)
  s1.modLane n (fun l => { l with markLast := some s.clk.tick, marksOk := if good then min 2 (l.marksOk + 1) else 0 })

/-- No mark within 2 edge ticks of the expected instant (R238). -/
def State.laneMarkMiss (s : State) (n period : Nat) : State :=
  ((s.incSat (Reg.LANEn_MARK_MISS_CNT n)).irq (Pg.LANEn n) 4).modLane n (fun l =>
    { l with marksOk := 0, markLast := l.markLast.map (· + period) })

/-- A mode change of a lane: SERVICE starts the coder afresh; the receiver starts again (R226, R228). -/
def State.laneModeSet (s : State) (n m : Nat) : State :=
  if s.laneMode n = m then s
  else
    let s1 := (s.cdrLoss n).setF (Reg.LANEn_CTRL n) 0 2 m
    s1.modLane n (fun l => { l with tx := { line0 with stuffed := l.tx.stuffed, ui := 4 * s.clk.tick }, prbsFrom := none, eyeAt := none,
                                    sweepAt := s.clk.tick })

/-- LANEn.STAT (R247). -/
def State.laneStat (s : State) (n : Nat) : Word :=
  let l := s.lane n
  w32 (b2n l.cdr + 2 * b2n l.sync + 4 * b2n (!isData n && decide (2 ≤ l.marksOk)) + 8 * b2n l.fomWarn + 16 * b2n l.fomFail +
    32 * b2n l.owned + 64 * b2n (s.txIdle n) + 128 * b2n l.prbsFrom.isSome + 256 * s.laneMode n)

/-- ADAPT_STAT (R247). -/
def State.adaptStat (s : State) (n : Nat) : Word :=
  let l := s.lane n
  w32 (l.par % 16 + 16 * b2n l.trial + 32 * b2n l.suspended + 2 ^ 8 * l.fomBefore + 2 ^ 16 * (l.kept % 2 ^ 16))

/-- Bits checked by the PRBS checker, of 48 bits (R245). -/
def State.prbsBits (s : State) (n : Nat) : Nat :=
  let l := s.lane n
  min (2 ^ 48 - 1) (l.prbsBits + (l.prbsFrom.map (fun t => 4 * (s.clk.tick - t))).getD 0)

/-- STUFF_CNT now (R247). -/
def State.stuffCnt (s : State) (n : Nat) : Word := if isData n then w32 ((s.lineCatch n).lane n).tx.stuffed else 0

/-- The lowest FOM of lanes 0–3 (R255). -/
def State.fomLow (s : State) : Nat :=
  min (min (s.getF (Reg.LANEn_FOM 0) 0 8) (s.getF (Reg.LANEn_FOM 1) 0 8)) (min (s.getF (Reg.LANEn_FOM 2) 0 8) (s.getF (Reg.LANEn_FOM 3) 0 8))

end Sys2Proof.Machine
end

