-- ==== Sys2Proof/Machine/RingOps.lean ====
section
/-! DEFINITION. Rings, the ring plan and the cell directory as data (spec/13_rings_trains_cells.md): which rings are in service, what the
plan says, the timing bounds, and the formats a train is made of. -/
namespace Sys2Proof.Machine

/-! ## Rings and directory entries -/

/-- A ring after reset. -/
def ring0 : Ring :=
  { st := 0, training := false, rejoining := false, rejoined := false, nFound := 0, breakPos := 0xFF, retrain := false, peer := false,
    section_ := false, serveB := false, hN := 0, txA := [], txB := [], sent := false, ret := [], iqWait := none, iqOut := none, tag := 0,
    own := [], slowNext := 0, tune := 0, heard := false, echo := [] }

/-- Ring `n`. -/
def State.ring (s : State) (n : Nat) : Ring := SMap.get ring0 n s.rings
/-- `s` with ring `n` changed. -/
def State.modRing (s : State) (n : Nat) (f : Ring → Ring) : State := { s with rings := SMap.set ring0 n (f (s.ring n)) s.rings }

/-- An EMPTY directory entry. -/
def dir0 : DirEntry :=
  { st := 0, gen := 0, bypassed := false, age := 0, uid := 0, known := false, ind := [], pcnt := 0, h := 0, f := 0, fB := 0, icrcFails := 0,
    xcrcFails := 0 }

/-- Directory entry `i` (R271). -/
def State.dir (s : State) (i : Nat) : DirEntry := SMap.get dir0 i s.dirs
/-- `s` with an entry changed. -/
def State.modDir (s : State) (i : Nat) (f : DirEntry → DirEntry) : State := { s with dirs := SMap.set dir0 i (f (s.dir i)) s.dirs }
/-- The plan holds a cell there: its handle names an object (R40, R271). -/
def DirEntry.exists_ (e : DirEntry) : Bool := decide (e.st ≠ 0)

/-- STATUS of the last valid Indicative part, 0 before one (R255). -/
def DirEntry.status (e : DirEntry) : Nat := leNat (e.ind.take 2)
/-- Bit `b` of that STATUS. -/
def DirEntry.statusBit (e : DirEntry) (b : Nat) : Bool := e.status.testBit b
/-- The mode the cell reported last; 0 where none (R253). -/
def DirEntry.mode (e : DirEntry) : Nat := e.status % 8

/-- An entry takes state `st` (R271, R279: counted, and IRQ_RAW bit 0). -/
def State.dirState (s : State) (i st : Nat) : State :=
  if (s.dir i).st = st then s else ((s.modDir i (fun e => { e with st := st })).blockEv Pg.CELLS).irq Pg.CELLS 0

/-! ## The ring plan (R261) -/

/-- The byte of a plan body at image offset 0x60 + `o`. -/
def planByte (b : SMap Byte) (o : Nat) : Nat := (SMap.get 0 o b).toNat
/-- The 16-bit field there. -/
def planHalf (b : SMap Byte) (o : Nat) : Nat := planByte b o + 256 * planByte b (o + 1)
/-- The 32-bit field there. -/
def planFull (b : SMap Byte) (o : Nat) : Word := w32 (planHalf b o + 65536 * planHalf b (o + 2))

/-- APPLY_PHASE of a plan. -/
def planApply (b : SMap Byte) : Nat := planByte b 0
/-- RING_EN bit `n`. -/
def planRing (b : SMap Byte) (n : Nat) : Bool := (planByte b 1).testBit n
/-- SLOTS of ring `n`. -/
def planSlots (b : SMap Byte) (n : Nat) : Nat := planByte b (8 + 8 * n)
/-- TAIL of ring `n`: 0 open, 1 own tail, 2 peer. -/
def planTail (b : SMap Byte) (n : Nat) : Nat := planByte b (9 + 8 * n) % 4
/-- TAIL_PORT. -/
def planTailPort (b : SMap Byte) (n : Nat) : Nat := planByte b (9 + 8 * n) / 16 % 8
/-- HOP_NS. -/
def planHop (b : SMap Byte) (n : Nat) : Nat := planByte b (10 + 8 * n)
/-- ECHO_N. -/
def planEchoN (b : SMap Byte) (n : Nat) : Nat := planByte b (11 + 8 * n)
/-- POS[i]. -/
def planPos (b : SMap Byte) (i : Nat) : Word := planFull b (0x80 + 4 * i)
/-- CARRIER[c][b][j]. -/
def planCarrier (b : SMap Byte) (c k j : Nat) : Nat := planHalf b (0xC80 + ((c * 5 + k) * 128 + j) * 2)
/-- ECHO[n][e]. -/
def planEcho (b : SMap Byte) (n e : Nat) : Word := planFull b (0x2A80 + (52 * n + e) * 4)

/-- The plan body in force; all zeros before one is. -/
def State.body (s : State) : SMap Byte := if s.plan.inForce then s.plan.body else []

/-- The plan in force enables ring `n`. -/
def State.ringPlanned (s : State) (n : Nat) : Bool := planRing s.body n
/-- SLOTS of ring `n`, 0 where it is not enabled. -/
def State.slots (s : State) (n : Nat) : Nat := if s.ringPlanned n then planSlots s.body n else 0
/-- POS[i] in force. -/
def State.pos (s : State) (i : Nat) : Word := planPos s.body i
/-- OW of position `i`. -/
def State.posOw (s : State) (i : Nat) : Nat := fld (s.pos i) 0 16
/-- The cluster of position `i`: 7 for none. -/
def State.posCluster (s : State) (i : Nat) : Nat := fld (s.pos i) 16 3
/-- The twin partner, if any. -/
def State.posTwin (s : State) (i : Nat) : Option Nat := if fld (s.pos i) 20 10 = 0x3FF then none else some (fld (s.pos i) 20 10)
/-- The photovoltaic member of a twin. -/
def State.posPv (s : State) (i : Nat) : Bool := bit (s.pos i) 19

/-- A body plans a cell at mirror index `i`: its ring is enabled, the position exists, and OW names a word (R261). -/
def planCell (b : SMap Byte) (i : Nat) : Bool :=
  planRing b (i / 96) && decide (i % 96 < planSlots b (i / 96)) && decide (fld (planPos b i) 0 16 ≠ 0xFFFF)

/-- The bus-side member of a twin: it has a partner that is the photovoltaic one (R128, R261). -/
def State.busSideMember (s : State) (i : Nat) : Bool := !s.posPv i && (s.posTwin i).any (fun p => s.posPv p)

/-- The entry a BYPASS command for position `i` acts on: of a twin the bus-side member only (R289). -/
def State.bypassTarget (s : State) (i : Nat) : Nat := if s.posPv i then (s.posTwin i).getD i else i

/-! ## Service -/

/-- Ring `n` is enabled on its page and by the plan. -/
def State.ringOn (s : State) (n : Nat) : Bool := s.getB (Reg.RINGn_CFG n) 0 && s.ringPlanned n

/-- Ring `n` is in service: TRAINED or SPLIT. -/
def State.ringIn (s : State) (n : Nat) : Bool := s.ringOn n && decide ((s.ring n).st = 3 ∨ (s.ring n).st = 4)

/-- This device sends the trains of ring `n`, or of its B section: a Wellhead that found no other serving, a standby that took over or
serves the section (R269, R276, R277); a Cell never. -/
def State.serves (s : State) (n : Nat) : Bool :=
  match s.pw.role with
  | .cell => false
  | .standby => s.stb.active || (s.ring n).section_
  | .wellhead | .test => !(s.ring n).peer

/-- The data lanes this device's trains of ring `n` leave by: its own port, and in split service with an own tail the tail port too
(R248, R266, R267). -/
def State.serveLanes (s : State) (n : Nat) : List Nat :=
  2 * n :: (if (s.ring n).st = 4 ∧ planTail s.body n = 1 ∧ s.pw.role ≠ .standby then [2 * planTailPort s.body n] else [])

/-- The ring whose own tail port `p` is, if any (R248). -/
def State.tailRing (s : State) (p : Nat) : Option Nat :=
  (List.range 8).find? (fun m => decide (m ≠ p) && s.ringOn m && decide (planTail s.body m = 1 ∧ planTailPort s.body m = p))

/-- TRIP on every ring in service that this device serves (R49, R266). -/
def State.tripAllRings (s : State) : State :=
  (List.range 8).foldl (fun s n =>
    if s.ringIn n && s.serves n then (s.serveLanes n).foldl (fun s l => s.lineTrip l) s else s) s

/-! ## Timing bounds (R258, R260), in eighths of a nanosecond -/

/-- E5 after E4 for trains from the A end. -/
def e5A (n hop : Nat) : Nat := 8 * (44 + 44 * n + hop * n)
/-- E5 after E4 for trains from the B end: the largest over the positions. -/
def e5B (n hop : Nat) : Nat := 8 * max (88 + hop * n) (88 + 44 * (n - 1) + hop)
/-- Last byte back after E4: L bytes of 1.375 ns and two hops for each of N + 1 − b. -/
def e5Back (n hop : Nat) (open_ : Bool) : Nat := 11 * (292 + 32 * n) + 16 * hop * (n + 1 - b2n open_)

/-- The larger E5 of ring `n` of a plan; the B end counts where it is not open, a peer's later by ALIGN_TOL. -/
def State.e5Of (s : State) (b : SMap Byte) (n : Nat) : Nat :=
  let k := planSlots b n
  let hop := planHop b n
  match planTail b n with
  | 0 => e5A k hop
  | 1 => max (e5A k hop) (e5B k hop)
  | _ => max (e5A k hop) (e5B k hop + 8 * s.getF Reg.TIME_EPOCH_CTRL 1 15)

/-- A plan and an OUT_PHASE agree: 1 ≤ OUT_PHASE < APPLY_PHASE ≤ 255 (R10), and for each ring enabled E5 is no later than E6 and the
last byte no later than the next E0 (R260). -/
def State.phasesFit (s : State) (b : SMap Byte) (out : Nat) : Bool :=
  let ap := planApply b
  decide (1 ≤ out ∧ out < ap ∧ ap ≤ 255) &&
    (List.range 8).all (fun n => !planRing b n ||
      (decide (5 * s.stepTick out + s.e5Of b n ≤ 5 * s.stepTick ap) &&
        decide (5 * s.stepTick out + e5Back (planSlots b n) (planHop b n) (decide (planTail b n = 0)) ≤ 5 * s.period)))

/-- A schedule with this OUT_PHASE does not go with the plan in force or the staged one (R10, R260). -/
def State.phaseConflict (s : State) (out : Nat) : Option Nat :=
  if s.plan.inForce && !s.phasesFit s.plan.body out then some (planApply s.plan.body)
  else if s.plan.staged && !s.phasesFit s.plan.next out then some (planApply s.plan.next)
  else none

/-! ## Echo lists (R126, R275) -/

/-- The echo lists of the plan in force name an item of a space (space 2: profile `i`, space 3: tracker `i`), on a device that takes its
echo. -/
def State.echoNamed (s : State) (space i : Nat) : Bool :=
  decide (s.pw.role = .standby) && !s.stb.active &&
    (List.range 8).any (fun n => s.ringPlanned n && (List.range (planEchoN s.body n)).any (fun e =>
      let w := planEcho s.body n e
      decide (fld w 30 2 = space ∧ fld w 0 18 / 4 = i)))

/-! ## Number formats (R252) -/

/-- 1/(2π) × 2^320, rounded down. -/
def invTwoPi320 : Nat := 0x28be60db9391054a7f09d5f47d4d377036d8a5664f10e4107f9458eaf7aef1586dc91b8e909374b8

/-- floor of frac(x / 2π) × 2^(k + 1), of a binary32 word; 0 for a NaN or an infinity (R252). -/
def turnCodeFloor (k : Nat) (x : Word) : Nat :=
  match fdec x with
  | .fin sg m e =>
    let v := if 0 ≤ e then m * 2 ^ e.toNat * invTwoPi320 * 2 ^ (k + 1) / 2 ^ 320 else m * invTwoPi320 * 2 ^ (k + 1) / 2 ^ (320 + (-e).toNat)
    let r := v % 2 ^ (k + 1)
    if sg && decide (m ≠ 0) then 2 ^ (k + 1) - 1 - r else r
  | _ => 0

/-- round(frac(x / 2π) × 2^k) mod 2^k (R252). -/
def turnCode (k : Nat) (x : Word) : Nat := (turnCodeFloor k x + 1) / 2 % 2 ^ k

/-- round(clamp(x, −1, 1) × 32,768), saturated to 0x7FFF; a NaN gives 0 (R252). -/
def q15Of (x : Word) : BitVec 16 :=
  match fdec x, fdec (fclampW x 0xBF800000 0x3F800000) with
  | .nan, _ => 0
  | _, .fin sg m e =>
    let v := if 0 ≤ e then m * 2 ^ e.toNat * 32768 else rneShift (m * 32768) (-e).toNat
    if sg then BitVec.ofInt 16 (-(min v 32768 : Nat)) else BitVec.ofNat 16 (min v 32767)
  | _, _ => 0

/-- q15() of R287: 0x7FFF reads as exactly 1.0. -/
def q15Val (x : BitVec 16) : FVal :=
  if x = 0x7FFF then .fin false 1 0 else .fin (decide (x.toInt < 0)) x.toInt.natAbs (-15)

/-! ## Indicative parts (R255) -/

/-- Signed 16-bit field of an Indicative part. -/
def indS (ind : List Byte) (o : Nat) : Int := (BitVec.ofNat 16 (leNat ((ind.drop o).take 2))).toInt
/-- Unsigned 16-bit field. -/
def indU (ind : List Byte) (o : Nat) : Int := leNat ((ind.drop o).take 2)

/-- The measurement of array q in units of 1/1000: VDC, IDC, IAC, VAUX, TEMP0, TEMP1 (R255). -/
def indMilli (ind : List Byte) (q : Nat) : Int :=
  match q with
  | 0 => 50 * indU ind 2
  | 1 => 100 * indS ind 4
  | 2 => 100 * indS ind 6
  | 3 => indU ind 8
  | 4 => 10 * indS ind 10
  | _ => 10 * indS ind 12

/-! ## Views -/

/-- RINGn.STAT (R278). -/
def State.ringStat (s : State) (n : Nat) : Word :=
  let r := s.ring n
  w32 (r.st % 8 + 16 * b2n r.serveB + 32 * b2n r.section_ + 64 * b2n r.peer + 128 * b2n r.retrain + 2 ^ 8 * (r.nFound % 256) +
    2 ^ 16 * (r.breakPos % 256))

/-- CELLS.CELL_VIEW[i] (R279). -/
def State.cellView (s : State) (i : Nat) : Word :=
  let e := s.dir i
  w32 (e.st + 8 * b2n e.bypassed + 16 * b2n (e.statusBit 5) + 32 * b2n (e.statusBit 4) + 64 * b2n (e.statusBit 6) + 2 ^ 8 * e.gen +
    2 ^ 16 * e.age)

end Sys2Proof.Machine
end

