-- ==== Sys2Proof/Machine/CellOps.lean ====
section
/-! DEFINITION. The CELL block as data (spec/14_cell_role.md): timing side, status, FAULT code and the bypass sequence. -/
namespace Sys2Proof.Machine

/-! ## Timing side (R19, R73, R263, R268) -/

/-- The cell takes its timing from port 1 (STATUS.SRC_B). -/
def State.srcB (s : State) : Bool := s.clk.tlPort == some true

/-- Training has written an E0 delay (R280). -/
def State.cellTrained (s : State) : Bool := s.getB Reg.CELL_POSITION 15

/-- The E0 delay in 1/64 UI: that of the timing side less the DRIFT received, and 0 before training (R263, R280). -/
def State.e0Delay (s : State) : Nat :=
  if s.cellTrained then ((s.getR (if s.srcB then Reg.CELL_E0_DLY_B else Reg.CELL_E0_DLY_A)).toNat - s.cell.drift).toNat else 0

/-- The data lane on the serving side (R19, R266). -/
def State.servingLane (s : State) : Nat := if s.srcB then 2 else 0

/-- Timing changes to the other port at once: the facing reverses and no slip is counted (R268). -/
def State.swapSides (s : State) (port : Bool) : State :=
  let lane := if port then 3 else 1
  (({ s with clk.tlPort := some port, clk.tlLast := (s.lane lane).markLast, clk.tlMisses := 0, clk.tlSpacing := none,
             clk.tlTaken := s.clk.tick, cell.drift := 0 }).setB Reg.TIME_CELL_TL 0 port).setB Reg.CELL_POSITION 8 port

/-! ## Status -/

/-- CELL.STAT (R296). -/
def State.cellStat (s : State) : Word :=
  let c := s.cell
  w32 (b2n c.applied + 2 * b2n c.digestOk + 4 * b2n c.coast + 8 * b2n c.coastBlock + 16 * b2n c.blocked + 32 * b2n c.phasor +
    64 * b2n c.stale + 2 ^ 8 * c.c)

/-- CELL.BYP_STAT (R296). -/
def State.bypStat (s : State) : Word :=
  w32 (b2n s.cell.bypOn + 2 * b2n s.cell.bypClosed + 4 * b2n s.cell.autoHeld + 8 * b2n s.cell.bypWait)

/-! ## FAULT code and bypass (R292, R293) -/

/-- A close request: unless PWM11A is asserted or the sequence waits, generators 0 to 3 are held off and it waits for the gates. -/
def State.bypClose (s : State) (auto : Bool) : State :=
  let s1 := { s with cell.autoHeld := s.cell.autoHeld || auto }
  if s1.cell.bypOn || s1.cell.bypWait then s1
  else ({ s1 with cell.bypWait := true, cell.gateTick := s1.clk.tick }).pwmBlocks

/-- A latched FAULT code of 0x10 to 0x7F with AUTO = 1 asks for the bypass (R293). -/
def State.bypAuto (s : State) : State :=
  let f := s.getF Reg.CELL_FAULT_CODE 0 8
  if s.getB Reg.CELL_BYP_CFG 2 && decide (0x10 ≤ f ∧ f ≤ 0x7F) then s.bypClose true else s

/-- A FAULT cause in a Cell: latched if none is (R292). -/
def State.cellFault (s : State) (code : Nat) : State :=
  if s.pw.role ≠ .cell ∨ s.getF Reg.CELL_FAULT_CODE 0 8 ≠ 0 then s
  else (s.setR Reg.CELL_FAULT_CODE (w32 (code % 256))).bypAuto

/-- CMD.BYPASS = 0 in a part taken: the bypass opens, and a waiting sequence ends, unless an automatic closure is held (R293). -/
def State.bypOpen (s : State) : State :=
  if s.cell.autoHeld then s
  else
    let s1 := { s with cell.bypOn := false, cell.bypWait := false, cell.bypLate := false }
    s1.irqIf s.cell.bypOn Pg.CELL 2

/-- Every enabled island shows GATE_OFF (R293). -/
def State.gatesOff (s : State) : Bool := (List.range 8).all (fun n => !s.islEn n || (s.isl n).gateOff)

/-- The level of ball PWM11A in the Cell role: asserted at the level set by POL (R293). -/
def State.bypassBall (s : State) : Bool := s.cell.bypOn != s.getB Reg.CELL_BYP_CFG 0

/-! ## Sump angle for COMP (R138, R284) -/

/-- The reference angle of the cell at its E0, and its angular frequency: the step over T_S. -/
def State.cellAngle (s : State) : Word × Word := (s.sumpW 8, (fdivW (s.sumpW 10) (s.sumpW 3)).w)

end Sys2Proof.Machine
end

