-- ==== Sys2Proof/Machine/Modes.lean ====
section
/-! DEFINITION. The mode machine (spec/03_modes_power_up.md): entry to SAFE, mode requests and their conditions, clearance, and the
causes other blocks bring. Power and resets are in Power.lean. -/
namespace Sys2Proof.Machine

/-- Code of a mode (R45); DORMANT, which is never read, as 0. -/
def modeCode : Mode → Nat
  | .dormant => 0
  | .boot => 1
  | .configure => 2
  | .armed => 3
  | .run => 4
  | .safe => 5

/-! ## Causes -/

/-- Bits of PWR.SAFE_CAUSE (R59). -/
abbrev SafeCause.guard : Nat := 0
abbrev SafeCause.host : Nat := 1
abbrev SafeCause.bootFatal : Nat := 2
abbrev SafeCause.priorActive : Nat := 3
abbrev SafeCause.rpllUnlock : Nat := 4
abbrev SafeCause.guardLost : Nat := 5
abbrev SafeCause.timelaneLost : Nat := 6
abbrev SafeCause.ctrlFault : Nat := 7
abbrev SafeCause.wellhead : Nat := 8

/-- A fault that another chapter names as a SAFE cause persists: an island fault with SAFE_ON, a masked comparator latch of a Cell, or a
cluster beyond four bypasses. -/
def State.ctrlFaultActive (s : State) : Bool :=
  (s.getB Reg.ISLC_FAULT_CFG 1 && (List.range 8).any (fun n => (s.isl n).fault)) ||
    (decide (s.pw.role = .cell) && decide (s.getF Reg.CMP_LATCH 0 16 &&& s.getF Reg.CELL_LPROT_CFG 0 16 ≠ 0)) ||
    (List.range 6).any (fun c => decide (4 < s.getF Reg.CELLS_BYP_CNT (4 * c) 4))

/-- PWR.SAFE_ACTIVE (R59, R338): a cause while it persists. -/
def State.safeActive (s : State) : Nat :=
  let latched (b : Nat) : Bool := s.getB Reg.PWR_SAFE_CAUSE b
  b2n (decide (s.getR Reg.GRD_TRIP_LATCH ≠ 0)) + 4 * b2n s.pw.bootFatal +
    16 * b2n (latched 4 && !s.getB Reg.CLK_RPLL_STAT 0) + 32 * b2n s.pw.guardLost +
    64 * b2n (latched 6 && decide (s.clk.tlPort = none ∨ 2 ≤ s.clk.tlMisses)) +
    128 * b2n (latched 7 && s.ctrlFaultActive) + 256 * b2n (latched 8 && s.cell.safeCmd)

/-! ## Entry to SAFE (R48, R49) -/

/-- What every transition does: the Keeper's record, the dwell count, CLEARED, interrupt and count (R46, R52, R58, R59); a seal session
does not outlive CONFIGURE (R349). -/
def State.enterMode (s : State) (m : Mode) : State :=
  let s1 := if s.pw.mode = .configure then s.sealLeave else s
  (((({ s1 with pw.mode := m, pw.clearedAt := none, pw.clearFirst := none, kp.modeRec := m }).setR Reg.PWR_MODE_SINCE 0).irq Pg.PWR
    0).blockEv Pg.PWR)

/-- Entry to SAFE with a cause: at once, with the control-domain block, soft turn-off of every conducting island, TRIP on the rings, the
pending request cleared, and an entry. In SAFE the cause is latched beside the others (R48, R49, R57). -/
def State.enterSafe (s : State) (cause : Nat) : State :=
  match s.pw.mode with
  | .dormant => s
  | .safe => s.setB Reg.PWR_SAFE_CAUSE cause true
  | .boot | .configure | .armed | .run =>
    let old := modeCode s.pw.mode
    let s1 := (s.setB Reg.PWR_SAFE_CAUSE cause true).setR Reg.PWR_MODE_CMD 7
    let s2 := { (s1.enterMode .safe) with pw.cblock := true, pw.softOff := false, pw.safeNew := true, pw.safeAt := s.clk.tick,
                                          cell.reqWord := false }
    let s3 := s2.irqLog 3 2 Pg.PWR 0 [(1, old), (1, 5), (2, s2.getF Reg.PWR_SAFE_CAUSE 0 9)]
    ((s3.softAll).pwmBlocks).tripAllRings

/-- The word at a host address is one whose loss stops the plant: the active schedule bank, the active half of Table RAM, the Sump, or a
Reservoir region (R412). -/
def State.criticalWord (s : State) (a : Nat) : Bool :=
  (s.pump.inForce && decide (strokeAddr s.pump.active 0 ≤ a ∧ a < strokeAddr s.pump.active 8192)) ||
    (List.range 8).any (fun k =>
      let b := tableBase + 0x8000 * b2n (s.tab.active.getLsbD k) + 0x1000 * k
      decide (b ≤ a ∧ a < b + 0x1000)) ||
    decide (0x430000 ≤ a ∧ a < 0x431000) ||
    (List.range 8).any (fun r =>
      let b := sramBase + 4 * s.getF (Reg.PUMP_RES_BASE r) 0 18
      let n := s.getF (Reg.PUMP_RES_LEN r) 0 18
      decide (b ≤ a + 7 ∧ a < b + 4 * (if r = 7 then 2 * n else n)))

/-- An uncorrectable memory error found at `a` (R412). -/
def State.ueFound (s : State) (a : Nat) : State :=
  let s1 := ((s.incSat Reg.TEST_UE_CNT).setR Reg.TEST_UE_ADDR (w32 a)).irqLog 2 1 Pg.TEST 0 []
  if (s.pw.mode = .armed ∨ s.pw.mode = .run) ∧ s.criticalWord a then s1.enterSafe SafeCause.ctrlFault else s1

/-- A comparator latch selected in LPROT_CFG.MASK sets in ARMED or RUN: a local trip (R292). -/
def State.localTrip (s : State) (n : Nat) : State :=
  if s.pw.role = .cell ∧ (s.pw.mode = .armed ∨ s.pw.mode = .run) ∧ s.getB Reg.CELL_LPROT_CFG n then
    let s1 := ((s.cellFault (0x10 + n)).setB Reg.CELL_LPROT_STAT n true).incSat Reg.CELL_LPROT_CNT
    (s1.irqLog 3 1 Pg.CELL 0 [(1, n)]).enterSafe SafeCause.ctrlFault
  else s

/-- The request line RIDE holds to the Guard: in TRIP_REQUEST (R156). -/
def State.rideReqLine (s : State) : Bool := decide (s.ride.sub = 4)
/-- The request line ISLD holds to the Guard (R160). -/
def State.isldReqLine (s : State) : Bool := s.isld.req

/-- The request line of code 16 + `r` as the Guard sees it: RIDE, ISLD, or a GOOSE transfer-trip bit (R329, R333). -/
def State.guardReq (s : State) (r : Nat) : Bool :=
  match r with
  | 0 => bit (s.profW 0x7C) 0 && s.rideReqLine
  | 1 => bit (s.profW 0x7C) 1 && s.isldReqLine
  | _ => bit (s.profW 0x7C) 2 && decide (s.getF Reg.GRD_GOOSE_IN 0 8 &&& fld (s.profW 0x7C) 8 8 ≠ 0)

/-- The tick since which a request line has been held: kept while it is, taken now when it comes (R335). -/
def State.heldSince (s : State) (r : Nat) (old : Option Nat) : Option Nat :=
  if s.guardReq r then (match old with | some t => some t | none => some s.clk.tick) else none

/-- The Guard follows its three request lines (R335). -/
def State.guardReqs (s : State) : State :=
  { s with grd.reqRide := s.heldSince 0 s.grd.reqRide, grd.reqIsld := s.heldSince 1 s.grd.reqIsld, grd.reqTt := s.heldSince 2 s.grd.reqTt }

/-! ## Requests (R46, R47, R50) -/

/-- Every ring enabled here and by the plan is trained. -/
def State.ringsTrained (s : State) : Bool := (List.range 8).all (fun n => !s.ringOn n || s.ringIn n)

/-- Every cell in service reports ARMED and its limit digest. -/
def State.cellsArmed (s : State) : Bool := s.dirs.all (fun e => decide (e.2.st ≠ 4) || (decide (e.2.mode = 3) && e.2.statusBit 6))

/-- HB_T is not above the period while the heartbeat is enabled (R336). -/
def State.hbShort (s : State) : Bool :=
  bit (s.profW 0x8C) 16 && decide (fld (s.profW 0x8C) 0 14 * 8000 ≤ s.period * 5)

/-- The conditions of REFUSE_WHY bits [12:0] that fail now (R59; in the Cell role R281). -/
def State.why (s : State) : Nat :=
  let cell := decide (s.pw.role = .cell)
  let two (k : Nat) (b : Bool) : Nat := 2 ^ k * b2n b
  two 0 (!cell && (!s.pump.inForce || (s.lay s.pump.active).unverified)) +
    two 1 (decide (s.pw.role = .wellhead ∨ s.pw.role = .standby) && !s.plan.inForce) +
    two 2 (!cell && (!s.grd.profileOk || s.hbShort)) + two 3 (decide (s.pw.role = .test)) + two 4 (!s.getB Reg.CLK_RPLL_STAT 0) +
    two 5 s.islRefuse + two 6 (decide (s.safeActive ≠ 0)) + two 8 (!cell && decide (s.sealNow ≠ fld (s.profW 0x68) 0 16)) +
    two 9 (decide (s.getR Reg.GRD_TRIP_LATCH ≠ 0) || (!cell && !s.safetyHealthy)) +
    two 10 (if cell then !s.cellTrained else !s.ringsTrained) + two 11 (if cell then !s.cell.digestOk else !s.cellsArmed) +
    two 12 (decide (s.getR Reg.PWR_MODE_SINCE = 0))

/-- A transition that R46 permits, at E0: interrupt, count and entry; SAFE to CONFIGURE clears SAFE_CAUSE and the block (R46, R58). -/
def State.transition (s : State) (m : Mode) : State :=
  let old := modeCode s.pw.mode
  let cause := s.getF Reg.PWR_SAFE_CAUSE 0 9
  let leaving := decide (s.pw.mode = .safe)
  let s1 := s.enterMode m
  let s2 := if leaving then ({ s1 with pw.cblock := false, pw.softOff := false }).setR Reg.PWR_SAFE_CAUSE 0 else s1
  (s2.logE 5 (some 0) Pg.PWR 0 [(1, old), (1, modeCode m), (2, cause)]).pwmBlocks

/-- A request is refused: REFUSE_WHY, interrupt and entry (R47); a repeated refusal of the command word counts instead (R253). -/
def State.refuseReq (s : State) (req why : Nat) : State :=
  let s1 := (s.setR Reg.PWR_REFUSE_WHY (w32 why)).irq Pg.PWR 1
  if s.cell.reqWord && decide (s.cell.lastRefusal = some (req, why)) then s1.refuse Pg.PWR
  else
    let s2 := if s.cell.reqWord then { s1 with cell.lastRefusal := some (req, why) } else s1
    s2.logE 1 (some 1) Pg.PWR 0 [(1, req), (2, why)]

/-- A transition wanted, with the conditions it needs clear. -/
def State.tryMode (s : State) (req mask : Nat) (m : Mode) : State :=
  let w := s.why &&& mask
  if w = 0 then s.transition m else s.refuseReq req w

/-- The request `req` judged against the mode in force (R46, R47). -/
def State.judgeReq (s : State) (req : Nat) : State :=
  if req = 0 ∨ req = 1 ∨ req = 6 then s.refuseReq req 0x8000
  else if req = modeCode s.pw.mode then s
  else if req = 5 then s.enterSafe SafeCause.host
  else match s.pw.mode, req with
    | .safe, 2 => if s.pw.clearedAt.isSome then s.transition .configure else s.refuseReq req 0x4000
    | .configure, 3 => s.tryMode req 0x27F .armed
    | .armed, 4 => s.tryMode req 0x1FFF .run
    | .run, 3 => s.transition .armed
    | .armed, 2 => s.transition .configure
    | _, _ => s.refuseReq req 0x2000

/-- Part (2d) of step (2) of R15: the pending request is judged, and MODE_CMD returns to 7 (R47). -/
def State.modeEval (s : State) : State :=
  let req := s.getF Reg.PWR_MODE_CMD 0 3
  if req = 7 then s
  else
    let s1 := (s.judgeReq req).setR Reg.PWR_MODE_CMD 7
    { s1 with cell.reqWord := false }

/-- A write of REQ to MODE_CMD (R47, R50): SAFE acts at once outside BOOT; in the Cell role only SAFE, CONFIGURE while in SAFE, and the
cancel are taken. -/
def State.modeCmdOp (s : State) (req : Nat) : State :=
  if s.pw.role = .cell ∧ req ≠ 5 ∧ req ≠ 7 ∧ ¬ (req = 2 ∧ s.pw.mode = .safe) then s.refuseReq req 0x2000
  else
    let s1 := { (s.setR Reg.PWR_MODE_CMD (w32 req)) with cell.reqWord := false }
    if req = 5 then
      match s.pw.mode with
      | .configure | .armed | .run => s1.enterSafe SafeCause.host
      | .safe => if s.pw.safeAt = s.clk.tick then (s1.setB Reg.PWR_SAFE_CAUSE SafeCause.host true).setR Reg.PWR_MODE_CMD 7 else s1
      | .dormant | .boot => s1
    else s1

/-- MODE_REQUEST_CONFIGURE (R47). -/
def execModeRequestConfigure (s : State) : Host.Outcome State Fault Refusal := hostCmd s Pg.PWR (fun s => s.modeCmdOp 2)
/-- MODE_REQUEST_ARMED (R47). -/
def execModeRequestArmed (s : State) : Host.Outcome State Fault Refusal := hostCmd s Pg.PWR (fun s => s.modeCmdOp 3)
/-- MODE_REQUEST_RUN (R47). -/
def execModeRequestRun (s : State) : Host.Outcome State Fault Refusal := hostCmd s Pg.PWR (fun s => s.modeCmdOp 4)
/-- MODE_REQUEST_SAFE (R48). -/
def execModeRequestSafe (s : State) : Host.Outcome State Fault Refusal := hostCmd s Pg.PWR (fun s => s.modeCmdOp 5)
/-- MODE_REQUEST_CANCEL (R47). -/
def execModeRequestCancel (s : State) : Host.Outcome State Fault Refusal := hostCmd s Pg.PWR (fun s => s.modeCmdOp 7)
/-- MODE_REQUEST_BAD_CODE (R47): of the codes given only 0, 1 and 6 are bad ones; another is its own request. -/
def execModeRequestBadCode (req : BitVec 3) (s : State) : Host.Outcome State Fault Refusal :=
  hostCmd s Pg.PWR (fun s => s.modeCmdOp req.toNat)

/-! ## Clearance (R49, R58) -/

/-- SOFT_OFF_DONE (R49): every local island off and every cell in service in SAFE. -/
def execSoftOffDone (s : State) : Host.Outcome State Fault Refusal :=
  if s.pw.mode = .safe ∧ s.islAllOff ∧ s.dirs.all (fun e => decide (e.2.st ≠ 4) || decide (e.2.mode = 5)) then
    done { s with pw.softOff := true }
  else done s

/-- The conditions at the second key: SAFE_ACTIVE 0, SOFT_OFF_DONE 1, and no trip latched by the Guard (R58). -/
def State.clearOk (s : State) : Bool :=
  decide (s.pw.mode = .safe) && decide (s.safeActive = 0) && s.pw.softOff && (!s.gblock || s.gblockOnlyUnverified)

/-- A key written to PWR.CLEARANCE (R58). -/
def State.clearanceOp (s : State) (key : Nat) : State :=
  let s1 := { s with pw.clearFirst := none }
  if key = 0xC1 then
    let s2 := if s.pw.clearFirst.isSome then s1.refuse Pg.PWR else s1
    { s2 with pw.clearFirst := some s.clk.tick }
  else if key = 0x1C ∧ s.pw.clearFirst.any (fun t => decide (s.clk.tick ≤ t + tickMs)) ∧ s.clearOk then
    ({ s1 with pw.clearedAt := some s.clk.tick }).logE 5 none Pg.PWR 0 [(2, s.getF Reg.PWR_SAFE_CAUSE 0 9)]
  else s1.refuse Pg.PWR

/-- CLEARANCE_FIRST (R58). -/
def execClearanceFirst (s : State) : Host.Outcome State Fault Refusal := hostCmd s Pg.PWR (fun s => s.clearanceOp 0xC1)
/-- CLEARANCE_SECOND (R58). -/
def execClearanceSecond (s : State) : Host.Outcome State Fault Refusal := hostCmd s Pg.PWR (fun s => s.clearanceOp 0x1C)

/-- CLEARED_LAPSE (R58): 100 ms after it was set. -/
def execClearedLapse (s : State) : Host.Outcome State Fault Refusal :=
  match s.pw.clearedAt with
  | none => done s
  | some t => done (({ (s.advanceTo (t + 100 * tickMs)) with pw.clearedAt := none }).irqLog 5 3 Pg.PWR 0 [])

/-- GUARD_LOST (R55): the internal link has been silent for 1 ms. -/
def execGuardLost (s : State) : Host.Outcome State Fault Refusal :=
  match s.pw.mode with
  | .configure | .armed | .run => done (({ s with pw.guardLost := true }).enterSafe SafeCause.guardLost)
  | .dormant | .boot | .safe => done s

/-! ## Views -/

/-- A precharge output may switch now (R254). -/
def State.precharging (s : State) : Bool :=
  decide (s.pw.mode = .armed) &&
    (if s.pw.role = .cell then s.cellPrecharge
     else s.getB Reg.PWR_PRECHARGE_EN 0 &&
      (decide (s.getF Reg.PWMC_PRECHARGE 0 12 ≠ 0 ∨ s.getF Reg.ISLC_PRECHARGE 0 8 ≠ 0) ||
        (List.range 768).any (fun i => planCell s.body i && bit (s.pos i) 30)))

/-- PWR.MODE_STAT (R59). -/
def State.modeStat (s : State) : Word :=
  w32 (modeCode s.pw.mode + 8 * b2n (decide (s.pw.mode = .safe) && s.pw.softOff) + 16 * b2n s.pw.clearedAt.isSome + 32 * b2n s.gblock +
    64 * b2n s.pw.cblock + 128 * b2n s.precharging + 2 ^ 8 * s.getF Reg.PWR_MODE_CMD 0 3)

/-- PWR.SUPPLY_STAT (R59). -/
def State.pwrSupply (s : State) : Word :=
  w32 (b2n (!s.grd.inReset) + 2 * b2n s.kp.vkeepOk + 2 ^ 8 * s.islBits (fun i => i.vddGood && i.veeGood))

end Sys2Proof.Machine
end

