-- ==== Sys2Proof/Machine/AdcOps.lean ====
section
/-! DEFINITION. The converters, the latest-value registers, the result queue and the comparators as machines
(spec/11_converters_comparators.md). Their commands are in Adc.lean. -/
namespace Sys2Proof.Machine

/-- A sequence at rest. -/
def adcSeq0 : AdcSeq := { fired := [], wait := none, pend := false, next := none, epoch := none }
/-- A converter at rest. -/
def adc0 : AdcState := { reg := adcSeq0, inj := adcSeq0, convs := [], stepDone := false }

/-- Converter `n`. -/
def State.adcS (s : State) (n : Nat) : AdcState := SMap.get adc0 n s.adc
/-- `s` with converter `n` replaced. -/
def State.setAdc (s : State) (n : Nat) (a : AdcState) : State := { s with adc := SMap.set adc0 n a s.adc }

/-- A sequence of a converter. -/
def AdcState.seq (a : AdcState) (inj : Bool) : AdcSeq := if inj then a.inj else a.reg
/-- A converter with one sequence replaced. -/
def AdcState.setSeq (a : AdcState) (inj : Bool) (q : AdcSeq) : AdcState := if inj then { a with inj := q } else { a with reg := q }
/-- `s` with a sequence changed. -/
def State.modSeq (s : State) (n : Nat) (inj : Bool) (f : AdcSeq → AdcSeq) : State :=
  s.setAdc n ((s.adcS n).setSeq inj (f ((s.adcS n).seq inj)))

/-- The trigger source of a sequence; codes 43–63 act as 0 (R207). -/
def State.adcSrc (s : State) (n : Nat) (inj : Bool) : Nat :=
  let v := s.getF (if inj then Reg.ADCn_INJ_TRIG n else Reg.ADCn_REG_TRIG n) 0 6
  if 43 ≤ v then 0 else v

def State.adcEn (s : State) (n : Nat) : Bool := s.getB (Reg.ADCn_CTRL n) 0
def State.adcCont (s : State) (n : Nat) : Bool := s.getB (Reg.ADCn_REG_CFG n) 8

/-- Trigger source `code` fires: it is noted at every sequence that names it on an enabled converter (R207). -/
def State.adcFire (s : State) (code : Nat) : State :=
  [(0, false), (0, true), (1, false), (1, true)].foldl (fun s e =>
    if s.adcEn e.1 && decide (s.adcSrc e.1 e.2 = code) then s.modSeq e.1 e.2 (fun q => { q with fired := q.fired ++ [s.clk.tick] }) else s) s

/-- A sequence is waiting out its delay, pending or running (R207). -/
def State.adcBusy (s : State) (n : Nat) (inj : Bool) : Bool :=
  let q := (s.adcS n).seq inj
  q.wait.isSome || q.pend || q.next.isSome || (s.adcS n).convs.any (fun c => c.inj == inj)

/-- A trigger of a sequence is taken: its delay starts, or it is ignored and counted (R207). -/
def State.adcTake (s : State) (n : Nat) (inj : Bool) (epoch : Option Nat) : State :=
  if !inj && s.adcCont n then s
  else if s.adcBusy n inj then (s.incSat (Reg.ADCn_TRIG_MISS_CNT n)).irq (Pg.ADCn n) 2
  else
    let d := s.getF (if inj then Reg.ADCn_INJ_TRIG n else Reg.ADCn_REG_TRIG n) 16 16
    s.modSeq n inj (fun q => { q with wait := some (s.clk.tick + 8 * d), epoch := epoch })

/-- A converter stops: the conversion in progress is abandoned and pending sequences are cleared (R210). -/
def State.adcAbandon (s : State) (n : Nat) : State := s.setAdc n { adc0 with stepDone := (s.adcS n).stepDone }

/-- First CK_ADC edge at or after edge tick `t`: every 32 edge ticks from the first E0 after lock (R64, R206). -/
def State.adcEdge (s : State) (t : Nat) : Nat := t + (s.clk.div0 + 32 * (t + 1) - t) % 32

/-- Entries − 1 of a sequence. -/
def State.adcLen (s : State) (n : Nat) (inj : Bool) : Nat :=
  if inj then s.getF (Reg.ADCn_INJ_CFG n) 0 3 else s.getF (Reg.ADCn_REG_CFG n) 0 5

/-- The sequence that takes the converter next: a pending or running injected one first, then the regular one (R208). -/
def State.adcChoice (s : State) (n : Nat) : Option (Bool × Nat) :=
  let a := s.adcS n
  if a.inj.pend || a.inj.next.isSome then some (true, a.inj.next.getD 0)
  else if a.reg.pend || a.reg.next.isSome then some (false, a.reg.next.getD 0)
  else none

/-- The result in queue-entry layout (R212). -/
def queueEntry (pcnt : Nat) (inj : Bool) (conv ch code : Nat) : Word :=
  w32 (pcnt % 256 * 2 ^ 24 + 2 ^ 22 * b2n inj + 2 ^ 21 * conv + 2 ^ 16 * ch + code)

/-- Entries in the result queue (R212). -/
def State.adcqHeld (s : State) : Nat := (s.getF Reg.ADCQ_Q_WR 0 7 + 128 - s.getF Reg.ADCQ_Q_RD 0 7) % 128

/-- Push a result to the queue: dropped and counted when full, discarded while the queue is off (R212). -/
def State.adcqPush (s : State) (w : Word) : State :=
  if !s.getB Reg.ADCQ_Q_CFG 8 then s
  else if 64 ≤ s.adcqHeld then (s.incSat Reg.ADCQ_Q_OVF_CNT).irq Pg.ADCQ 1
  else
    let i := s.getF Reg.ADCQ_Q_WR 0 7
    let s1 := (s.setSramW (s.getF Reg.ADCQ_Q_BASE 0 18 + i % 64) w).setF Reg.ADCQ_Q_WR 0 7 (i + 1)
    let s2 := s1.blockEv Pg.ADCQ
    s2.irqIf (decide (s2.getF Reg.ADCQ_Q_CFG 0 7 ≠ 0) && decide (s2.adcqHeld = s2.getF Reg.ADCQ_Q_CFG 0 7)) Pg.ADCQ 0

/-- The latest-value register of a channel: LV[ch], or LV_TEMP for channel 16 (R209). -/
def lvReg (ch : Nat) : Nat := if ch = 16 then Reg.ADCC_LV_TEMP else Reg.ADCC_LV ch

/-- Write a latest value, AGE 0 and FRESH; ADC0's result of the same fabric tick stands (R209). -/
def State.putLv (s : State) (conv ch code : Nat) : State :=
  if decide (conv = 1) && decide (SMap.get 0 ch s.lvTick = s.clk.tick + 1) then s
  else
    let s1 := s.setR (lvReg ch) (w32 (2 ^ 17 + 2 ^ 16 * conv + code))
    if conv = 0 then { s1 with lvTick := SMap.set 0 ch (s.clk.tick + 1) s1.lvTick } else s1

/-- Open-wire check of a result (R213). -/
def State.openWire (s : State) (ch code : Nat) : State :=
  if ch < 16 ∧ ((s.getB Reg.ADCC_OW_PU ch = true ∧ s.getF Reg.ADCC_OW_LIM 16 16 ≤ code) ∨
      (s.getB Reg.ADCC_OW_PD ch = true ∧ code ≤ s.getF Reg.ADCC_OW_LIM 0 16)) then
    (s.setB Reg.ADCC_OW_STAT ch true).irq Pg.ADCC 1
  else s

/-- Deliver the result of a conversion (R209, R211–R213). -/
def State.adcDeliver (s : State) (n : Nat) (c : AdcConv) (code : Nat) : State :=
  let ch := fld c.word 0 5
  let w := queueEntry (s.getR Reg.TIME_PERIOD_CNT).toNat c.inj n ch code
  let s1 := (s.setR (Reg.ADCn_RESULT_LAST n) w).incSat (Reg.ADCn_CONV_CNT n)
  let s2 := if c.inj then s1.setR (Reg.ADCn_INJ_RES n c.entry) w else s1
  let s3 := if bit c.word 6 && decide (ch ≤ 16) then s2.putLv n ch code else s2
  let s4 := (if bit c.word 5 then s3.adcqPush w else s3).openWire ch code
  let s5 := match c.epoch with
    | none => s4
    | some e => if e + 3040 < s4.clk.tick then (s4.incSat Reg.ADCC_LATE_CNT).irq Pg.ADCC 0 else s4
  if c.last then
    let s6 := (s5.irq (Pg.ADCn n) (b2n c.inj)).blockEv (Pg.ADCn n)
    if c.inj then s6.incSat (Reg.ADCn_INJ_CNT n) else s6
  else s5

/-- ADCn.STAT (R222). -/
def State.adcStat (s : State) (n : Nat) : Word :=
  let a := s.adcS n
  let cur (inj : Bool) : Option AdcConv := a.convs.find? (fun c => c.inj == inj)
  w32 (b2n (a.reg.next.isSome || (cur false).isSome) + 2 * b2n (a.inj.next.isSome || (cur true).isSome) + 4 * b2n a.inj.pend +
    2 ^ 8 * ((cur false).map (·.entry)).getD 0 + 2 ^ 16 * ((cur true).map (·.entry)).getD 0)

/-- One latest-value register at the snapshot: FRESH clears and AGE counts (R211). -/
def lvAge (w : Word) : Word := putFld (putBit w 17 false) 24 8 (satInc 8 (fld w 24 8))

/-- The snapshot of the latest values (R211). -/
def State.lvSnapshot (s : State) : State :=
  let chs := List.range 17
  let s1 := { s with lvSnap := chs.foldl (fun m ch => SMap.set 0 ch (s.getR (lvReg ch)) m) s.lvSnap, lvDone := true }
  let s2 := chs.foldl (fun s ch => s.modR (lvReg ch) lvAge) s1
  if s.getB Reg.ADCC_LV_CTRL 0 then
    let base := s.getF Reg.ADCC_LV_BASE 0 18
    ((List.range 16).foldl (fun s2 ch => s2.setSramW (base + ch) (fi2f (w32 (s.getF (lvReg ch) 0 16)))) s2).blockEv Pg.ADCC
  else s2

/-- Code of channel `ch` in the last snapshot. -/
def State.lvCode (s : State) (ch : Nat) : Nat := fld (SMap.get 0 ch s.lvSnap) 0 16

/-! ## Comparators -/

/-- The filter of comparator `n`. -/
def State.cmpFilt (s : State) (n : Nat) : CmpFilter := SMap.get ⟨0, 0⟩ n s.cmpF

/-- The latch of comparator `n` is set at plant time `t` ns (R217, R218): the count, the time, the interrupt, and, unless the Keeper owns
it, the trips and the converter triggers. -/
def State.cmpSet (s : State) (n : Nat) (t8 : Nat) : State :=
  let s1 := (s.setB Reg.CMP_LATCH n true).incSat (Reg.CMP_C_SET_CNT n)
  let s2 := (s1.setR (Reg.CMP_C_SET_NS n) (w32 (t8 / 8 % 1000000000))).setR (Reg.CMP_C_SET_SEC_LO n) (w32 (t8 / 8000000000))
  let s3 := (s2.irq Pg.CMP n).blockEv Pg.CMP
  if s.cmpKept n then s3 else ((s3.pwmTripAll (4 + n)).adcFire (27 + n)).localTrip n

/-- The filtered output takes a level; a rising one sets the latch (R217). -/
def State.cmpFiltered (s : State) (n : Nat) (v : Bool) (t8 : Nat) : State :=
  if s.getB Reg.CMP_LEVEL n = v then s
  else
    let s1 := s.setB Reg.CMP_LEVEL n v
    if v && !s1.getB Reg.CMP_LATCH n then s1.cmpSet n t8 else s1

/-- One sample or decision enters the filter: 1 with at least N ones of the last M, 0 with at most M − N, else held (R215). -/
def State.cmpSample (s : State) (n : Nat) (v : Bool) (t8 : Nat) : State :=
  let f := s.getR (Reg.CMP_C_FILT n)
  let m := fld f 0 5
  let k := fld f 8 5
  let h := (2 * (s.cmpFilt n).hist + b2n v) % 2 ^ 31
  let s1 := { s with cmpF := SMap.set ⟨0, 0⟩ n { s.cmpFilt n with hist := h } s.cmpF }
  let ones := popCount m h
  if k ≤ ones then s1.cmpFiltered n true t8 else if ones ≤ m - k then s1.cmpFiltered n false t8 else s1

/-- Samples of the raw output at `k` fabric ticks, the first at tick `t` (R215). -/
def State.cmpSamples (s : State) (n t : Nat) : Nat → State
  | 0 => s
  | k + 1 =>
    let back := 5 * (s.clk.tick - 8 * t)
    State.cmpSamples (s.cmpSample n (s.getB Reg.CMP_LEVEL (16 + n)) ((s.clk.plant8 + plantMod - back) % plantMod)) n (t + 1) k

/-- The filter of comparator `n` catches up with the fabric ticks passed; more than 31 equal samples change nothing further (R215). -/
def State.cmpSettle (s : State) (n : Nat) : State :=
  if s.getB (Reg.CMP_C_FILT n) 16 && !s.getB (Reg.CMP_C_CFG n) 6 && !s.cmpKept n then
    let now := s.clk.tick / 8
    let from_ := (s.cmpFilt n).upd
    let s1 := s.cmpSamples n (from_ + 1) (min 31 (now - from_))
    { s1 with cmpF := SMap.set ⟨0, 0⟩ n { s1.cmpFilt n with upd := max now from_ } s1.cmpF }
  else s

/-- Every comparator's filter catches up. -/
def State.cmpSettleAll (s : State) : State := (List.range 16).foldl (fun s n => s.cmpSettle n) s

/-- The raw output that WIN forms from the two comparators (R214). -/
def cmpRaw (cfg : Word) (high low : Bool) : Bool :=
  if !bit cfg 0 then false
  else match fld cfg 1 2 with
    | 0 => high
    | 1 => low
    | 2 => high || low
    | _ => !high && !low

/-- The two comparators take their levels, and the raw output follows (R214). -/
def State.cmpLevels (s : State) (n : Nat) (high low : Bool) : State :=
  let cfg := s.getR (Reg.CMP_C_CFG n)
  (s.setF (Reg.CMP_C_STAT n) 0 2 (b2n (high && bit cfg 0) + 2 * b2n (low && bit cfg 0))).setB Reg.CMP_LEVEL (16 + n) (cmpRaw cfg high low)

/-- CMP.C[n].STAT (R224). -/
def State.cmpStat (s : State) (n : Nat) : Word :=
  w32 (s.getF (Reg.CMP_C_STAT n) 0 2 + 4 * b2n (s.getB Reg.CMP_LEVEL n) + 8 * b2n (s.getB Reg.CMP_LATCH n) + 16 * b2n (s.cmpKept n))

/-- The level of ball CMPOUTk (R218). -/
def State.cmpOut (s : State) (k : Nat) : Bool :=
  let cfg := s.getR (Reg.CMP_CMPOUT_CFG k)
  decide (fld cfg 0 16 &&& s.getF (if bit cfg 16 then Reg.CMP_LEVEL else Reg.CMP_LATCH) 0 16 ≠ 0) != bit cfg 17

end Sys2Proof.Machine
end

