-- ==== Sys2Proof/Machine/Adc.lean ====
section
/-! DEFINITION. The commands of the converters, the result queue and the comparators (spec/11_converters_comparators.md). -/
namespace Sys2Proof.Machine

/-- The trigger of a sequence that its source has fired and that is not yet taken: the instant, and whether the step source gives it. -/
def State.adcTriggerAt (s : State) (n : Nat) (inj : Bool) : Option (Nat × Bool) :=
  match ((s.adcS n).seq inj).fired with
  | t :: _ => some (t, false)
  | [] =>
    let t := s.clk.e0 + s.stepTick (s.getF Reg.ADCC_TIME_TRIG 0 8)
    if decide (s.adcSrc n inj = 26) && s.getB Reg.ADCC_TIME_TRIG 8 && s.adcEn n && !(s.adcS n).stepDone && s.clk.gen &&
        decide (s.clk.tick ≤ t) then some (t, true) else none

/-- ADC_TRIGGER (R207): the oldest trigger that the selected source has fired is taken; the step source fires at its step of the
period. -/
def execAdcTrigger (adc : Fin 2) (inj : Bool) (s : State) : Host.Outcome State Fault Refusal :=
  if !s.awake then done s
  else match s.adcTriggerAt adc inj with
    | none => done s
    | some (t, step) =>
      let s1 := s.advanceTo t
      let atE0 := decide (s.adcSrc adc inj = 25) || (step && decide (s.getF Reg.ADCC_TIME_TRIG 0 8 = 0))
      let s2 := if step then s1.setAdc adc { s1.adcS adc with stepDone := true }
        else s1.modSeq adc inj (fun q => { q with fired := q.fired.drop 1 })
      done (s2.adcTake adc inj (if atE0 then some t else none))

/-- A write of SW_TRIG for one sequence (R207). -/
def State.swTrigOp (s : State) (n : Nat) (inj : Bool) : State := if s.adcEn n then s.adcTake n inj none else s

/-- ADC_SW_TRIG_REGULAR (R207). -/
def execAdcSwTrigRegular (adc : Fin 2) (s : State) : Host.Outcome State Fault Refusal :=
  hostCmd s (Pg.ADCn adc) (fun s => s.swTrigOp adc false)

/-- ADC_SW_TRIG_INJECTED (R207). -/
def execAdcSwTrigInjected (adc : Fin 2) (s : State) : Host.Outcome State Fault Refusal :=
  hostCmd s (Pg.ADCn adc) (fun s => s.swTrigOp adc true)

/-- ADC_TRIGGER_DELAY_END (R207): the sequence becomes pending. -/
def execAdcTriggerDelayEnd (adc : Fin 2) (inj : Bool) (s : State) : Host.Outcome State Fault Refusal :=
  match ((s.adcS adc).seq inj).wait with
  | none => done s
  | some t => done ((s.advanceTo t).modSeq adc inj (fun q => { q with wait := none, pend := true }))

/-- The conversion that starts: the chosen entry, and the sequence it leaves behind (R207, R208). -/
def State.adcBegin (s : State) (n : Nat) (inj : Bool) (k : Nat) : State :=
  let last := decide (s.adcLen n inj ≤ k)
  let word := s.getR (if inj then Reg.ADCn_INJ_SEQ n k else Reg.ADCn_REG_SEQ n k)
  let next := if last then (if !inj && s.adcCont n then some 0 else none) else some (k + 1)
  let q := (s.adcS n).seq inj
  let c : AdcConv := { inj := inj, entry := k, word := word, start := s.clk.tick, epoch := q.epoch, last := last }
  let s1 := s.modSeq n inj (fun q => { q with pend := false, next := next })
  s1.setAdc n { s1.adcS n with convs := (s1.adcS n).convs ++ [c] }

/-- ADC_CONVERSION_START (R206, R208): on the next CK_ADC edge at which the converter is free; none during a relock (R210). -/
def execAdcConversionStart (adc : Fin 2) (s : State) : Host.Outcome State Fault Refusal :=
  if !s.awake || !s.adcEn adc || s.clk.relock then done s
  else match s.adcChoice adc with
    | none => done s
    | some (inj, k) =>
      let free := match (s.adcS adc).convs.getLast? with
        | none => s.clk.tick
        | some c => max s.clk.tick (c.start + 320)
      done ((s.advanceTo (s.adcEdge free)).adcBegin adc inj k)

/-- ADC_CONVERSION_DONE (R206, R209, R211–R213): `code` is written 1 fabric tick after the tenth cycle of the oldest conversion. -/
def execAdcConversionDone (adc : Fin 2) (code : BitVec 16) (s : State) : Host.Outcome State Fault Refusal :=
  match (s.adcS adc).convs with
  | [] => done s
  | c :: cs =>
    let s1 := s.advanceTo (c.start + 328)
    done ((s1.setAdc adc { s1.adcS adc with convs := cs }).adcDeliver adc c code.toNat)

/-- A write of CTRL.EN (R207, R210). -/
def State.adcEnableOp (s : State) (n : Nat) (en : Bool) : State :=
  let was := s.adcEn n
  let s1 := s.setB (Reg.ADCn_CTRL n) 0 en
  if !en then s1.adcAbandon n
  else if !was && s.adcCont n then s1.modSeq n false (fun q => { q with pend := true })
  else s1

/-- ADC_ENABLE (R210). -/
def execAdcEnable (adc : Fin 2) (en : Bool) (s : State) : Host.Outcome State Fault Refusal :=
  hostCmd s (Pg.ADCn adc) (fun s => s.adcEnableOp adc en)

/-- CLEAR (R222). -/
def State.adcClearOp (s : State) (n : Nat) : State :=
  ((s.setR (Reg.ADCn_CONV_CNT n) 0).setR (Reg.ADCn_INJ_CNT n) 0).setR (Reg.ADCn_TRIG_MISS_CNT n) 0

/-- ADC_CLEAR (R222). -/
def execAdcClear (adc : Fin 2) (s : State) : Host.Outcome State Fault Refusal := hostCmd s (Pg.ADCn adc) (fun s => s.adcClearOp adc)

/-- A host write to a sequence or trigger register: only while EN = 0, and no reserved channel code (R205, R210). -/
def State.adcRegOp (s : State) (n off : Nat) (data : Word) : State :=
  let entry := decide (0x80 ≤ off ∧ off < 0x120)
  if s.adcEn n || (entry && decide (21 ≤ fld data 0 5)) then s.refuse (Pg.ADCn n)
  else s.setR (pageBase (Pg.ADCn n) + off) (data &&& (if entry then 0x7F else if off = 0x48 then 0x11F else if off = 0x50 then 7 else 0xFFFF003F))

/-- A host write to Q_RD: refused where it would pass Q_WR or leave more than 64 entries (R212). -/
def State.qRdOp (s : State) (data : Word) : State :=
  let rd := fld data 0 7
  let moved := (rd + 128 - s.getF Reg.ADCQ_Q_RD 0 7) % 128
  if s.adcqHeld < moved then s.refuse Pg.ADCQ else s.setF Reg.ADCQ_Q_RD 0 7 rd

/-- Q_RD_WRITE (R212). -/
def execQRdWrite (data : Word) (s : State) : Host.Outcome State Fault Refusal := hostCmd s Pg.ADCQ (fun s => s.qRdOp data)

/-- ADCQ.Q_CFG: a watermark above 64 is refused (R223). -/
def State.qCfgOp (s : State) (data : Word) : State :=
  if 64 < fld data 0 7 then s.refuse Pg.ADCQ else s.setR Reg.ADCQ_Q_CFG (data &&& 0x17F)

/-- ADCQ.Q_BASE and ADCC.LV_BASE: in CONFIGURE only, with `n` words inside Main SRAM (R211, R212). -/
def State.sramBaseOp (s : State) (a n : Nat) (data : Word) : State :=
  if s.pw.mode ≠ .configure ∨ 262144 < fld data 0 18 + n then s.refuse (a / 4096) else s.setR a (data &&& 0x3FFFF)

/-- ADCC.OW_PU and OW_PD: never both for one channel (R213). -/
def State.owOp (s : State) (pd : Bool) (data : Word) : State :=
  if fld data 0 16 &&& s.getF (if pd then Reg.ADCC_OW_PU else Reg.ADCC_OW_PD) 0 16 ≠ 0 then s.refuse Pg.ADCC
  else s.setR (if pd then Reg.ADCC_OW_PD else Reg.ADCC_OW_PU) (data &&& 0xFFFF)

/-- CMP_RAW_CHANGE (R214, R215): the comparators of input `cmp` take the levels `high` and `low`. The filter first catches up with the
samples passed; without a filter the filtered output follows at once. A sampled or kept comparator takes its decisions elsewhere. -/
def execCmpRawChange (cmp : Fin 16) (high low : Bool) (s : State) : Host.Outcome State Fault Refusal :=
  if !s.awake || s.getB (Reg.CMP_C_CFG cmp) 6 || s.cmpKept cmp then done s
  else
    let s1 := (s.cmpSettle cmp).cmpLevels cmp high low
    if s1.getB (Reg.CMP_C_FILT cmp) 16 then done s1
    else done (s1.cmpFiltered cmp (s1.getB Reg.CMP_LEVEL (16 + cmp)) s1.clk.plant8)

/-- A sampled comparator takes a decision: the raw output holds it, and the filter counts decisions (R215, R216). -/
def State.cmpDecide (s : State) (n : Nat) (high low : Bool) : State :=
  let s1 := s.cmpLevels n high low
  let raw := s1.getB Reg.CMP_LEVEL (16 + n)
  if s1.getB (Reg.CMP_C_FILT n) 16 then s1.cmpSample n raw s1.clk.plant8 else s1.cmpFiltered n raw s1.clk.plant8

/-- CMP_SAMPLED_DECISION (R216): at the end of the 2 µs from an E0 whose PERIOD_CNT is a multiple of 2^DIV. -/
def execCmpSampledDecision (cmp : Fin 16) (high low : Bool) (s : State) : Host.Outcome State Fault Refusal :=
  if !s.awake || s.cmpKept cmp || !s.getB (Reg.CMP_C_CFG cmp) 6 || !s.clk.gen ||
      decide ((s.getR Reg.TIME_PERIOD_CNT).toNat % 2 ^ s.getF (Reg.CMP_C_SAMP cmp) 0 4 ≠ 0) then done s
  else done ((s.advanceTo (s.clk.e0 + 3200)).cmpDecide cmp high low)

/-- A write of 1s to CMP.LATCH: the software-released latches go, and set again at once where the filtered output is still 1 (R217);
the Keeper's comparators are refused (R216). -/
def State.latchClearOp (s : State) (mask : BitVec 16) : State :=
  let s0 := s.cmpSettleAll
  (List.range 16).foldl (fun s n =>
    if !mask.getLsbD n || !s.getB Reg.CMP_LATCH n || s.getB (Reg.CMP_C_CFG n) 7 then s
    else if s.cmpKept n then s.refuse Pg.CMP
    else
      let s1 := s.setB Reg.CMP_LATCH n false
      if s1.getB Reg.CMP_LEVEL n then s1.cmpSet n s1.clk.plant8 else s1) s0

/-- CMP_LATCH_CLEAR (R217). -/
def execCmpLatchClear (mask : BitVec 16) (s : State) : Host.Outcome State Fault Refusal := hostCmd s Pg.CMP (fun s => s.latchClearOp mask)

/-- A host write to a comparator's block: refused on a kept comparator (R216); TEST above 4 or outside CONFIGURE (R219), M and N outside
their ranges (R215), and DAC_LO ≥ DAC_HI with WIN 2 or 3 (R214) are refused. -/
def State.cmpRegOp (s : State) (n o : Nat) (data : Word) : State :=
  let a := Reg.CMP_C_CFG n + o
  let cfg := if o = 0 then data else s.getR (Reg.CMP_C_CFG n)
  let hi := if o = 8 then fld data 0 12 else s.getF (Reg.CMP_C_DAC_HI n) 0 12
  let lo := if o = 12 then fld data 0 12 else s.getF (Reg.CMP_C_DAC_LO n) 0 12
  let badTest := decide (o = 0) && (decide (4 < fld data 12 3) ||
    (decide (fld data 12 3 ≠ s.getF (Reg.CMP_C_CFG n) 12 3) && decide (s.pw.mode ≠ .configure)))
  let badFilt := decide (o = 4) && (decide (fld data 0 5 = 0) || decide (fld data 8 5 = 0) || decide (fld data 0 5 < fld data 8 5))
  let badWin := decide (o = 0 ∨ o = 8 ∨ o = 12) && decide (2 ≤ fld cfg 1 2) && decide (hi ≤ lo)
  if s.cmpKept n || badTest || badFilt || badWin then s.refuse Pg.CMP
  else
    let s0 := (s.cmpSettle n).setR a (data &&& (if o = 0 then 0x7FF7 else if o = 4 then 0x11F1F else if o = 16 then 0xF else 0xFFF))
    let s1 := { s0 with cmpF := SMap.set ⟨0, 0⟩ n { s0.cmpFilt n with upd := s0.clk.tick / 8 } s0.cmpF }
    if o = 0 then
      let st := s1.getF (Reg.CMP_C_STAT n) 0 2
      let s2 := s1.cmpLevels n (decide (st % 2 = 1)) (decide (2 ≤ st))
      if s2.getB (Reg.CMP_C_FILT n) 16 then s2 else s2.cmpFiltered n (s2.getB Reg.CMP_LEVEL (16 + n)) s2.clk.plant8
    else s1

end Sys2Proof.Machine
end

