-- ==== Sys2Proof/Machine/Slots.lean ====
section
/-! DEFINITION. The slots of profiles, trackers, cells and subscriptions that handles name (R40), with an empty slot of each. -/
namespace Sys2Proof.Machine

/-- A FREE profile slot of generation `g`. -/
def freeProf (g : Nat) : ProfSlot :=
  { alloc := false, gen := g, st := 0, tgtClamp := false, fsPend := false, cmds := [], changed := false, spans := [], y0 := 0, v0 := 0,
    a0 := 0, at_ := 0, ended := false }

/-- Profile slot `n`. -/
def State.prof (s : State) (n : Nat) : ProfSlot := SMap.get (freeProf 0) n s.profs
/-- `s` with a profile slot replaced. -/
def State.setProf (s : State) (n : Nat) (p : ProfSlot) : State := { s with profs := SMap.set (freeProf 0) n p s.profs }

/-- A FREE tracker slot of generation `g`. -/
def freeTrk (g : Nat) : TrkSlot :=
  { alloc := false, gen := g, st := 0, cfg := [], vp := 0, ip := 0, baseline := false, count := 0, sumV := 0, sumI := 0, runV := 0,
    runI := 0, stepDue := false, scanReq := false, sinceScan := 0, scanPos := 0, best := none, srcLost := false, curtail := false,
    rateClamp := false, skips := 0, skipCnt := 0 }

/-- Tracker slot `n`. -/
def State.trk (s : State) (n : Nat) : TrkSlot := SMap.get (freeTrk 0) n s.trks
/-- `s` with a tracker slot replaced. -/
def State.setTrk (s : State) (n : Nat) (t : TrkSlot) : State := { s with trks := SMap.set (freeTrk 0) n t s.trks }

/-- A FREE subscription slot of generation `g`. -/
def freeSub (g : Nat) : SubSlot :=
  { alloc := false, gen := g, value := false, stale := false, typeErr := false, seen := false, stNum := 0, sqNum := 0, expire := none }

/-- Subscription slot `k`. -/
def State.sub (s : State) (k : Nat) : SubSlot := SMap.get (freeSub 0) k s.subs

/-- The transfer-trip input of ISLD (R367). -/
def State.gooseIsld (s : State) : Bool := s.getB Reg.GOOSE_TT_IN 0

/-- One of the candidate results of an expression whose number of roundings the spec does not state: where they differ, which one is
a free value. -/
def State.pick2 (s : State) (a b : Word) : Word × State :=
  if a = b then (a, s) else let (w, s1) := s.takeFree; ((if bit w 0 then a else b), s1)

end Sys2Proof.Machine
end

