-- ==== Sys2Proof/Machine/Traj.lean ====
section
/-! DEFINITION. The time-optimal trajectory of a profile generator (R120): from a state (y, v, a) to (TARGET, 0, 0) with |v| ≤ RATE,
|a| ≤ ACCEL and |da/dt| ≤ JERK. The ideal trajectory is a list of spans of constant jerk, held in fixed point with 160 fraction
bits, far below the 1 × 10^−6 pu of R120. -/
namespace Sys2Proof.Machine

/-- Fraction bits of the trajectory numbers. -/
abbrev trajBits : Nat := 160

/-- One in fixed point. -/
abbrev trajOne : Int := 2 ^ 160

/-- A state of motion in fixed point: position, velocity, acceleration (pu, pu/s, pu/s²). -/
structure Motion where
  y : Int
  v : Int
  a : Int
  deriving DecidableEq, Repr

/-- A span of constant jerk: its duration in seconds and its jerk, in fixed point. -/
abbrev Span := Int × Int

/-- Product and quotient in fixed point. -/
def qmul (a b : Int) : Int := a * b / trajOne
def qdiv (a b : Int) : Int := if b = 0 then 0 else a * trajOne / b

/-- Integer square root by `fuel` steps of bisection between `lo` and `hi`. -/
def isqrtIn (n lo hi : Nat) : Nat → Nat
  | 0 => lo
  | k + 1 =>
    let mid := (lo + hi + 1) / 2
    if hi ≤ lo then lo else if mid * mid ≤ n then isqrtIn n mid hi k else isqrtIn n lo (mid - 1) k

/-- Integer square root. -/
def isqrt (n : Nat) : Nat := isqrtIn n 0 (2 ^ (nbits n / 2 + 1)) (nbits n / 2 + 2)

/-- Square root in fixed point of a number that is not negative. -/
def qsqrt (a : Int) : Int := if a ≤ 0 then 0 else isqrt (a * trajOne).toNat

/-- Motion after time `t` of jerk `j`. -/
def Motion.after (m : Motion) (t j : Int) : Motion :=
  let jt := qmul j t
  { y := m.y + qmul m.v t + qmul (qmul m.a t) t / 2 + qmul (qmul jt t) t / 6, v := m.v + qmul m.a t + qmul jt t / 2, a := m.a + jt }

/-- Motion after a list of spans. -/
def Motion.run (m : Motion) : List Span → Motion
  | [] => m
  | (t, j) :: r => Motion.run (m.after t j) r

/-- Motion after time `t` along a list of spans; the end is held. -/
def Motion.atTime (m : Motion) (t : Int) : List Span → Motion
  | [] => m
  | (d, j) :: r => if t < d then m.after t j else Motion.atTime (m.after d j) (t - d) r

/-- Duration of a list of spans. -/
def spanTime (l : List Span) : Int := (l.map (·.1)).foldl (· + ·) 0

/-- The limits of a slot in fixed point: RATE, ACCEL, JERK. -/
structure Limits where
  r : Int
  a : Int
  j : Int
  deriving DecidableEq, Repr

/-- Time-optimal rise of the velocity by at least the change that ending the present acceleration brings: jerk up, hold, jerk down. -/
def riseTo (l : Limits) (m : Motion) (v1 : Int) : List Span :=
  let dv := v1 - m.v
  let peak := qsqrt (qmul l.j dv + qmul m.a m.a / 2)
  if peak ≤ l.a then [(qdiv (peak - m.a) l.j, l.j), (qdiv peak l.j, -l.j)]
  else
    let ramps := qdiv (qmul l.a l.a - qmul m.a m.a) (2 * l.j) + qdiv (qmul l.a l.a) (2 * l.j)
    [(qdiv (l.a - m.a) l.j, l.j), (qdiv (dv - ramps) l.a, 0), (qdiv l.a l.j, -l.j)]

/-- Change of velocity while the acceleration `a` is ended at the jerk limit. -/
def endAccel (l : Limits) (a : Int) : Int := qdiv (qmul a a.natAbs) (2 * l.j)

/-- Mirror image of a motion and of spans. -/
def Motion.mirror (m : Motion) : Motion := ⟨-m.y, -m.v, -m.a⟩
def mirrorSpans (l : List Span) : List Span := l.map (fun s => (s.1, -s.2))

/-- Time-optimal change of velocity to `v1` with the acceleration ending at 0. -/
def velTo (l : Limits) (m : Motion) (v1 : Int) : List Span :=
  if m.v + endAccel l m.a ≤ v1 then riseTo l m v1 else mirrorSpans (riseTo l m.mirror (-v1))

/-- Spans to velocity `vc`, then to rest. -/
def viaVel (l : Limits) (m : Motion) (vc : Int) : List Span :=
  let p := velTo l m vc
  p ++ velTo l (m.run p) 0

/-- Spans that ease a negative acceleration to `a1` and then come to rest. -/
def easeThenStop (l : Limits) (m : Motion) (a1 : Int) : List Span :=
  let p : List Span := [(qdiv (a1 - m.a) l.j, l.j)]
  p ++ velTo l (m.run p) 0

/-- Bisection for the parameter at which a family of spans ends on `target`; the family reaches it from below. -/
def bisect (f : Int → List Span) (m : Motion) (target lo hi : Int) : Nat → List Span
  | 0 => f lo
  | k + 1 =>
    let mid := (lo + hi) / 2
    if (m.run (f mid)).y ≤ target then bisect f m target mid hi k else bisect f m target lo mid k

/-- Spans to a target that lies at or beyond the point where the quickest stop ends, in the positive direction. -/
def forwardSpans (l : Limits) (m : Motion) (target : Int) : List Span :=
  let vl := m.v + endAccel l m.a
  if m.a < 0 ∧ 0 < vl ∧ target ≤ (m.run (easeThenStop l m 0)).y then bisect (easeThenStop l m) m target m.a 0 170
  else
    let top := viaVel l m l.r
    let reach := (m.run top).y
    if reach ≤ target then
      let p := velTo l m l.r
      p ++ (qdiv (target - reach) l.r, 0) :: velTo l (m.run p) 0
    else bisect (viaVel l m) m target (max 0 vl) l.r 170

/-- Spans to a target from a state whose acceleration is within its limit. -/
def spansWithin (l : Limits) (m : Motion) (target : Int) : List Span :=
  if (m.run (velTo l m 0)).y ≤ target then forwardSpans l m target
  else mirrorSpans (forwardSpans l m.mirror (-target))

/-- The time-optimal trajectory (R120): an acceleration beyond its limit is first brought within it. -/
def planSpans (l : Limits) (m : Motion) (target : Int) : List Span :=
  if l.a < m.a.natAbs then
    let p : List Span := [(qdiv (m.a.natAbs - l.a) l.j, if m.a < 0 then l.j else -l.j)]
    p ++ spansWithin l (m.run p) target
  else spansWithin l m target

end Sys2Proof.Machine
end

