-- ==== Sys2Proof/Machine/MeterOps.lean ====
section
/-! DEFINITION. Modulator inputs, the control filter, and the metering points as machines (spec/15_metering_power_quality.md). Their
commands are in Meter.lean. Quantities are formed in fixed point with 160 fraction bits and rounded once where they are written. -/
namespace Sys2Proof.Machine

/-! ## Modulator channels (R297–R300) -/

/-- MDAT_CFG byte of channel `c`. -/
def State.mdatCfg (s : State) (c : Nat) : Nat := s.getF (Reg.METC_MDAT_CFG (c / 4)) (8 * (c % 4)) 8
/-- Channel `c` is enabled; in the Cell role only MDAT0–3 operate (R324). -/
def State.mdatEn (s : State) (c : Nat) : Bool := (s.mdatCfg c).testBit 0 && (decide (s.pw.role ≠ .cell) || decide (c < 4))

/-- Σ w_i b_i over 63 bits with the triangular weights 1, 2 … 32 … 2, 1 (R299). -/
def sinc2Sum (bits : BitVec 63) : Nat :=
  (List.range 63).foldl (fun a i => if bits.getLsbD i then a + min (i + 1) (63 - i) else a) 0

/-- The raw value 2S − 1,024; INV exchanges the full scales (R297, R299). -/
def sinc2Raw (inv : Bool) (bits : BitVec 63) : Int :=
  let v : Int := 2 * (sinc2Sum bits : Int) - 1024
  if inv then -v else v

/-- The E0 values of the 24 channels: METC.LV, and Main SRAM with LV_CTRL.EN (R299, R300). A disabled channel writes 0. -/
def State.mdatSamples (s : State) (l : List (BitVec 63)) : State :=
  let s1 := (List.range 24).foldl (fun s c =>
    s.setR (Reg.METC_LV c) (if s.mdatEn c then wInt (sinc2Raw ((s.mdatCfg c).testBit 4) (l.getD c 0)) else 0)) s
  if s.getB Reg.METC_LV_CTRL 0 && decide (s.pw.role ≠ .cell) then
    let base := s.getF Reg.METC_LV_BASE 0 18
    ((List.range 24).foldl (fun s c => s.setSramW (base + c) (fi2f (s.getR (Reg.METC_LV c)))) s1).blockEv Pg.METC
  else s1

/-- The metering point and channel order of MDATc (R302): the point, if any. -/
def State.mdatPoint (s : State) (c : Nat) : Nat := if s.getB Reg.METC_CFG 0 then c / 8 else c / 12

/-- METn.STAT.STUCK of a point from STUCK_NOW (R298). -/
def State.stuckJudge (s : State) (p : Nat) : State :=
  if s.idle (Pg.METn p) then s
  else s.setB (Reg.METn_STAT p) 2 ((List.range 24).any (fun c => decide (s.mdatPoint c = p) && s.getB Reg.METC_STUCK_NOW c))

/-- Would the enables and rates be ones R297 allows: every enabled channel has its clock enabled, and the enabled channels of a point
are on clocks of one RATE? -/
def mdatAllowed (layout1 : Bool) (cfg : Nat → Nat) (mclk : Word) : Bool :=
  let clk (c : Nat) : Nat := cfg c / 2 % 4
  let on (c : Nat) : Bool := (cfg c).testBit 0
  let pt (c : Nat) : Nat := if layout1 then c / 8 else c / 12
  (List.range 24).all (fun c => !on c ||
    (bit mclk (clk c) && (List.range 24).all (fun d => !on d || decide (pt d ≠ pt c) || bit mclk (8 + clk d) == bit mclk (8 + clk c))))

/-- A write to MDAT_CFG, MCLK_CFG or CFG (R297, R326): in CONFIGURE only, and never one that would leave an enabled channel without its
clock or a point on two rates. -/
def State.metcOp (s : State) (a : Nat) (data : Word) : State :=
  let t := s.setR a data
  if s.pw.mode ≠ .configure ∨ mdatAllowed (t.getB Reg.METC_CFG 0) t.mdatCfg (t.getR Reg.METC_MCLK_CFG) = false then s.refuse Pg.METC else t

/-! ## Points -/

/-- A point after reset. -/
def met0 : MetPoint :=
  { own := List.replicate 8 0, toHigh := 0, toLow := 0, everLocked := false, frac := List.replicate 9 0, lastNeg := none, prevFreq := none,
    winCycles := 0 }
/-- Point `p`. -/
def State.met (s : State) (p : Nat) : MetPoint := SMap.get met0 p s.mets
/-- `s` with a point changed. -/
def State.modMet (s : State) (p : Nat) (f : MetPoint → MetPoint) : State := { s with mets := SMap.set met0 p (f (s.met p)) s.mets }

/-- Single-range layout (R302). -/
def State.layout1 (s : State) : Bool := s.getB Reg.METC_CFG 0
/-- Point `p` has channels in the layout (R302). -/
def State.metExists (s : State) (p : Nat) : Bool := s.layout1 || decide (p < 2)
/-- Point `p` computes: enabled, in the layout, and not idle in the role (R303, R324). -/
def State.metOn (s : State) (p : Nat) : Bool :=
  s.awake && !s.idle (Pg.METn p) && s.metExists p && s.getB (Reg.METn_CFG p) 0

/-- Cycles of a window: 10 at 50 Hz, 12 at 60 Hz (R316). -/
def State.metW (s : State) (p : Nat) : Nat := if s.getB (Reg.METn_CFG p) 4 then 12 else 10
/-- HARM_EN is ignored on MET1 and MET2 of the single-range layout (R303). -/
def State.harmOff (s : State) (p : Nat) : Bool := s.layout1 && decide (1 ≤ p)

/-- METn.STAT (R327). -/
def State.metStat (s : State) (p : Nat) : Word := putBit (s.getR (Reg.METn_STAT p)) 5 (s.harmOff p)

/-- A disabled point reads 0 in its measurement and phasor registers (R303). -/
def State.metClear (s : State) (p : Nat) : State :=
  let base := pageBase (Pg.METn p)
  let offs := 0x054 :: ((List.range 34).map (fun k => 0x2C0 + 4 * k) ++ (List.range 20).map (fun k => 0x3D0 + 4 * k))
  offs.foldl (fun s o => s.setR (base + o) 0) s

/-! ## Numbers -/

/-- A binary32 word in fixed point. -/
def qW (w : Word) : Int := fixOf trajBits w
/-- A fraction p / q in fixed point. -/
def qRat (p q : Nat) : Int := (p * 2 ^ trajBits / q : Nat)

/-- The word `k` − 1 units in the last place above `w`, for a finite `w` that is not 0. -/
def ulpStep (w : Word) (k : Nat) : Word :=
  if fld w 0 31 = 0 ∨ 0x7F7FFFFE ≤ fld w 0 31 then w else if k = 0 then w - 1 else if k = 2 then w + 1 else w

/-- A computed quantity as a register holds it: within one unit in the last place of the nearest binary32. The spec states the formula
but not the rounding of its evaluation, so which one is a free value; 0 is exact. -/
def State.nearQ (s : State) (v : Int) : Word × State :=
  if v = 0 then (0, s) else let (f, s1) := s.takeFree; (ulpStep (ofFix trajBits v) (f.toNat % 3), s1)

/-- A register takes a computed quantity. -/
def State.setNear (s : State) (a : Nat) (v : Int) : State := let (w, s1) := s.nearQ v; s1.setR a w

/-- One of two adjacent whole numbers where the spec states no rounding: a free value. -/
def State.pickNat (s : State) (p q : Nat) : Nat × State :=
  if p % q = 0 then (p / q, s) else let (f, s1) := s.takeFree; (p / q + b2n (bit f 0), s1)

/-! ## Corrections (R306, R307) -/

/-- The boundaries of the segments, in hundredths (R307). -/
def segBounds : List Nat := [1, 2, 5, 10, 20, 50, 100]

/-- The segment of r. -/
def segOf (r : Int) : Nat := (segBounds.filter (fun b => decide (qRat b 100 ≤ r))).length

/-- The boundary in whose band r lies, if any, with the segment below it. -/
def segBand (r : Int) : Option (Nat × Nat) :=
  ((List.range 7).zip segBounds).find? (fun e => decide (qRat (975 * e.2) 100000 ≤ r) && decide (r < qRat (1025 * e.2) 100000))

/-- The value of a segment table at r: of the segment, or interpolated across a boundary's band (R307). -/
def segValue (t : Nat → Word) (r : Int) : Int :=
  match segBand r with
  | none => qW (t (segOf r))
  | some (k, b) =>
    let u := qdiv (r - qRat (975 * b) 100000) (qRat b 2000)
    qmul (trajOne - u) (qW (t k)) + qmul u (qW (t (k + 1)))

/-- Gain of current channel `j` for the cycle (R307). -/
def State.iGain (s : State) (p j : Nat) : Int := segValue (fun k => s.getR (Reg.METn_I_GAIN p (8 * j + k))) ((s.met p).own.getD j 0)

/-- A and V per unit of x: ratio × gain (R306). -/
def State.iScale (s : State) (p j : Nat) : Int := qmul (qW (s.getR (Reg.METn_I_RATIO p j))) (s.iGain p j)
def State.vScale (s : State) (p k : Nat) : Int := qmul (qW (s.getR (Reg.METn_V_RATIO p k))) (qW (s.getR (Reg.METn_V_GAIN p k)))

/-- The physical channel of a phase's high range, and of its low range (R302). -/
def State.hiChan (s : State) (k : Nat) : Nat := if s.layout1 then k else 2 * k
def State.loChan (k : Nat) : Nat := 2 * k + 1

/-! ## Ranges (R309) -/

/-- The ratio of a pair lies outside 0.0625 to 0.5. -/
def State.ratioBad (s : State) (p k : Nat) : Bool :=
  let h := qW (s.getR (Reg.METn_I_RATIO p (2 * k)))
  let l := qW (s.getR (Reg.METn_I_RATIO p (2 * k + 1)))
  decide (16 * l < h) || decide (h < 2 * l)

/-- Pair `k` selects its range: dual-range layout with RANGE_AUTO and a ratio within its bounds. -/
def State.autoRange (s : State) (p k : Nat) : Bool :=
  !s.layout1 && decide (p < 2) && s.getB (Reg.METn_CFG p) 3 && !s.ratioBad p k

/-- Pair `k` uses its low range. -/
def State.inLow (s : State) (p k : Nat) : Bool := s.getB (Reg.METn_STAT p) (8 + k)

/-- A pair changes range: counted (R309). -/
def State.rangeChange (s : State) (p k : Nat) (low : Bool) : State :=
  ((s.setB (Reg.METn_STAT p) (8 + k) low).incSat (Reg.METn_RANGE_SW_CNT p)).blockEv (Pg.METn p)

/-- RANGE_ERR, and the high range for pairs that do not select theirs (R309). -/
def State.rangeJudge (s : State) (p : Nat) : State :=
  let bad := !s.layout1 && decide (p < 2) && s.getB (Reg.METn_CFG p) 3 && (List.range 4).any (fun k => s.ratioBad p k)
  let s1 := if bad && !s.getB (Reg.METn_STAT p) 3 then s.irq (Pg.METn p) 4 else s
  let s2 := s1.setB (Reg.METn_STAT p) 3 bad
  (List.range 4).foldl (fun s k => if s.inLow p k && !s.autoRange p k then s.setB (Reg.METn_STAT p) (8 + k) false else s) s2

/-- The range of pair `k` for the cycle that begins: `own` is the high channel's RMS and `peak` its largest magnitude in the cycle just
ended, in A (R309). -/
def State.rangeNext (s : State) (p k : Nat) (own peak : Int) : State :=
  let h := qW (s.getR (Reg.METn_I_RATIO p (2 * k)))
  let l := qW (s.getR (Reg.METn_I_RATIO p (2 * k + 1)))
  let changed := (s.met p).toHigh.getLsbD k
  if !s.autoRange p k then s
  else if s.inLow p k then
    if 6 * h < 100 * own then (s.rangeChange p k false).modMet p (fun m => { m with toHigh := m.toHigh ||| BitVec.ofNat 4 (2 ^ k) }) else s
  else if !changed && decide (100 * own < 3 * h) && decide (10 * peak ≤ 8 * l) then
    (s.rangeChange p k true).modMet p (fun m => { m with toLow := m.toLow ||| BitVec.ofNat 4 (2 ^ k) })
  else s

/-! ## Cycle quantities and energy (R310–R312) -/

/-- Mean square, phasor and product with the voltage of the current of phase `k` in use, in A (R309, R310). -/
def State.currentSums (s : State) (p k : Nat) (i : PairSum) : Int × Int × Int × Int :=
  let sign : Int := if s.getB (Reg.METn_CFG p) 7 then -1 else 1
  let h := sign * s.iScale p (s.hiChan k)
  let l := if s.layout1 then 0 else sign * s.iScale p (State.loChan k)
  (qmul (qmul h h) (qW i.hi.sq) + qmul (qmul l l) (qW i.lo.sq), qmul h (qW i.hi.re) + qmul l (qW i.lo.re),
    qmul h (qW i.hi.im) + qmul l (qW i.lo.im), qmul h (qW i.hiVi) + qmul l (qW i.loVi))

/-- The quantities of phase or channel `k` (R310): VRMS, VRMS1, IRMS, IRMS1, and for k < 3 P, P1, Q1 and S. -/
def State.cycleChan (s : State) (p k : Nat) (v : ChanSum) (i : PairSum) : State :=
  let c := s.vScale p k
  let (isq, ire, iim, vi) := s.currentSums p k i
  let vre := qmul c (qW v.re)
  let vim := qmul c (qW v.im)
  let vr := qsqrt (qmul (qmul c c) (qW v.sq))
  let ir := qsqrt isq
  let s1 := (((s.setNear (Reg.METn_VRMS p k) vr).setNear (Reg.METn_VRMS1 p k) (qsqrt (qmul vre vre + qmul vim vim))).setNear
    (Reg.METn_IRMS p k) ir).setNear (Reg.METn_IRMS1 p k) (qsqrt (qmul ire ire + qmul iim iim))
  if k < 3 then
    (((s1.setNear (Reg.METn_P p k) (qmul c vi)).setNear (Reg.METn_P1 p k) (qmul vre ire + qmul vim iim)).setNear (Reg.METn_Q1 p k)
      (qmul vim ire - qmul vre iim)).setNear (Reg.METn_S p k) (qmul vr ir)
  else s1

/-- A total: the sum of the three phases' registers. -/
def State.cycleTotal (s : State) (r : Nat → Nat) : State := s.setNear (r 3) (qW (s.getR (r 0)) + qW (s.getR (r 1)) + qW (s.getR (r 2)))

/-- An energy of `w` watts over `len` eighths of a nanosecond, in 2^−32 of 1 mWh, rounded down: 1 mWh is 3.6 J. -/
def energyOf (w : Int) (len : Nat) : Nat := w.natAbs * len * 2 ^ 32 * 10 / (36 * 8000000000 * 2 ^ trajBits)

/-- Accumulator `q` gains `d` units of 2^−32, modulo 2^96 with its fraction; FAST shows its low word (R311, R314). -/
def State.energyAdd (s : State) (p q : Nat) (d : Int) : State :=
  let lo : Nat := Reg.METn_EIMP_LO p + 8 * q
  let cur : Nat := ((s.getR (lo + 4)).toNat * 2 ^ 32 + (s.getR lo).toNat) * 2 ^ 32 + (s.met p).frac.getD q 0
  let v := ((Int.ofNat cur + d) % Int.ofNat (2 ^ 96)).toNat
  (((s.setR lo (w32 (v / 2 ^ 32))).setR (lo + 4) (w32 (v / 2 ^ 64))).setR (Reg.METn_FAST p q) (w32 (v / 2 ^ 32))).modMet p (fun m =>
    { m with frac := m.frac.set q (v % 2 ^ 32) })

/-- The energies of a cycle (R311, R312). The fraction of 32 bits is cut, or rounded up where the free value says so: the spec states no
rounding of it. -/
def State.cycleEnergy (s : State) (p len : Nat) : State :=
  let e := qW (s.getR (Reg.METn_P p 3))
  let r := qW (s.getR (Reg.METn_Q1 p 3))
  let sa := qW (s.getR (Reg.METn_S p 3))
  let (f, s0) := s.takeFree
  let amt (k : Nat) (w : Int) : Int := if w = 0 then 0 else (energyOf w len + b2n (bit f k) : Nat)
  let s1 := if 0 < e then s0.energyAdd p 0 (amt 0 e) else if e < 0 then s0.energyAdd p 1 (amt 0 e) else s0
  let s2 := if r = 0 then s1
    else s1.energyAdd p (if 0 < r then (if 0 ≤ e then 2 else 3) else (if e < 0 then 4 else 5)) (amt 1 r)
  let s3 := (s2.energyAdd p 6 (amt 2 sa)).energyAdd p 7 (amt 3 (qsqrt (qmul e e + qmul r r)))
  let s4 := s3.energyAdd p 8 (if 0 ≤ e then amt 0 e else -(amt 0 e))
  let quad := if r = 0 then f.toNat / 16 % 4 else if 0 < r then (if 0 ≤ e then 0 else 1) else (if e < 0 then 2 else 3)
  let dir := if e = 0 then bit f 6 else decide (e < 0)
  let s5 := s4.setR (Reg.METn_DIR_STAT p) (w32 (b2n dir + 2 * b2n (decide (e = 0)) + 4 * quad + 16 * b2n (decide (r = 0))))
  if e = 0 then s5
  else
    let neg := decide (e < 0)
    let s6 := if (s.met p).lastNeg = some (!neg) then (s5.incSat (Reg.METn_REV_CNT p)).irq (Pg.METn p) 5 else s5
    s6.modMet p (fun m => { m with lastNeg := some neg })

/-- The tracker at a cycle boundary: hold, release and lock (R305). -/
def State.trackCycle (s : State) (p : Nat) (c : CycleIn) : State :=
  let thr := qmul (qW (s.getR (Reg.METn_VMIN_TRACK p))) (qW (s.getR (Reg.METn_V_RATIO p 0)))
  let vp := qmul (s.vScale p 0) (qW c.vpos)
  -- |V+| below the threshold over √2
  let below := decide (2 * qmul vp vp < qmul thr thr)
  let above := decide (qmul thr thr < 2 * qmul vp vp)
  let was := s.getB (Reg.METn_STAT p) 1
  let hold := below || (was && !above)
  let s1 := if hold && !was then s.irqLog 2 3 (Pg.METn p) 0 [] else s
  let lock := c.lock && !hold
  let s2 := ((s1.setB (Reg.METn_STAT p) 1 hold).setB (Reg.METn_STAT p) 0 lock).modMet p (fun m => { m with everLocked := m.everLocked || lock })
  if lock then s2.setR (Reg.METn_FREQ p) (fclampW c.freq 0x42200000 0x428C0000)
  else if (s.met p).everLocked then s2
  else s2.setR (Reg.METn_FREQ p) (if s.getB (Reg.METn_CFG p) 4 then 0x42700000 else 0x42480000)

/-- The r of R307 of every physical channel in the cycle that ends: RMS over I_RATIO, which is the RMS of x times the gain. -/
def State.ownRatios (s : State) (p : Nat) (c : CycleIn) : List Int :=
  (List.range 8).map (fun j =>
    let i := c.i[if s.layout1 then j else j / 2]?
    let sq := match i with
      | none => 0
      | some i => if s.layout1 || decide (j % 2 = 0) then qW i.hiOwn else qW i.loOwn
    qmul (s.iGain p j) (qsqrt sq))

/-- Sums of a channel that is not there. -/
def chanSum0 : ChanSum := ⟨0, 0, 0⟩
def pairSum0 : PairSum := ⟨0, 0, 0, chanSum0, 0, chanSum0, 0⟩

/-- The end of a tracked cycle (R304–R312). -/
def State.cycleEnd (s : State) (p : Nat) (c : CycleIn) : State :=
  let own := s.ownRatios p c
  let s1 := (List.range 4).foldl (fun s k => s.cycleChan p k (c.v.getD k chanSum0) (c.i.getD k pairSum0)) s
  let s2 := [Reg.METn_P p, Reg.METn_P1 p, Reg.METn_Q1 p, Reg.METn_S p].foldl State.cycleTotal s1
  let sa := qW (s2.getR (Reg.METn_S p 3))
  let s3 := s2.setNear (Reg.METn_PF p) (qdiv (qW (s2.getR (Reg.METn_P p 3))) sa)
  let s4 := (s3.cycleEnergy p c.len.toNat).incMod (Reg.METn_CYCLE_CNT p)
  let n := s4.getR (Reg.METn_CYCLE_CNT p)
  let s5 := ((s4.setR (Reg.METn_MEAS_CYC p) n).setR (Reg.METn_E_CYC p) n).trackCycle p c
  let s6 := s5.modMet p (fun m => { m with toLow := 0 })
  let s7 := (List.range 4).foldl (fun t k =>
    let h := qW (s.getR (Reg.METn_I_RATIO p (2 * k)))
    t.rangeNext p k (qmul h (own.getD (2 * k) 0)) (qmul (s.iScale p (2 * k)) (qW (c.i.getD k pairSum0).hiPeak))) s6
  (s7.modMet p (fun m =>
    { m with own := own, winCycles := m.winCycles + 1, toHigh := m.toHigh &&& ~~~(s.met p).toHigh })).rangeJudge p

end Sys2Proof.Machine
end

