-- ==== Sys2Proof/Machine/Auxp.lean ====
section
/-! DEFINITION. Auxiliary pump ports (R398–R403, R405). -/
namespace Sys2Proof.Machine

/-- A port after reset. -/
def aux0 : AuxPort :=
  { known := false, hall := 0, lastTick := none, edgeAt := 0, lastDir := none, discard := false, mag := 0, neg := false }
/-- Port `q`. -/
def State.aux (s : State) (q : Nat) : AuxPort := SMap.get aux0 q s.auxs
/-- `s` with a port changed. -/
def State.modAux (s : State) (q : Nat) (f : AuxPort → AuxPort) : State := { s with auxs := SMap.set aux0 q (f (s.aux q)) s.auxs }

/-- The port runs. -/
def State.auxOn (s : State) (q : Nat) : Bool := s.awake && !s.idle Pg.AUXP && s.getB (Reg.AUXP_P_CFG q) 0

/-- Place of a Hall state in the forward sequence 1, 3, 2, 6, 4, 5 (R399). -/
def hallPlace (h : BitVec 3) : Option Nat := ([1, 3, 2, 6, 4, 5] : List (BitVec 3)).findIdx? (fun x => decide (x = h))

/-- High and low phase (U, V, W as 0, 1, 2) at a place, forward (R400). -/
def hallPhases (k : Nat) : Nat × Nat := ([(0, 1), (0, 2), (1, 2), (1, 0), (2, 0), (2, 1)] : List (Nat × Nat)).getD k (0, 0)

/-- CMPA and CMPB of a generator are written and its commit armed. -/
def State.auxDrive (s : State) (g a b : Nat) : State :=
  (((s.writeShadow (Reg.PWMn_CMPA g) (w32 a)).writeShadow (Reg.PWMn_CMPB g) (w32 b))).armCommit (Pg.PWMn g)

/-- The commutation pattern of port `q` (R400): an invalid or unknown state floats all three phases. -/
def State.auxCommutate (s : State) (q : Nat) : State :=
  if s.auxOn q && s.auxPort q then
    let x := s.aux q
    let prd (g : Nat) : Nat := s.getF (Reg.PWMn_PRD g) 0 24
    let roles : Option (Nat × Nat) := if fld x.mag 0 31 = 0 then none else
      (hallPlace x.hall).map (fun k => let p := hallPhases k; if x.neg then (p.2, p.1) else p)
    (List.range 3).foldl (fun s ph =>
      let g := 6 + 3 * q + ph
      match roles with
      | none => s.auxDrive g 0 0
      | some (hi, lo) => if ph = hi then s.auxDrive g (fracOf x.mag (prd g)) 0 else if ph = lo then s.auxDrive g 0 (prd g) else s.auxDrive g 0 0) s
  else s

/-- At E6 port `q` takes its duty and writes the pattern (R400). -/
def State.auxE6 (s : State) (q : Nat) : State :=
  if s.auxOn q then
    let d := s.sramW (s.getF (Reg.PUMP_RES_BASE 7) 0 18 + s.getF (Reg.AUXP_P_DUTY_OW q) 0 16)
    let nan := decide (fld d 23 8 = 255 ∧ fld d 0 23 ≠ 0)
    let m := if nan then 0 else fclampW (fabsW d) 0 (s.getR (Reg.AUXP_P_MAX_DUTY q))
    (s.modAux q (fun x => { x with mag := m, neg := bit d 31 && !nan })).auxCommutate q
  else s

/-- The speeds go to Main SRAM at E0 with SPD_EN (R403). -/
def State.auxE0 (s : State) : State :=
  if s.awake && !s.idle Pg.AUXP && s.getB Reg.AUXP_CTRL 0 then
    let b := s.getF Reg.AUXP_SPD_BASE 0 18
    (s.setSramW b (s.getR (Reg.AUXP_P_SPEED 0))).setSramW (b + 1) (s.getR (Reg.AUXP_P_SPEED 1))
  else s

/-- SPEED from an interval in fabric ticks, signed by the direction; an interval of 0 has no stated speed: a free value (R401). -/
def State.auxSpeed (s : State) (q iv : Nat) (rev : Bool) : State :=
  let pp := s.getF (Reg.AUXP_P_CFG q) 4 4
  if iv = 0 ∨ pp = 0 then let (w, s1) := s.takeFree; s1.setR (Reg.AUXP_P_SPEED q) w
  else
    let v := qRat 2000000000 (iv * pp)
    s.setNear (Reg.AUXP_P_SPEED q) (if rev then -v else v)

/-- A valid edge (R399, R401, R402): position, direction, interval and speed; at a reversal the interval is discarded. -/
def State.auxEdge (s : State) (q : Nat) (rev : Bool) : State :=
  let x := s.aux q
  let s1 := s.setF (Reg.AUXP_P_POS q) 0 16 (if rev then s.getF (Reg.AUXP_P_POS q) 0 16 + 65535 else s.getF (Reg.AUXP_P_POS q) 0 16 + 1)
  let s2 := (s1.setB (Reg.AUXP_P_STAT q) 5 rev).setB (Reg.AUXP_P_STAT q) 6 false
  let turn := decide (x.lastDir = some (!rev))
  let s3 := if turn then s2.blockEv Pg.AUXP else s2
  let s4 := match x.lastTick with
    | none => s3
    | some t =>
      if turn || x.discard then s3
      else
        let iv := (s.clk.tick - t) / 8
        (s3.setR (Reg.AUXP_P_INTERVAL q) (w32 (min iv 0xFFFFFFFF))).auxSpeed q iv rev
  s4.modAux q (fun x => { x with lastTick := some s.clk.tick, lastDir := some rev, discard := false })

/-- HALL_EDGE (R399): the filtered state of port `port` becomes `h`; the first one after the port starts is no edge. -/
def execHallEdge (port : Fin 2) (h : BitVec 3) (s : State) : Host.Outcome State Fault Refusal :=
  let x := s.aux port
  if !s.auxOn port || (x.known && decide (x.hall = h)) then done s
  else
    let s1 := s.modAux port (fun x => { x with known := true, hall := h, edgeAt := s.clk.tick })
    let s2 := match hallPlace h, hallPlace x.hall with
      | none, old =>
        let t := (s1.incSat (Reg.AUXP_P_HALL_ERR_CNT port)).irq Pg.AUXP 2
        -- one entry per run of invalid states
        if old.isSome || !x.known then t.logE 2 (some 2) Pg.AUXP 0 [] else t
      | some n, some o =>
        if !x.known then s1
        else if n = (o + 1) % 6 then s1.auxEdge port false
        else if o = (n + 1) % 6 then s1.auxEdge port true
        else s1.incSat (Reg.AUXP_P_SKIP_CNT port)
      | some _, none => if x.known then s1.incSat (Reg.AUXP_P_SKIP_CNT port) else s1
    done (s2.auxCommutate port)

/-- HALL_STALL (R401): no edge for STALL_T ms. -/
def execHallStall (port : Fin 2) (s : State) : Host.Outcome State Fault Refusal :=
  if s.auxOn port && !s.getB (Reg.AUXP_P_STAT port) 6 then
    let s1 := s.advanceTo ((s.aux port).edgeAt + s.getF (Reg.AUXP_P_STALL_T port) 0 16 * tickMs)
    let s2 := ((s1.setR (Reg.AUXP_P_SPEED port) 0).setB (Reg.AUXP_P_STAT port) 6 true).irq Pg.AUXP port.val
    done (s2.modAux port (fun x => { x with discard := true }))
  else done s

/-- P.STAT (R405). -/
def State.auxStat (s : State) (q : Nat) : Word :=
  let x := s.aux q
  w32 (x.hall.toNat + 16 * b2n (x.known && (hallPlace x.hall).isNone) + fld (s.getR (Reg.AUXP_P_STAT q)) 5 2 * 32 + 128 * b2n s.standbyHold)

/-- A write to P.CFG: in CONFIGURE; POLE_PAIRS not 0; with DRV = 0 the three generators must have PAIR = 1, SRC = 0 and AUTOCOMMIT = 0
(R398, R405). -/
def State.auxCfgOp (s : State) (q : Nat) (v : Word) : State :=
  let ready := (List.range 3).all (fun k => let c := s.getR (Reg.PWMn_CTRL (6 + 3 * q + k)); bit c 5 && !bit c 8 && !bit c 4)
  if s.pw.mode ≠ .configure ∨ fld v 4 4 = 0 ∨ (bit v 0 && !bit v 1 && !ready) then s.refuse Pg.AUXP
  else
    let s1 := s.setR (Reg.AUXP_P_CFG q) v
    if bit v 0 && s.getB (Reg.AUXP_P_CFG q) 0 then s1 else s1.modAux q (fun _ => { aux0 with edgeAt := s.clk.tick })

/-- A write to SPD_BASE, MAX_DUTY or STALL_T (R403, R405). -/
def State.auxSpdBaseOp (s : State) (v : Word) : State :=
  if s.pw.mode ≠ .configure ∨ 262144 < fld v 0 18 + 2 then s.refuse Pg.AUXP else s.setR Reg.AUXP_SPD_BASE v
def State.auxMaxDutyOp (s : State) (q : Nat) (v : Word) : State :=
  if fleW 0 v && fleW v 0x3F800000 then s.setR (Reg.AUXP_P_MAX_DUTY q) v else s.refuse Pg.AUXP
def State.auxStallOp (s : State) (q : Nat) (v : Word) : State :=
  if fld v 0 16 = 0 then s.refuse Pg.AUXP else s.setR (Reg.AUXP_P_STALL_T q) v

/-- P.CLEAR (R405). -/
def State.auxClearOp (s : State) (q : Nat) : State := (s.setR (Reg.AUXP_P_SKIP_CNT q) 0).setR (Reg.AUXP_P_HALL_ERR_CNT q) 0
/-- AUXP_CLEAR (R405). -/
def execAuxpClear (port : Fin 2) (s : State) : Host.Outcome State Fault Refusal := hostCmd s Pg.AUXP (fun s => s.auxClearOp port)

end Sys2Proof.Machine
end

