-- ==== Sys2Proof/Machine/Pwm.lean ====
section
/-! DEFINITION. The commands of the PWM generators (spec/09_pwm_generators.md). -/
namespace Sys2Proof.Machine

/-- Does generator `g` work in this role and run? -/
def State.pwmRuns (s : State) (g : Nat) : Bool := s.awake && !s.idle (Pg.PWMn g) && (s.gen g).running

/-- PWM_BOUNDARY (R168, R170): the next time the position is 0. -/
def execPwmBoundary (gen : Fin 12) (s : State) : Host.Outcome State Fault Refusal :=
  if s.pwmRuns gen then
    let at_ : Int := (s.gen gen).t0 + ((s.gen gen).prd : Nat)
    done ((s.advanceTo at_.toNat).pwmBoundary gen at_)
  else done s

/-- PWM_MID (R168, R170): t = PRD/2 of an up-down period, once in the period. -/
def execPwmMid (gen : Fin 12) (s : State) : Host.Outcome State Fault Refusal :=
  if s.pwmRuns gen && s.pwmUpDown gen && !(s.gen gen).half then
    let at_ : Int := (s.gen gen).t0 + ((s.gen gen).prd / 2 : Nat)
    done ((s.advanceTo at_.toNat).pwmMid gen at_)
  else done s

/-- What the next edge of a generator is. -/
inductive PwmEdge where
  /-- a placed falling edge of the output -/
  | place (b : Bool)
  /-- a raw channel falls -/
  | rawFall (b : Bool)
  /-- a raw channel rises -/
  | rawRise (b : Bool)
  /-- an output's rise after its dead time -/
  | rise (b : Bool)

/-- Instants of the edges of one output, with what they are, in the order in which equal instants are taken. -/
def State.edgesOf (s : State) (g : Nat) (b : Bool) : List (Option (Int × PwmEdge)) :=
  let p := s.gen g
  let o := p.out b
  let w := s.rawWindow g b
  let own := !b || s.pwmIndep g
  [o.place.map (fun t => (t, .place b)),
   if own && o.raw && decide (w.2 < p.prd) && (!s.pwmUpDown g || p.half) then some (p.t0 + w.2, .rawFall b) else none,
   if own && !o.raw && s.pwmUpDown g && !p.half && decide (w.1 < w.2) then some (p.t0 + w.1, .rawRise b) else none,
   o.pend.map (fun t => (t, .rise b))]

/-- The earlier of two edges; the first where they fall together. -/
def earlier (a b : Option (Int × PwmEdge)) : Option (Int × PwmEdge) :=
  match a, b with
  | none, y => y
  | x, none => x
  | some x, some y => if y.1 < x.1 then some y else some x

/-- The next edge of generator `g` within the period under way (R169, R173, R174). -/
def State.nextEdge (s : State) (g : Nat) : Option (Int × PwmEdge) :=
  let p := s.gen g
  let all := (s.edgesOf g false).zip (s.edgesOf g true)
  match all.foldl (fun acc e => earlier (earlier acc e.1) e.2) none with
  | none => none
  | some e => if e.1 < p.t0 + p.prd then some e else none

/-- An edge takes place. -/
def State.takeEdge (s : State) (g : Nat) (t : Int) : PwmEdge → State
  | .place b => s.pwmFall g b t
  | .rawFall b => s.rawSet g b false t
  | .rawRise b => s.rawSet g b true t
  | .rise b => s.tryRise g b t

/-- PWM_COMPARE_EDGE (R169, R173–R175): the next compare position, dead-time end or placed fall of the period. -/
def execPwmCompareEdge (gen : Fin 12) (s : State) : Host.Outcome State Fault Refusal :=
  if s.pwmRuns gen then
    match s.nextEdge gen with
    | none => done s
    | some (t, e) => done ((s.advanceTo t.toNat).takeEdge gen t e)
  else done s

/-- TRIGGER_COMPARE_EVENT (R176): once per period, at t = CMPC or CMPD, blocked or not; it triggers the converters that select it. -/
def execTriggerCompareEvent (gen : Fin 12) (cmpd : Bool) (s : State) : Host.Outcome State Fault Refusal :=
  let p := s.gen gen
  let v := s.getF (if cmpd then Reg.PWMn_CMPD gen else Reg.PWMn_CMPC gen) 0 24
  let at_ : Int := p.t0 + v
  if s.pwmRuns gen && decide (v < p.prd) && !(if cmpd then p.dDone else p.cDone) && decide ((s.clk.tick : Int) ≤ at_) then
    let s1 := (s.advanceTo at_.toNat).modGen gen (fun p => if cmpd then { p with dDone := true } else { p with cDone := true })
    let b := if cmpd then 6 else 5
    let s2 := s1.irqIf (s1.getB (Hdr.IRQ_EN (Pg.PWMn gen)) b) (Pg.PWMn gen) b
    done (s2.adcFire (2 * gen.val + (if cmpd then 2 else 1)))
  else done s

/-- SYNC_OUT_PULSE (R181): the source generator reaches SYNCO_PHASE; the ball is high for 50 ns. -/
def execSyncOutPulse (s : State) : Host.Outcome State Fault Refusal :=
  let g := s.getF Reg.PWMC_SYNCO 0 4
  let ph := s.getF Reg.PWMC_SYNCO_PHASE 0 24
  let p := s.gen g
  if s.getB Reg.PWMC_SYNCO 4 && !s.getB Reg.TIME_IO_CFG 0 && decide (g < 12) && s.pwmRuns g && decide (ph < p.prd) then
    let wait := ((ph : Int) - s.pwmPos g) % (max 1 p.prd : Nat)
    let s1 := s.elapse wait.toNat
    done { s1 with syncOut := some (s1.clk.tick + 80) }
  else done s

/-- TZ_ASSERT (R177, R184): input TZn, after polarity and filter, takes a level; an assertion trips every generator that selects it. -/
def execTzAssert (tz : Fin 4) (level : Bool) (s : State) : Host.Outcome State Fault Refusal :=
  if !s.awake || s.getB Reg.PWMC_TZ_STAT tz = level then done s
  else
    let s1 := s.setB Reg.PWMC_TZ_STAT tz level
    if level then done ((((s1.setB Reg.PWMC_TZ_STAT (8 + tz) true).irq Pg.PWMC 0).blockEv Pg.PWMC).pwmTripAll tz) else done s1

/-- TRIP_CLR (R177): TRIP_STAT clears; the one-shot latch too once every one-shot source is inactive. -/
def State.pwmTripClrOp (s : State) (g : Nat) : State :=
  let live := s.tripLevel &&& s.getF (Reg.PWMn_TRIP_EN g) 0 20 &&& ((2 ^ 20 - 1) ^^^ s.getF (Reg.PWMn_TRIP_CBC g) 0 20)
  let s1 := s.setR (Reg.PWMn_TRIP_STAT g) 0
  if live = 0 then s1.modGen g (fun p => { p with oneShot := if p.oneShot = 1 then 2 else p.oneShot }) else s1

/-- PWM_TRIP_CLR (R177). -/
def execPwmTripClr (gen : Fin 12) (s : State) : Host.Outcome State Fault Refusal :=
  hostCmd s (Pg.PWMn gen) (fun s => s.pwmTripClrOp gen)

/-- TZ_CLR (R184). -/
def State.tzClrOp (s : State) : State := s.setF Reg.PWMC_TZ_STAT 8 4 0
/-- TZ_CLR (R184). -/
def execTzClr (s : State) : Host.Outcome State Fault Refusal := hostCmd s Pg.PWMC State.tzClrOp

/-- SYNC_IN_EDGE (R180): generators with SYNCI_EN go to SYNCI_PHASE on an edge of the selected polarity. -/
def execSyncInEdge (falling : Bool) (s : State) : Host.Outcome State Fault Refusal :=
  if !s.awake || s.getB Reg.PWMC_SYNCI_CFG 0 != falling then done s
  else done ((List.range 12).foldl (fun s g =>
    if s.pwmSynci g && !s.pwmLock g && s.pwmEn g && !s.idle (Pg.PWMn g) then s.pwmLoad g (s.getF (Reg.PWMn_SYNCI_PHASE g) 0 24) else s) s)

/-- A START write: the named generators that are enabled and follow neither the epoch nor SYNC_IN start at t = 0, all on the edge tick
2 fabric ticks after the write (R180). -/
def State.pwmStartOp (s : State) (mask : BitVec 12) : State :=
  (List.range 12).foldl (fun s g =>
    if mask.getLsbD g && s.pwmEn g && !s.pwmLock g && !s.pwmSynci g && !s.idle (Pg.PWMn g) then s.pwmLoad g 0 else s) (s.elapse 16)

/-- PWM_START (R180). -/
def execPwmStart (mask : BitVec 12) (s : State) : Host.Outcome State Fault Refusal := hostCmd s Pg.PWMC (fun s => s.pwmStartOp mask)

/-- A GCOMMIT write arms the commits of the named generators (R170). -/
def State.gcommitOp (s : State) (mask : BitVec 12) : State :=
  (List.range 12).foldl (fun s g => if mask.getLsbD g && !s.idle (Pg.PWMn g) then s.armCommit (Pg.PWMn g) else s) s

/-- GCOMMIT (R170). -/
def execGcommit (mask : BitVec 12) (s : State) : Host.Outcome State Fault Refusal := hostCmd s Pg.PWMC (fun s => s.gcommitOp mask)

/-- A host write to CMPA or CMPB: refused while the source is staged (R171) or AUXP owns the generator (R182); with AUTOCOMMIT a CMPA
write arms the commit (R170). -/
def State.cmpWriteOp (s : State) (g : Nat) (b : Bool) (data : Word) : State :=
  if s.pwmStaged g || s.auxOwns g then s.refuse (Pg.PWMn g)
  else
    let s1 := s.writeShadow (if b then Reg.PWMn_CMPB g else Reg.PWMn_CMPA g) (data &&& 0xFFFFFF)
    if !b && s.getB (Reg.PWMn_CTRL g) 4 then s1.armCommit (Pg.PWMn g) else s1

/-- CMPA_WRITE (R170, R171). -/
def execCmpaWrite (gen : Fin 12) (data : Word) (s : State) : Host.Outcome State Fault Refusal :=
  hostCmd s (Pg.PWMn gen) (fun s => s.cmpWriteOp gen false data)

/-- A host write to PRD: 800 and above, even in up-down counting, and a divisor of PERIOD under LOCK (R167, R179). -/
def State.prdWriteOp (s : State) (g : Nat) (data : Word) : State :=
  let v := fld data 0 24
  if v < 800 ∨ (s.pwmUpDown g = true ∧ v % 2 = 1) ∨ (s.pwmLock g = true ∧ s.period % v ≠ 0) then s.refuse (Pg.PWMn g)
  else s.writeShadow (Reg.PWMn_PRD g) (data &&& 0xFFFFFF)

/-- EN changes (R179, R180, R185): 0 stops the counter; 1 starts it at t = 0, or at the next E0 with LOCK, or at the next SYNC_IN edge
with SYNCI_EN; while a RELOCK stops the clocks it waits for them. -/
def State.pwmEnable (s : State) (g : Nat) (was now : Bool) : State :=
  if !now then (s.pwmStop g).modGen g (fun p => { p with pos := s.pwmPos g, frozen := false })
  else if was then s
  else if s.pwmLock g then s.modGen g (fun p => { p with startE0 := true })
  else if s.pwmSynci g then s
  else if s.clk.relock then s.modGen g (fun p => { p with frozen := true, pos := 0 })
  else s.pwmLoad g 0

/-- A write to CTRL (R167, R180, R185): refused where it changes bits 11:5 or 3:1 outside CONFIGURE, sets LOCK with SYNCI_EN, or selects
up-down counting with an odd PRD in force or in its shadow. -/
def State.pwmCtrlOp (s : State) (g : Nat) (data : Word) : State :=
  let old := s.getR (Reg.PWMn_CTRL g)
  let v0 := data &&& 0xFFF
  let v := if s.pw.role = .cell then putBit (putBit v0 6 true) 8 true else v0
  let odd (w : Word) : Bool := bit w 0
  if (decide (s.pw.mode ≠ .configure) && decide ((v ^^^ s.pwmCtrl g) &&& 0xFEE ≠ 0)) || (bit v 6 && bit v 7) ||
      (bit v 1 && (odd (s.getR (Reg.PWMn_PRD g)) || odd (s.staged (Reg.PWMn_PRD g)))) then s.refuse (Pg.PWMn g)
  else (((s.setR (Reg.PWMn_CTRL g) v).pwmEnable g (bit old 0) (bit v 0))).judgeLock g

/-- PWM_CTRL_WRITE (R185). -/
def execPwmCtrlWrite (gen : Fin 12) (data : Word) (s : State) : Host.Outcome State Fault Refusal :=
  hostCmd s (Pg.PWMn gen) (fun s => s.pwmCtrlOp gen data)

/-- A host write to EPOCH_PHASE (R179, R182): read only in the Cell role; it must be below PRD. -/
def State.epochPhaseOp (s : State) (g : Nat) (data : Word) : State :=
  if s.pw.role = .cell then s
  else if s.getF (Reg.PWMn_PRD g) 0 24 ≤ fld data 0 24 then s.refuse (Pg.PWMn g)
  else (s.setR (Reg.PWMn_EPOCH_PHASE g) (data &&& 0xFFFFFF)).modGen g (fun p => { p with loadE0 := true })

/-- STAT_CLR bit 0 (R172): CLAMPED sets again at once while a compare value in force exceeds PRD in force. -/
def State.pwmClrFlagsOp (s : State) (g : Nat) : State := (s.setF (Reg.PWMn_STAT g) 4 2 0).markClamped g
/-- PWM_STAT_CLR_FLAGS (R172). -/
def execPwmStatClrFlags (gen : Fin 12) (s : State) : Host.Outcome State Fault Refusal :=
  hostCmd s (Pg.PWMn gen) (fun s => s.pwmClrFlagsOp gen)

/-- STAT_CLR bit 1 (R185). -/
def State.pwmClrCountersOp (s : State) (g : Nat) : State :=
  ((((s.setR (Reg.PWMn_SPLIT_CNT g) 0).setR (Reg.PWMn_MP_DROP_CNT g) 0).setR (Reg.PWMn_MP_STRETCH_CNT g) 0).setR
    (Reg.PWMn_TRIP_CNT g) 0).setR (Reg.PWMn_LOCK_SLIP_CNT g) 0
/-- PWM_STAT_CLR_COUNTERS (R185). -/
def execPwmStatClrCounters (gen : Fin 12) (s : State) : Host.Outcome State Fault Refusal :=
  hostCmd s (Pg.PWMn gen) (fun s => s.pwmClrCountersOp gen)

/-- A PWMC register that is writable in CONFIGURE only (R184: PRECHARGE). -/
def State.pwmcPrechargeOp (s : State) (data : Word) : State :=
  if s.pw.mode = .configure then s.setR Reg.PWMC_PRECHARGE (data &&& 0xFFF) else s.refuse Pg.PWMC

end Sys2Proof.Machine
end

