-- ==== Sys2Proof/Machine/Handles.lean ====
section
/-! DEFINITION. Handles and selector registers (R40, R41). -/
namespace Sys2Proof.Machine

/-- The current generation of the slot at index `ix` of class `cls`, and whether its object exists; none outside the class's range
(R40). -/
def State.slotOf (s : State) (cls ix : Nat) : Option (Nat × Bool) :=
  match cls with
  | 1 => if ix < 128 then some ((s.chan ix).gen, decide ((s.chan ix).st ≠ 0)) else none
  | 2 => if ix < 64 then some ((s.trk ix).gen, (s.trk ix).alloc) else none
  | 3 => if ix < 16 then some ((s.prof ix).gen, (s.prof ix).alloc) else none
  | 4 => if ix < 768 then some ((s.dir ix).gen, (s.dir ix).exists_) else none
  | 5 => if ix < 64 then some ((s.sub ix).gen, (s.sub ix).alloc) else none
  | _ => none

/-- Is the handle valid (R40)? -/
def State.handleValid (s : State) (h : Word) : Bool :=
  match s.slotOf (hClass h) (hIndex h) with
  | none => false
  | some (g, e) => e && decide (g = hGen h)

/-- Is it a valid handle of class `cls`? -/
def State.validFor (s : State) (h : Word) (cls : Nat) : Bool := decide (hClass h = cls) && s.handleValid h

/-- A write or command through selector `sel` for objects of class `cls`, presented at address `at_` (R41): through null it is
refused; through a stale handle it is refused with the stale record and the selector takes null; otherwise `f` acts on the index. -/
def State.through (s : State) (sel : Nat) (cls at_ : Nat) (f : State → Nat → State) : State :=
  let h := s.getR sel
  if h = 0 then s.refuse (at_ / 4096)
  else if s.validFor h cls then f s (hIndex h)
  else (s.stale h at_).setR sel 0

/-- The index a read through a selector addresses; none through null or a stale handle, which reads 0 (R41). -/
def State.selIndex (s : State) (sel cls : Nat) : Option Nat :=
  let h := s.getR sel
  if h ≠ 0 && s.validFor h cls then some (hIndex h) else none

/-- A write to a selector register whose table does not list null: a valid handle of its class is taken; any other, 0 included, leaves
null, with the stale record (R41). -/
def State.selectOp (s : State) (sel cls : Nat) (h : Word) : State :=
  if s.validFor h cls then s.setR sel h else (s.stale h sel).setR sel 0

end Sys2Proof.Machine
end

