-- ==== Sys2Proof/Machine/Profiles.lean ====
section
/-! DEFINITION. Set-point profile generators (R118–R126, R139). -/
namespace Sys2Proof.Machine

/-! ## Commands -/

/-- The slot a CREATE takes among `n`: the one named when free, or the lowest free one (R103, R118, R127). -/
def pickSlot (free : Nat → Bool) (n : Nat) (slot : Option Nat) : Option Nat :=
  match slot with
  | some k => if k < n && free k then some k else none
  | none => (List.range n).find? free

/-- The registers of profile slot `n` take their reset values (R118). -/
def State.profRegsReset (s : State) (n : Nat) : State :=
  let lo := Reg.PROF_PS_STAT n
  { s with regs := s.regs.filter (fun e => !(decide (lo ≤ e.1) && decide (e.1 < lo + 0x40))),
           shadow := s.shadow.filter (fun e => !(decide (lo ≤ e.1) && decide (e.1 < lo + 0x40))) }

/-- PF_CMD CREATE (R118). -/
def State.pfCreateOp (s : State) (slot : Option Nat) : State :=
  match pickSlot (fun k => !(s.prof k).alloc) 16 slot with
  | none => (s.setR Reg.PROF_NEW_HANDLE 0).refuse Pg.PROF
  | some n =>
    let g := (s.prof n).gen
    let h := mkHandle 3 g n
    (((s.profRegsReset n).setProf n { freeProf g with alloc := true, st := 1 }).setR Reg.PROF_NEW_HANDLE h).setR Reg.PROF_PF_SEL h

/-- PF_CREATE (R118). -/
def execPfCreate (slot : Option (Fin 16)) (s : State) : Host.Outcome State Fault Refusal :=
  hostCmd s Pg.PROF (fun s => s.pfCreateOp (slot.map (·.val)))

/-- A command on the profile PF_SEL names. -/
def State.onProf (s : State) (f : State → Nat → State) : State := s.through Reg.PROF_PF_SEL 3 Reg.PROF_PF_CMD f

/-- DESTROY and SET are accepted in CONFIGURE, ARMED and SAFE (R118, R124). -/
def State.notRunModes (s : State) : Bool := decide (s.pw.mode = .configure ∨ s.pw.mode = .armed ∨ s.pw.mode = .safe)

/-- PF_CMD DESTROY (R118). -/
def State.pfDestroyOp (s : State) : State :=
  s.onProf (fun s n => if s.notRunModes then s.setProf n (freeProf (((s.prof n).gen + 1) % 256)) else s.refuse Pg.PROF)

/-- PF_DESTROY (R118). -/
def execPfDestroy (s : State) : Host.Outcome State Fault Refusal := hostCmd s Pg.PROF State.pfDestroyOp

/-- A command waits for the next E0 (R121). -/
def State.profQueue (s : State) (n c : Nat) : State := let p := s.prof n; s.setProf n { p with cmds := p.cmds ++ [c] }

/-- HOLD: refused in FSTOP and FSTOPPED (R122). -/
def State.pfHoldOp (s : State) : State :=
  s.onProf (fun s n => if 4 ≤ (s.prof n).st then s.refuse Pg.PROF else s.profQueue n 3)

/-- PF_HOLD (R122). -/
def execPfHold (s : State) : Host.Outcome State Fault Refusal := hostCmd s Pg.PROF State.pfHoldOp

/-- RELEASE (R122). -/
def State.pfReleaseOp (s : State) : State := s.onProf (fun s n => s.profQueue n 4)

/-- PF_RELEASE (R122). -/
def execPfRelease (s : State) : Host.Outcome State Fault Refusal := hostCmd s Pg.PROF State.pfReleaseOp

/-- FSTOP on slot `n` awaits the next E0 (R121, R123). -/
def State.fstopPend (s : State) (n : Nat) : State := s.setProf n { s.prof n with fsPend := true }

/-- PF_CMD FSTOP (R123). -/
def State.pfFstopOp (s : State) : State := s.onProf State.fstopPend

/-- PF_FSTOP (R123). -/
def execPfFstop (s : State) : Host.Outcome State Fault Refusal := hostCmd s Pg.PROF State.pfFstopOp

/-- FS_ALL: FSTOP on every allocated slot (R123, R139). -/
def State.fsAllOp (s : State) : State := (List.range 16).foldl (fun s n => if (s.prof n).alloc then s.fstopPend n else s) s

/-- FS_ALL (R123). -/
def execFsAll (s : State) : Host.Outcome State Fault Refusal := hostCmd s Pg.PROF State.fsAllOp

/-- RESUME (R123). -/
def State.pfResumeOp (s : State) : State := s.onProf (fun s n => s.profQueue n 6)

/-- PF_RESUME (R123). -/
def execPfResume (s : State) : Host.Outcome State Fault Refusal := hostCmd s Pg.PROF State.pfResumeOp

/-- SET: refused in RUN (R124). -/
def State.pfSetOp (s : State) : State := s.onProf (fun s n => if s.notRunModes then s.profQueue n 7 else s.refuse Pg.PROF)

/-- PF_SET (R124). -/
def execPfSet (s : State) : Host.Outcome State Fault Refusal := hostCmd s Pg.PROF State.pfSetOp

/-- The CMD field of a PF_CMD write (R139). -/
def State.pfCmdOp (s : State) (data : Word) : State :=
  match fld data 0 4 with
  | 0 => s
  | 1 => s.pfCreateOp (if bit data 15 then some (fld data 8 4) else none)
  | 2 => s.pfDestroyOp
  | 3 => s.pfHoldOp
  | 4 => s.pfReleaseOp
  | 5 => s.pfFstopOp
  | 6 => s.pfResumeOp
  | 7 => s.pfSetOp
  | _ => s.refuse Pg.PROF

/-! ## Commit (R119) -/

/-- One committed limit: not taken, and counted, unless positive and finite (R119). -/
def State.commitLimit (s : State) (a : Nat) : State × Bool :=
  match SMap.find a s.shadow with
  | none => (s, false)
  | some v =>
    let s1 := { s with shadow := SMap.erase a s.shadow }
    if fposFin v then (s1.setR a v, decide (v ≠ s.getR a)) else (s1.refuse Pg.PROF, false)

/-- The committed TARGET of slot `n`, clamped into [LIM_LO, LIM_HI] (R119). -/
def State.commitTarget (s : State) (n : Nat) : State × Bool :=
  match SMap.find (Reg.PROF_PS_TARGET n) s.shadow with
  | none => (s, false)
  | some v =>
    let t := fclampW v (s.getR (Reg.PROF_PS_LIM_LO n)) (s.getR (Reg.PROF_PS_LIM_HI n))
    let c := !(feq (fdec t) (fdec v)).getD false
    let s1 := { s with shadow := SMap.erase (Reg.PROF_PS_TARGET n) s.shadow }
    let s2 := (s1.setProf n { s1.prof n with tgtClamp := c }).irqIf c Pg.PROF 2
    (s2.setR (Reg.PROF_PS_TARGET n) t, decide (t ≠ s.getR (Reg.PROF_PS_TARGET n)))

/-- The committed values of slot `n` (R119). -/
def State.commitSlot (s : State) (n : Nat) : State :=
  let (s1, c1) := s.commitTarget n
  let (s2, c2) := s1.commitLimit (Reg.PROF_PS_RATE n)
  let (s3, c3) := s2.commitLimit (Reg.PROF_PS_ACCEL n)
  let (s4, c4) := s3.commitLimit (Reg.PROF_PS_JERK n)
  s4.setProf n { s4.prof n with changed := c1 || c2 || c3 || c4 }

/-- Step (3) of R15 for PROF: every slot commits together (R119). -/
def State.commitProf (s : State) : State :=
  if s.getB (Hdr.SHADOW_CTRL Pg.PROF) 8 then
    ((List.range 16).foldl (fun s n => if (s.prof n).alloc then s.commitSlot n else s) s).setF (Hdr.SHADOW_CTRL Pg.PROF) 8 2 0
  else s

/-! ## Advance (R120–R123) -/

/-- The period in seconds, in fixed point (R67: 0.625 ns an edge tick). -/
def State.periodFix (s : State) : Int := (s.period : Int) * 625 * trajOne / 1000000000000

/-- T_S, word 3: the period in seconds (R93). -/
def State.tS (s : State) : Word := fOfRat (s.period * 625) 1000000000000

/-- The motion of slot `n` now: the output reached, with the velocity and acceleration of its trajectory (R120). -/
def State.profMotion (s : State) (n : Nat) : Motion :=
  let p := s.prof n
  let y := fixOf trajBits (s.getR (Reg.PROF_PS_Y n))
  if p.st = 2 then
    let m := (Motion.mk p.y0 p.v0 p.a0).atTime (p.at_ * s.periodFix) p.spans
    ⟨y, m.v, m.a⟩
  else ⟨y, fixOf trajBits (s.getR (Reg.PROF_PS_V n)), fixOf trajBits (s.getR (Reg.PROF_PS_A n))⟩

/-- A replan of slot `n` toward TARGET; it enters MOVING and counts (R120, R139). -/
def State.replan (s : State) (n : Nat) : State :=
  let m := s.profMotion n
  let l : Limits := ⟨fixOf trajBits (s.getR (Reg.PROF_PS_RATE n)), fixOf trajBits (s.getR (Reg.PROF_PS_ACCEL n)),
    fixOf trajBits (s.getR (Reg.PROF_PS_JERK n))⟩
  let sp := planSpans l m (fixOf trajBits (s.getR (Reg.PROF_PS_TARGET n)))
  (s.setProf n { s.prof n with st := 2, spans := sp, y0 := m.y, v0 := m.v, a0 := m.a, at_ := 0, ended := false }).blockEv Pg.PROF

/-- `s` with the output, velocity and acceleration of slot `n`. -/
def State.setYva (s : State) (n : Nat) (y v a : Word) : State :=
  ((s.setR (Reg.PROF_PS_Y n) y).setR (Reg.PROF_PS_V n) v).setR (Reg.PROF_PS_A n) a

/-- The output word for an ideal value: any word within 1 × 10^−6 pu of it, the choice a free value (R120). -/
def State.freeNear (s : State) (ideal : Int) : Word × State :=
  let (w, s1) := s.takeFree
  if !fNonFinite w && decide ((fixOf trajBits w - ideal).natAbs ≤ trajOne.natAbs / 1000000) then (w, s1) else (ofFix trajBits ideal, s1)

/-- The next value of the trajectory of a MOVING slot; its end is TARGET exactly (R120). -/
def State.profAdvance (s : State) (n : Nat) : State :=
  let p := s.prof n
  let k := p.at_ + 1
  let t := k * s.periodFix
  let total := spanTime p.spans
  let s1 := s.setProf n { p with at_ := k }
  if total ≤ t then
    ((s1.setProf n { p with at_ := k, ended := true }).setYva n (s.getR (Reg.PROF_PS_TARGET n)) 0 0).setR (Reg.PROF_PS_REMAIN n) 0
  else
    let m := (Motion.mk p.y0 p.v0 p.a0).atTime t p.spans
    let (y, s2) := s1.freeNear m.y
    let left := ((total - t + s.periodFix - 1) / max 1 s.periodFix).toNat
    (s2.setYva n y (ofFix trajBits m.v) (ofFix trajBits m.a)).setR (Reg.PROF_PS_REMAIN n) (w32 (min left 0xFFFFFFFF))

/-- One step of a fast-stop ramp: FS_RATE × T_S toward FS_TARGET, the last step ending on it exactly (R123). -/
def State.fstopAdvance (s : State) (n : Nat) : State :=
  let y := s.getR (Reg.PROF_PS_Y n)
  let tgt := s.getR (Reg.PROF_PS_FS_TARGET n)
  let rate := s.getR (Reg.PROF_PS_FS_RATE n)
  let up := fltW y tgt
  let step := (fmulW rate s.tS).w
  let left := fabsW (fsubW tgt y).w
  let v := if up then rate else (fenc (fneg (fdec rate))).w
  if !fltW step left then
    ((s.setProf n { s.prof n with ended := true }).setYva n tgt v 0).setR (Reg.PROF_PS_REMAIN n) 0
  else
    let sv := fdec (if up then step else (fenc (fneg (fdec step))).w)
    let fused := (fenc (ffma (fdec v) (fdec s.tS) (fdec y))).w
    let (w, s1) := s.pick2 fused (fenc (fadd (fdec y) sv)).w
    s1.setYva n w v 0

/-- PROFILE_SETTLED (R120): the trajectory has ended; v and a are 0 and the slot is SETTLED. -/
def execProfileSettled (slot : Fin 16) (s : State) : Host.Outcome State Fault Refusal :=
  let p := s.prof slot
  if p.alloc && decide (p.st = 2) && p.ended then
    done (((s.setProf slot { p with st := 1, ended := false }).setYva slot (s.getR (Reg.PROF_PS_TARGET slot)) 0 0).irq Pg.PROF 0)
  else done s

/-- FSTOP_REACHED (R123): the ramp has ended on FS_TARGET. -/
def execFstopReached (slot : Fin 16) (s : State) : Host.Outcome State Fault Refusal :=
  let p := s.prof slot
  if p.alloc && decide (p.st = 4) && p.ended then
    done (((s.setProf slot { p with st := 5, ended := false }).setYva slot (s.getR (Reg.PROF_PS_FS_TARGET slot)) 0 0).irq Pg.PROF 1)
  else done s

/-- Entry to FSTOP (R123). -/
def State.profFstop (s : State) (n : Nat) : State :=
  let p := s.prof n
  (s.setProf n { p with st := 4, fsPend := false, ended := false }).logE 0 none Pg.PROF (mkHandle 3 p.gen n) []

/-- A HOLD, RELEASE, RESUME or SET takes effect (R121–R124). -/
def State.profCommand (s : State) (n c : Nat) : State :=
  let p := s.prof n
  match c with
  | 3 => if 4 ≤ p.st then s.refuse Pg.PROF
    else (s.setProf n { p with st := 3, ended := false }).setYva n (s.getR (Reg.PROF_PS_Y n)) 0 0
  | 4 => if p.st = 3 then s.replan n else s.refuse Pg.PROF
  | 6 => if p.st = 4 ∨ p.st = 5 then s.replan n else s.refuse Pg.PROF
  | _ =>
    let v := s.getR (Reg.PROF_PS_INIT n)
    let s1 := (s.setR (Reg.PROF_PS_TARGET n) v).setProf n { p with st := 1, ended := false }
    { (s1.setYva n v 0 0) with shadow := SMap.erase (Reg.PROF_PS_TARGET n) s1.shadow }

/-- One slot at E0, in the order of R121: fast stops, commands, replan, advance. `entered`: SAFE was entered since the last E0. -/
def State.profSlotE0 (s : State) (entered : Bool) (n : Nat) : State :=
  let p := s.prof n
  let fs := p.fsPend || (entered && s.getB (Reg.PROF_PS_CFG n) 1)
  let s1 := if fs then s.profFstop n else s
  let s2 := p.cmds.foldl (fun s c => s.profCommand n c) (s1.setProf n { s1.prof n with cmds := [], changed := false })
  let s3 := if p.changed && ((s2.prof n).st = 1 || (s2.prof n).st = 2) then s2.replan n else s2
  if (s3.prof n).ended then s3
  else if (s3.prof n).st = 2 then s3.profAdvance n
  else if (s3.prof n).st = 4 then s3.fstopAdvance n
  else s3

/-- PROF at E0: every slot advances, unless the echo supplies it (R126), and writes its Sump word 24 + n (R118). -/
def State.profE0 (s : State) : State :=
  let entered := s.pw.safeNew
  (List.range 16).foldl (fun s n =>
    let s1 := if (s.prof n).alloc && !s.echoNamed 2 n then s.profSlotE0 entered n else s
    s1.setSump (24 + n) (if (s1.prof n).alloc then s1.getR (Reg.PROF_PS_Y n) else 0)) s

/-! ## Register writes (R119, R123, R125, R139) -/

/-- A host write to word `o` of the PS block of slot `n`. -/
def State.psWriteOp (s : State) (n o : Nat) (data : Word) : State :=
  let a := Reg.PROF_PS_STAT n + o
  let p := s.prof n
  if !p.alloc then s.refuse Pg.PROF
  else if 0x04 ≤ o ∧ o ≤ 0x10 then
    if s.getB (Reg.PROF_PS_CFG n) 0 then s.refuse Pg.PROF
    else ({ s with shadow := SMap.insert a data s.shadow }).setB (Hdr.SHADOW_CTRL Pg.PROF) 9 true
  else if o = 0x18 then (if fposFin data then s.setR a data else s.refuse Pg.PROF)
  else if o = 0x34 then (if fltW data (s.getR (Reg.PROF_PS_LIM_HI n)) then s.setR a data else s.refuse Pg.PROF)
  else if o = 0x38 then (if fltW (s.getR (Reg.PROF_PS_LIM_LO n)) data then s.setR a data else s.refuse Pg.PROF)
  else if o = 0x30 then s.setR a (data &&& 3)
  else s.setR a data

/-- The sequencer's write of a CMT register it owns (R125). -/
def State.psSequencer (s : State) (n o : Nat) (data : Word) : State :=
  { s with shadow := SMap.insert (Reg.PROF_PS_STAT n + o) data s.shadow }

/-- PS[n].STAT (R139). -/
def State.psStat (s : State) (n : Nat) : Word :=
  let p := s.prof n
  w32 (p.gen * 256 + b2n p.tgtClamp * 8 + (if p.alloc then p.st else 0))

end Sys2Proof.Machine
end

