-- ==== Sys2Proof/Machine/PumpSeq.lean ====
section
/-! DEFINITION. The Pump's sequence within a period (R86, R90–R92): the main schedule at E2, the output set at E4, the slow lane, and
the end of the period. -/
namespace Sys2Proof.Machine

/-- The strokes of the segments due, with the number of strokes issued when each is done, after `n` strokes (R90). -/
def State.dueSegs (s : State) (pc n : Nat) : List Segment → List (BitVec 64) × List (Nat × Nat)
  | [] => ([], [])
  | g :: gs =>
    if (s.chan g.chan).due pc then
      let r := State.dueSegs s pc (n + g.len) gs
      (s.strokes s.pump.active g.base g.len ++ r.1, (g.chan, n + g.len) :: r.2)
    else State.dueSegs s pc n gs

/-- The main schedule of the period: system strokes up to the link point, the due segments, the remaining system strokes (R90). -/
def State.mainSchedule (s : State) : List (BitVec 64) × List (Nat × Nat) :=
  let b := s.pump.active
  let l := s.lay b
  let segLen := (l.segs.map (·.len)).foldl (· + ·) 0
  let r := s.dueSegs (s.getR Reg.TIME_PERIOD_CNT).toNat l.linkPos l.segs
  (s.strokes b 0 l.linkPos ++ r.1 ++ s.strokes b (l.linkPos + segLen) (l.sysMain - l.linkPos), r.2)

/-- E2: the main schedule begins in Pump cycle 1,600 with its predicates cleared (R84, R90). -/
def State.pumpStart (s : State) : State :=
  let s1 := (s.advanceTo (s.clk.e0 + 3200)).settleTo 1599
  let (ws, due) := s1.mainSchedule
  { s1 with pump.preds := 0, pump.run := if ws = [] then .idle else .main, pump.issue := ws, pump.cyc := 1600, pump.started := true,
            pump.due := due, pump.total := ws.length }

/-- PUMP_START (R90): once in a period with a bank in force. -/
def execPumpStart (s : State) : Host.Outcome State Fault Refusal :=
  if !s.awake || !s.clk.gen || !s.pump.inForce || s.pump.started || s.pump.e4Done then done s else done s.pumpStart

/-- OUT_PHASE in force: that of the bank in force, 0 while there is none (R10). -/
def State.outPhase (s : State) : Nat := if s.pump.inForce then (s.lay s.pump.active).outPhase else 0

/-- Every pending output word takes its value (R86). -/
def State.applyOut (s : State) : SMap (Option Word) → State
  | [] => s
  | (i, some w) :: r => State.applyOut (s.setSramW (s.getF (Reg.PUMP_RES_BASE 7) 0 18 + i) w) r
  | (_, none) :: r => State.applyOut s r

/-- The overrun at E4 (R91): counted, flagged, and in ARMED or RUN OVR_LIMIT of them in a row enter SAFE. -/
def State.overrunAtE4 (s : State) : State :=
  let live := decide (s.pw.mode = .armed ∨ s.pw.mode = .run)
  let n := if live then s.pump.overruns + 1 else 0
  let s1 := ((({ s with pump.overrun := true, pump.overruns := n }).incSat Reg.PUMP_OVR_CNT).irq Pg.PUMP 1)
  if live && decide (max 1 (s.getF Reg.PUMP_OVR_CFG 0 8) ≤ n) then s1.enterSafe SafeCause.ctrlFault else s1

/-- E4 for the Pump: the output set is committed when FIN has retired, and discarded whole when it has not (R12, R16, R86). -/
def State.outCommit (s : State) : State :=
  let s1 := s.settleTo (s.e4Cycle s.outPhase)
  let pend := s1.pump.outPend
  let s2 := { s1 with pump.outPend := [], pump.e4Done := true }
  if s1.pump.finAt.isSome then { (s2.applyOut pend) with pump.overruns := 0 } else s2.overrunAtE4

/-- Stroke number within the slow lane at which slice `j` begins (R92). -/
def sliceStart (lens : List Nat) (j : Nat) : Nat := (lens.take j).foldl (· + ·) 0

/-- A due slice begins in Pump cycle E4c + 1 with the predicates cleared (R84, R92). -/
def State.sliceBegin (s : State) (j : Nat) : State :=
  let l := s.lay s.pump.active
  let c := s.e4Cycle l.outPhase + 1
  let s1 := (s.advanceTo (s.clk.e0 + 2 * c)).settleTo (c - 1)
  let ws := s1.strokes s.pump.active (7168 + sliceStart l.sliceLen j) (l.sliceLen.getD j 0)
  ({ s1 with pump.preds := 0, pump.run := if ws = [] then .idle else .slow, pump.issue := ws, pump.cyc := c,
             pump.slice := none }).setF Reg.PUMP_SLOW_STAT 0 16 j

/-- SLOW_SLICE_START (R92): the slice chosen for the period, skipped in an overrun (R91). -/
def execSlowSliceStart (s : State) : Host.Outcome State Fault Refusal :=
  match s.pump.slice with
  | none => done s
  | some j => if !s.awake || !s.clk.gen || !s.pump.e4Done || s.pump.overrun || s.pump.run ≠ .idle then done s else done (s.sliceBegin j)

/-! ## The end of a period -/

/-- FIN_LAST and FIN_MAX of a period with a main schedule, and the entry of an overrun (R91). -/
def State.finRecord (s : State) : State :=
  if !s.pump.started then s
  else
    let v := s.pump.finAt.getD 0x1FFFF
    let s1 := (s.setR Reg.PUMP_FIN_LAST (w32 v)).modR Reg.PUMP_FIN_MAX (fun m => if m.toNat < v then w32 v else m)
    if s.pump.overrun then s1.logE 1 (some 1) Pg.PUMP 0 [(3, v)] else s1

/-- A slice still issuing is abandoned (R92). -/
def State.slowAbandon (s : State) : State :=
  if s.pump.run = .slow then (s.incSat Reg.PUMP_SLOW_ABANDON_CNT).irqLog 1 2 Pg.PUMP 0 [] else s

/-- The channels whose segment was issued whole have executed (R115). -/
def State.markExecuted (s : State) : State :=
  let issued := s.pump.total - (if s.pump.run = .main then s.pump.issue.length else 0)
  s.pump.due.foldl (fun s e => if e.2 ≤ issued then s.modChan e.1 (fun c => { c with executed := true }) else s) s

/-- What is still in the pipe at E0, with its cycles counted from the new E0. Output words of a schedule that is stopped, or of the main
schedule, and its FIN are discarded (R86, R91). -/
def pipeLeft (stopped : Bool) (cycles : Nat) (p : List (Nat × Retire × Bool)) : List (Nat × Retire × Bool) :=
  (p.filter (fun e => match e.2.1 with
    | .out _ _ => !stopped && !e.2.2
    | .fin => false
    | _ => true)).map (fun e => (e.1 - cycles, e.2.1, false))

/-- Writes that a slice retired after E4 join the next period's set (R86). -/
def mergeLate (m : SMap (Option Word)) : SMap (Option Word) → SMap (Option Word)
  | [] => m
  | (i, v) :: r => mergeLate (SMap.set none i v m) r

/-- The Pump at the E0 that ends a period: retirements of ended cycles, abandoned strokes, FIN_LAST, and a fresh period (R86, R91, R92). -/
def State.pumpEndPeriod (s : State) : State :=
  let cycles := (s.clk.tick - s.clk.e0) / 2
  let s1 := s.settleTo (cycles - 1)
  let stopped := decide (s1.pump.run ≠ .idle)
  let s2 := if s1.pump.run = .main then s1.setR Reg.PUMP_PRED (w32 s1.pump.preds.toNat) else s1
  let s3 := s2.markExecuted.slowAbandon.finRecord
  { s3 with
    pump.run := .idle, pump.issue := [], pump.cyc := 0, pump.started := false, pump.due := [], pump.total := 0, pump.slice := none,
    pump.finAt := none, pump.overrun := false, pump.e4Done := false, pump.pipe := pipeLeft stopped cycles s3.pump.pipe,
    pump.outPend := mergeLate [] s3.pump.outLate, pump.outLate := [] }

/-- Step (4) of R15: the slow lane selects its slice (R92). -/
def State.chooseSlice (s : State) : State :=
  let l := s.lay s.pump.active
  let j := (s.getR Reg.TIME_PERIOD_CNT).toNat % max 1 l.slowDiv
  let due := s.pump.inForce && decide (j < l.sliceLen.length)
  let s1 := { s with pump.slice := if due then some j else none }
  if due then s1 else s1.setF Reg.PUMP_SLOW_STAT 0 16 0xFFFF

end Sys2Proof.Machine
end

