-- ==== Sys2Proof/Machine/CellData.lean ====
section
/-! DEFINITION. What the trackers read of a cell (R128). -/
namespace Sys2Proof.Machine

/-- The array voltage and current of the cell a handle names, in V and A: valid while its age is one period and it reports RUN (R128,
R272). -/
def State.cellSample (s : State) (h : Word) : Option (Word × Word) :=
  if s.validFor h 4 then
    let e := s.dir (hIndex h)
    if e.age = 1 ∧ e.mode = 4 ∧ e.ind ≠ [] then some (fOfRat (indMilli e.ind 0) 1000, fOfRat (indMilli e.ind 1) 1000) else none
  else none

end Sys2Proof.Machine
end

