-- ==== Sys2Proof/Machine/Trackers.lean ====
section
/-! DEFINITION. Power-point trackers (R127–R133, R140). -/
namespace Sys2Proof.Machine

/-- A setting of tracker `n`, by its offset in the page (R140). -/
def TrkSlot.get (t : TrkSlot) (off : Nat) : Word := SMap.get (resetWord (pageBase Pg.TRACK + off)) off t.cfg

/-- A tracker with a setting stored. -/
def TrkSlot.put (t : TrkSlot) (off : Nat) (v : Word) : TrkSlot :=
  { t with cfg := SMap.set (resetWord (pageBase Pg.TRACK + off)) off v t.cfg }

/-- Vref of tracker `n`. -/
def State.vref (s : State) (n : Nat) : Word := s.getR (Reg.TRACK_VREF_V n)

/-- Tracker `n`'s word of the vector in Main SRAM takes its Vref; +0.0 for a FREE one (R127). -/
def State.writeVref (s : State) (n : Nat) : State :=
  s.setSramW (s.getF Reg.TRACK_VEC_BASE 0 18 + n) (if (s.trk n).alloc then s.vref n else 0)

/-- Vref limited to [V_MIN, V_MAX]. -/
def TrkSlot.clampV (t : TrkSlot) (v : Word) : Word := fclampW v (t.get 0x058) (t.get 0x05C)

/-! ## Commands -/

/-- The arrays of tracker `n` read 0 (R127: Vref = +0.0 at creation). -/
def State.trkArraysReset (s : State) (n : Nat) : State :=
  ((((s.setR (Reg.TRACK_VREF_V n) 0).setR (Reg.TRACK_P_V n) 0).setR (Reg.TRACK_V_V n) 0).setR (Reg.TRACK_I_V n) 0).setR (Reg.TRACK_STEP_V n) 0

/-- T_CMD CREATE (R127, R118). -/
def State.tCreateOp (s : State) (slot : Option Nat) : State :=
  match pickSlot (fun k => !(s.trk k).alloc) 64 slot with
  | none => (s.setR Reg.TRACK_NEW_HANDLE 0).refuse Pg.TRACK
  | some n =>
    let g := (s.trk n).gen
    let h := mkHandle 2 g n
    (((s.trkArraysReset n).setTrk n { freeTrk g with alloc := true, st := 1 }).setR Reg.TRACK_NEW_HANDLE h).setR Reg.TRACK_T_SEL h

/-- T_CREATE (R127). -/
def execTCreate (slot : Option (Fin 64)) (s : State) : Host.Outcome State Fault Refusal :=
  hostCmd s Pg.TRACK (fun s => s.tCreateOp (slot.map (·.val)))

/-- A command on the tracker T_SEL names. -/
def State.onTrk (s : State) (at_ : Nat) (f : State → Nat → State) : State := s.through Reg.TRACK_T_SEL 2 at_ f

/-- T_CMD DESTROY: only in STOPPED (R127). -/
def State.tDestroyOp (s : State) : State :=
  s.onTrk Reg.TRACK_T_CMD (fun s n =>
    if (s.trk n).st = 1 then (s.trkArraysReset n).setTrk n (freeTrk (((s.trk n).gen + 1) % 256)) else s.refuse Pg.TRACK)

/-- T_DESTROY (R127). -/
def execTDestroy (s : State) : Host.Outcome State Fault Refusal := hostCmd s Pg.TRACK State.tDestroyOp

/-- T_CMD START: Vref := clamp(V_START, V_MIN, V_MAX), TRACKING, and a baseline step first (R127). -/
def State.tStartOp (s : State) : State :=
  s.onTrk Reg.TRACK_T_CMD (fun s n =>
    let t := s.trk n
    (s.setTrk n { t with st := 2, baseline := true, sinceScan := 0, count := 0, stepDue := false, skips := 0 }).setR
      (Reg.TRACK_VREF_V n) (t.clampV (t.get 0x060)))

/-- T_START (R127). -/
def execTStart (s : State) : Host.Outcome State Fault Refusal := hostCmd s Pg.TRACK State.tStartOp

/-- T_CMD STOP: STOPPED, Vref held (R127). -/
def State.tStopOp (s : State) : State :=
  s.onTrk Reg.TRACK_T_CMD (fun s n => s.setTrk n { s.trk n with st := 1, stepDue := false, scanReq := false })

/-- T_STOP (R127). -/
def execTStop (s : State) : Host.Outcome State Fault Refusal := hostCmd s Pg.TRACK State.tStopOp

/-- T_CMD SCAN requests a scan at once (R127, R131). -/
def State.tScanOp (s : State) : State :=
  s.onTrk Reg.TRACK_T_CMD (fun s n => s.setTrk n { s.trk n with scanReq := true })

/-- T_SCAN (R131). -/
def execTScan (s : State) : Host.Outcome State Fault Refusal := hostCmd s Pg.TRACK State.tScanOp

/-- The CMD field of a T_CMD write (R140). -/
def State.tCmdOp (s : State) (data : Word) : State :=
  match fld data 0 4 with
  | 0 => s
  | 1 => s.tCreateOp (if bit data 15 then some (fld data 8 6) else none)
  | 2 => s.tDestroyOp
  | 3 => s.tStartOp
  | 4 => s.tStopOp
  | 5 => s.tScanOp
  | _ => s.refuse Pg.TRACK

/-- SCAN_INTERVAL_EXPIRE (R131): INTERVAL seconds of periods have passed since the last scan ended, or START. -/
def execScanIntervalExpire (slot : Fin 64) (s : State) : Host.Outcome State Fault Refusal :=
  let t := s.trk slot
  let iv := fld (t.get 0x080) 0 16
  if t.alloc && decide (2 ≤ t.st) && decide (0 < iv) && !t.scanReq && decide (iv * tickS ≤ t.sinceScan) then
    done (s.setTrk slot { t with scanReq := true })
  else done s

/-! ## Register writes (R128, R129, R140) -/

/-- DIV × PERIOD is within 1 ms to 10 ms (R129). -/
def State.divOk (s : State) (div : Nat) : Bool := decide (1600000 ≤ div * s.period ∧ div * s.period ≤ 16000000)

/-- A binary32 setting is finite and not negative (R140). -/
def f32Setting (v : Word) : Bool := !fNonFinite v && !fltW v 0

/-- Is a setting acceptable for tracker `t` (R128, R129, R140)? T_SRC is judged apart. -/
def State.trkSettingOk (s : State) (t : TrkSlot) (off : Nat) (v : Word) : Bool :=
  match off with
  | 0x054 => s.divOk (fld v 0 16) && decide (fld v 16 9 < fld v 0 16) && decide (fld v 28 4 < fld v 0 16)
  | 0x058 => f32Setting v && fltW v (t.get 0x05C)
  | 0x05C => f32Setting v && fltW (t.get 0x058) v
  | 0x068 => f32Setting v && fleW v (t.get 0x06C)
  | 0x06C => f32Setting v && fleW (t.get 0x068) v
  | 0x080 => decide (fld v 16 6 ≠ 0)
  | _ => f32Setting v

/-- The bits a setting keeps. -/
def trkMask (off : Nat) : Word := if off = 0x054 then 0xF1FFFFFF else if off = 0x080 then 0x003FFFFF else 0xFFFFFFFF

/-- A host write to a setting of the selected tracker (R140). -/
def State.trkWriteOp (s : State) (off : Nat) (data : Word) : State :=
  s.onTrk (pageBase Pg.TRACK + off) (fun s n =>
    let t := s.trk n
    if off = 0x050 then
      if !s.validFor data 4 then s.stale data Reg.TRACK_T_SRC
      else if s.busSideMember (hIndex data) then s.refuse Pg.TRACK
      else s.setTrk n (t.put off data)
    else if s.trkSettingOk t off data then
      let t1 := t.put off (data &&& trkMask off)
      s.setTrk n (if off = 0x054 then { t1 with rateClamp := false } else t1)
    else s.refuse Pg.TRACK)

/-- VEC_BASE: in CONFIGURE only, and word VEC_BASE + 63 inside Main SRAM (R127). -/
def State.vecBaseOp (s : State) (data : Word) : State :=
  let v := fld data 0 18
  if s.pw.mode ≠ .configure ∨ 262144 < v + 64 then s.refuse Pg.TRACK else s.setR Reg.TRACK_VEC_BASE (w32 v)

/-- A PERIOD commit puts DIV of tracker `n` back into range (R129). -/
def State.trkClampDiv (s : State) (n : Nat) : State :=
  let t := s.trk n
  let r := t.get 0x054
  if !t.alloc || s.divOk (fld r 0 16) then s
  else
    let p := max 1 s.period
    let d := if fld r 0 16 * p < 1600000 then (1600000 + p - 1) / p else 16000000 / p
    s.setTrk n { t.put 0x054 (putFld r 0 16 d) with rateClamp := true }

/-! ## Steps -/

/-- A valid sample joins the interval's averages (R129). -/
def TrkSlot.addSample (t : TrkSlot) (v i : Word) : TrkSlot :=
  { t with count := t.count + 1, sumV := t.sumV + fixOf 149 v, sumI := t.sumI + fixOf 149 i,
           runV := (faddW t.runV v).w, runI := (faddW t.runI i).w }

/-- The mean of the interval: the exact mean rounded once, or the binary32 sum divided; the rules do not say which (R129). -/
def State.trkMean (s : State) (sum : Int) (run : Word) (n : Nat) : Word × State :=
  s.pick2 (fOfRat sum (n * 2 ^ 149)) (fdivW run (fi2f (w32 n))).w

/-- Tracker `n` at E0: HELD outside RUN or in a ride-through (R133), and the interval's sample (R128, R129). -/
def State.trkE0 (s : State) (n : Nat) : State :=
  let t := s.trk n
  let free := decide (s.pw.mode = .run) && decide (s.sumpW 6 = 0)
  let t1 :=
    if (t.st = 2 ∨ t.st = 3) && !free then { t with st := 4, scanReq := t.scanReq || decide (t.st = 3), stepDue := false }
    else if t.st = 4 && free then { t with st := 2, baseline := true } else t
  let r := t1.get 0x054
  let div := max 1 (fld r 0 16)
  let ph := ((s.getR Reg.TIME_PERIOD_CNT).toNat + div - fld r 16 9 % div) % div
  let pos := if ph = 0 then div else ph
  let t2 := if pos = 1 then { t1 with count := 0, sumV := 0, sumI := 0, runV := 0, runI := 0, stepDue := false } else t1
  let t3 := if fld r 28 4 < pos then
      match s.cellSample (t2.get 0x050) with
      | some (v, i) => t2.addSample v i
      | none => t2
    else t2
  s.setTrk n { t3 with stepDue := decide (ph = 0) && decide (t3.st = 2 ∨ t3.st = 3), sinceScan := t3.sinceScan + s.period }

/-- Every tracker at E0, and the vector of references (R127). -/
def State.tracksE0 (s : State) : State :=
  (List.range 64).foldl (fun s n =>
    let s1 := if (s.trk n).alloc && !s.echoNamed 3 n then s.trkE0 n else s
    s1.writeVref n) s

/-- A skipped step (R130, R133). -/
def State.trkSkip (s : State) (n : Nat) : State :=
  let t := s.trk n
  let k := t.skips + 1
  let s1 := s.setTrk n { t with skips := k, skipCnt := if t.skipCnt = 0xFFFFFFFF then t.skipCnt else t.skipCnt + 1,
                                srcLost := t.srcLost || decide (3 ≤ k) }
  if k = 3 then s1.irqLog 2 1 Pg.TRACK (mkHandle 2 t.gen n) [] else s1

/-- Vref of scan point `i`: clamp(VOC × (0.5 + 0.5 × i / (N − 1)), V_MIN, V_MAX) (R132). -/
def State.scanPoint (s : State) (t : TrkSlot) (i : Nat) : Word × State :=
  let n1 := max 1 (fld (t.get 0x080) 16 6)
  let voc := t.get 0x064
  -- 0.5 + 0.5 × i / (N − 1) = (N − 1 + i) / (2 (N − 1))
  let exact := (fixOf 149 voc * (n1 + i), 2 * n1 * 2 ^ 149)
  let frac := (faddW 0x3F000000 (fdivW (fmulW 0x3F000000 (fi2f (w32 i))).w (fi2f (w32 n1))).w).w
  let (v, s1) := s.pick2 (fOfRat exact.1 exact.2) (fmulW voc frac).w
  (t.clampV v, s1)

/-- The averages of the step appear in the arrays (R140). -/
def State.trkShow (s : State) (n : Nat) (v i p : Word) : State :=
  ((s.setR (Reg.TRACK_V_V n) v).setR (Reg.TRACK_I_V n) i).setR (Reg.TRACK_P_V n) p

/-- The direction of R130 when the power is not limited. -/
def trkDir (t : TrkSlot) (v i dv di : Word) : Int :=
  if fltW (fabsW dv) (t.get 0x078) then
    (if fltW (fabsW di) (t.get 0x07C) then 0 else if fltW 0 di then 1 else -1)
  else
    let g := (faddW (fdivW di dv).w (fdivW i v).w).w
    if fleW (fabsW g) (t.get 0x074) then 0 else if fltW 0 g then 1 else -1

/-- An incremental-conductance step with averages V and I (R130). -/
def State.trkTrack (s : State) (n : Nat) (v i : Word) : State :=
  let t := s.trk n
  let dv := (fsubW v t.vp).w
  let di := (fsubW i t.ip).w
  let p := (fmulW v i).w
  let pl := t.get 0x084
  let cur := fltW 0 pl && fltW pl p
  let dir := if cur then 1 else trkDir t v i dv di
  let slope := if fltW (fabsW dv) (t.get 0x078) then 0 else fabsW (fdivW (fsubW p (fmulW t.vp t.ip).w).w dv).w
  let step := fclampW (fmulW (t.get 0x070) slope).w (t.get 0x068) (t.get 0x06C)
  let move := if dir = 0 then 0 else if dir = 1 then step else (fenc (fneg (fdec step))).w
  let s1 := (s.setR (Reg.TRACK_VREF_V n) (t.clampV (faddW (s.vref n) move).w)).setR (Reg.TRACK_STEP_V n) move
  (s1.setTrk n { t with curtail := cur, vp := v, ip := i }).trkShow n v i p

/-- Scan point `i` begins (R132). -/
def State.scanBegin (s : State) (n i : Nat) : State :=
  let (v, s1) := s.scanPoint (s.trk n) i
  (s1.setTrk n { s1.trk n with st := 3, scanPos := i, scanReq := false }).setR (Reg.TRACK_VREF_V n) v

/-- A scan point ends with its recorded power; after the last, Vref takes the best point (R132). -/
def State.scanEnd (s : State) (n : Nat) (best : Option (Word × Word)) : State :=
  let t := s.trk n
  if t.scanPos < fld (t.get 0x080) 16 6 then (s.setTrk n { t with best := best }).scanBegin n (t.scanPos + 1)
  else
    let v := match best with
      | some (_, w) => w
      | none => s.vref n
    let s1 := s.setTrk n { t with st := 2, baseline := true, scanPos := 0, best := none, sinceScan := 0 }
    ((s1.setR (Reg.TRACK_VREF_V n) v).blockEv Pg.TRACK).irq Pg.TRACK 0

/-- The larger recorded power; the first wins on a tie (R132). -/
def betterPoint (b : Option (Word × Word)) (p v : Word) : Option (Word × Word) :=
  match b with
  | none => some (p, v)
  | some (q, u) => if fltW q p then some (p, v) else some (q, u)

/-- One due step of tracker `n` (R130–R133). -/
def State.trackerStep (s : State) (n : Nat) : State :=
  let t := s.trk n
  let s0 := s.setTrk n { t with stepDue := false }
  let (v, s1) := if t.count = 0 then (0, s0) else s0.trkMean t.sumV t.runV t.count
  let (i, s2) := if t.count = 0 then (0, s1) else s1.trkMean t.sumI t.runI t.count
  let valid := decide (t.count ≠ 0) && fltW 0 v
  if t.st = 3 then
    if decide (t.count ≠ 0) then
      let p := (fmulW v i).w
      let s3 := (s2.setTrk n { s2.trk n with skips := 0, srcLost := false }).trkShow n v i p
      s3.scanEnd n (betterPoint t.best p (s.vref n))
    else (s2.trkSkip n).scanEnd n t.best
  else if t.scanReq && !t.curtail && !t.srcLost && decide (s.pw.mode = .run) then
    (s2.setTrk n { s2.trk n with best := none }).scanBegin n 0
  else if !valid then s2.trkSkip n
  else
    let s3 := s2.setTrk n { s2.trk n with skips := 0, srcLost := false }
    if t.baseline || t.srcLost then
      (s3.setTrk n { s3.trk n with vp := v, ip := i, baseline := false }).trkShow n v i (fmulW v i).w
    else s3.trkTrack n v i

/-- TRACKER_STEP (R130–R132): the step of a tracker whose interval ended at this E0; its word of the vector follows. -/
def execTrackerStep (slot : Fin 64) (s : State) : Host.Outcome State Fault Refusal :=
  if (s.trk slot).alloc && (s.trk slot).stepDue then done ((s.trackerStep slot).writeVref slot) else done s

/-- STAT_V[n] (R140). -/
def State.trkStat (s : State) (n : Nat) : Word :=
  let t := s.trk n
  let eq := fun off => (feq (fdec (s.vref n)) (fdec (t.get off))).getD false
  if !t.alloc then w32 (t.gen * 256)
  else w32 (t.scanPos * 65536 + t.gen * 256 + b2n t.rateClamp * 128 + b2n t.scanReq * 64 + b2n t.srcLost * 32 +
    b2n (eq 0x058 || eq 0x05C) * 16 + b2n t.curtail * 8 + t.st)

end Sys2Proof.Machine
end

