-- ==== Sys2Proof/Machine/Rings.lean ====
section
/-! DEFINITION. Rings, trains and the cell directory (spec/13_rings_trains_cells.md): what a Wellhead sends, what it takes back, training,
split service, takeover and the directory's commands. -/
namespace Sys2Proof.Machine

/-! ## Trains sent (R250–R256, R275) -/

/-- An output word in force (R86). -/
def State.outWord (s : State) (i : Nat) : Word := s.sramW (s.getF (Reg.PUMP_RES_BASE 7) 0 18 + i)

/-- `n` zero bytes. -/
def zeros (n : Nat) : List Byte := List.replicate n 0

/-- RUN, ARMED, CONFIGURE and SAFE to the code a slot commands, by the mode the cell reported (R253). -/
def slotMode (wellhead : Mode) (cell : Nat) : Nat :=
  match wellhead, cell with
  | .configure, 3 => 2
  | .configure, 4 => 3
  | .armed, 2 => 3
  | .armed, 4 => 3
  | .run, 2 => 3
  | .run, 3 => 4
  | .safe, 2 | .safe, 3 | .safe, 4 | .safe, 5 => 5
  | _, _ => 7

/-- One member of a twin keeps the pair blocked: not in SERVICE, BYPASSED, or last reporting COAST or FAULT (R289). -/
def DirEntry.holdsTwin (e : DirEntry) : Bool := decide (e.st ≠ 4) || e.bypassed || e.statusBit 5 || e.statusBit 4

/-- CMD.BLOCK of position `i`: either member of its twin holds the pair (R289). -/
def State.slotBlock (s : State) (i : Nat) : Bool :=
  match s.posTwin i with
  | none => false
  | some p => (s.posPv i || s.posPv p) && ((s.dir i).holdsTwin || (s.dir p).holdsTwin)

/-- The command word of position `i`; `served` while the train's section serves it (R252–R254). -/
def State.slotCmd (s : State) (i : Nat) (served : Bool) : Nat :=
  let e := s.dir i
  let valid := decide (e.st = 4) && served
  let pre := bit (s.pos i) 30 && decide (s.pw.mode = .armed) && s.getB Reg.PWR_PRECHARGE_EN 0
  e.gen % 256 * 256 + 128 * b2n valid + 64 * b2n (s.slotBlock i) + 32 * b2n e.bypassed + 16 * (planByte s.body 2 % 2) + 8 * b2n pre +
    (if valid then slotMode s.pw.mode e.mode else 7)

/-- An entry counts in its cluster: SERVICE and not BYPASSED (R272, R273). -/
def State.inCluster (s : State) (c i : Nat) : Bool :=
  planCell s.body i && decide (s.posCluster i = c) && decide ((s.dir i).st = 4) && !(s.dir i).bypassed

/-- The mirror indices the plan gives a cluster, ascending. -/
def State.clusterPlan (s : State) (c : Nat) : List Nat :=
  (List.range 768).filter (fun i => planCell s.body i && decide (s.posCluster i = c))

/-- CPHASE of position `i`: its cluster's carrier for the bypass count; a value the rules leave open for a position outside a cluster's
service, and beyond the table's four bypasses (R273). -/
def State.slotPhase (s : State) (i : Nat) : Nat :=
  let c := s.posCluster i
  let b := s.getF Reg.CELLS_BYP_CNT (4 * c) 4
  let j := ((s.clusterPlan c).filter (fun k => decide (k < i) && s.inCluster c k)).length
  if c < 6 ∧ s.inCluster c i ∧ b ≤ 4 ∧ j < 128 then planCarrier s.body c b j else (Config.freeWord (s.freeCtr + i)).toNat % 65536

/-- The Indicative part as sent: zeros and the inverse of their CRC-8 (R255). -/
def blankInd (pos : Nat) : List Byte :=
  zeros 19 ++ [BitVec.ofNat 8 (255 - crc8 (BitVec.ofNat 8 pos :: zeros 19))]

/-- The slot of position `pos` of ring `n` (R252, R255). -/
def State.slotBytes (s : State) (n pos : Nat) (served : Bool) : List Byte :=
  let i := 96 * n + pos
  let ow := s.posOw i
  let refs := if planCell s.body i then
      leBytes 2 (q15Of (s.outWord ow)).toNat ++
        leBytes 2 (if planByte s.body 2 % 2 = 0 then (q15Of (s.outWord (ow + 1))).toNat else turnCode 16 (s.outWord (ow + 1))) ++
        leBytes 2 (s.slotPhase i) ++ leBytes 2 (q15Of (s.outWord (ow + 2))).toNat
    else zeros 8
  let body := leBytes 2 (s.slotCmd i served) ++ refs ++ [BitVec.ofNat 8 (s.getR Reg.TIME_PERIOD_CNT).toNat]
  body ++ [BitVec.ofNat 8 (crc8 (BitVec.ofNat 8 pos :: body))] ++ blankInd pos

/-- EPOCH_T of the period: SEC × 10^9 + NS modulo 2^64 at its E0 (R251). -/
def State.epochT (s : State) : Nat :=
  ((s.getR Reg.TIME_EPOCH_SEC_LO).toNat + 2 ^ 32 * s.getF Reg.TIME_EPOCH_SEC_HI 0 16) * 1000000000 + (s.getR Reg.TIME_EPOCH_NS).toNat

/-- STEP: the output word STEP_WORD as a turn of 2^−32, 0 where none is planned (R252, R261). -/
def State.trainStep (s : State) : Nat :=
  let w := planHalf s.body 4
  if w = 0xFFFF then 0 else turnCode 32 (s.outWord w)

/-- The first 30 bytes of a header with their HCRC (R251). -/
def withHcrc (h : List Byte) : List Byte := h ++ leBytes 2 (crc16 h)

/-- The header of a train of ring `n` from this device (R251). -/
def State.trainHeader (s : State) (n : Nat) (bEnd section_ : Bool) (tune : BitVec 16) : List Byte :=
  let k := s.slots n
  withHcrc ([1, BitVec.ofNat 8 (n + 8 * b2n bEnd + 16 * b2n section_ + 32 * b2n (s.ring n).training), BitVec.ofNat 8 k,
      BitVec.ofNat 8 (planApply s.body)] ++ leBytes 4 (s.getR Reg.TIME_PERIOD_CNT).toNat ++ leBytes 8 s.epochT ++ leBytes 4 s.trainStep ++
    leBytes 2 tune.toNat ++ zeros 2 ++ leBytes 2 (b2n (decide (s.pw.mode = .safe))) ++
    [BitVec.ofNat 8 (if bEnd then k - 1 else 0)] ++ zeros 3)

/-- The word an echo entry names (R275). -/
def State.echoWord (s : State) (w : Word) : Word :=
  let ix := fld w 0 18
  match fld w 30 2 with
  | 0 => s.sumpW (ix % 1024)
  | 1 => s.sramW ix
  | 2 => match ix % 4 with
    | 0 => s.getR (Reg.PROF_PS_Y (ix / 4 % 16))
    | 1 => s.getR (Reg.PROF_PS_V (ix / 4 % 16))
    | 2 => s.getR (Reg.PROF_PS_A (ix / 4 % 16))
    | _ => w32 (s.prof (ix / 4 % 16)).st
  | _ => match ix % 4 with
    | 0 => s.getR (Reg.TRACK_VREF_V (ix / 4 % 64))
    | 1 => (s.trk (ix / 4 % 64)).vp
    | 2 => (s.trk (ix / 4 % 64)).ip
    | _ => w32 (s.trk (ix / 4 % 64)).st

/-- The ECHO field of ring `n` (R275). -/
def State.echoField (s : State) (n : Nat) : List Byte :=
  let k := min 52 (planEchoN s.body n)
  let ws := (List.range k).flatMap (fun e => leBytes 4 (s.echoWord (planEcho s.body n e)).toNat)
  leBytes 4 (s.getR Reg.TIME_PERIOD_CNT).toNat ++ [BitVec.ofNat 8 n, BitVec.ofNat 8 k, BitVec.ofNat 8 (modeCode s.pw.mode), 0] ++
    padTo 208 ws ++ leBytes 4 (s.getR Reg.PUMP_SWAP_CNT).toNat ++ zeros 4

/-- The request field of the aside area: empty, or a request under its tag (R256). -/
def requestField (tag : Nat) : Option IqReq → List Byte
  | none => zeros 16
  | some q =>
    let b := [BitVec.ofNat 8 tag, BitVec.ofNat 8 q.target, BitVec.ofNat 8 q.op, BitVec.ofNat 8 q.gen] ++ leBytes 4 q.addr.toNat ++
      leBytes 4 q.data.toNat ++ zeros 2
    b ++ leBytes 2 (crc16 b)

/-- Bytes with their CRC-32 (R250). -/
def withCrc32 (b : List Byte) : List Byte := b ++ leBytes 4 (crc32 b).toNat

/-- Position `pos` is served by trains from this end in the present section (R267). -/
def State.servedFrom (s : State) (n pos : Nat) (bEnd : Bool) : Bool :=
  if (s.ring n).st = 4 ∨ (s.ring n).section_ then
    (if bEnd then decide (s.pw.role = .standby ∨ (s.ring n).breakPos = 0xFF ∨ (s.ring n).breakPos < pos)
     else decide ((s.ring n).breakPos ≠ 0xFF ∧ pos ≤ (s.ring n).breakPos))
  else true

/-- A train of ring `n` (R250). -/
def State.train (s : State) (n : Nat) (bEnd : Bool) (tune : BitVec 16) (tag : Nat) (q : Option IqReq) : List Byte :=
  let sect := decide ((s.ring n).st = 4) || (s.ring n).section_
  withCrc32 (s.trainHeader n bEnd sect tune ++ (List.range (s.slots n)).flatMap (fun p => s.slotBytes n p (s.servedFrom n p bEnd)) ++
    requestField tag q ++ zeros 16 ++ s.echoField n)

/-! ### Departure at E4 (R12, R258) -/

/-- The Interrogative request of the next train of ring `n`: the host's, else one of the device's own, else the next slow word of a cell
that is trained; none while it trains (R271, R274, R294). -/
def slowRegs : List Nat :=
  [Reg.PWR_MODE_STAT, Reg.PWR_SAFE_CAUSE, Reg.PWR_REFUSE_WHY, Reg.PWR_BOOT_RESULT, Reg.CELL_STAT, Reg.CELL_LPROT_STAT, Reg.CELL_BYP_STAT,
    Reg.CELL_COAST_CNT, Reg.CELL_BLOCK_CNT, Reg.CELL_IMP_BAD_CNT, Reg.ISLC_GATE_STAT, Reg.ISLC_FAULT_FIRST, Reg.ISLC_SUPPLY_STAT] ++
    (List.range 8).map (fun k => Reg.ISLn_FAULT_STAT k) ++ (List.range 8).map (fun k => Reg.ISLn_NTC_RAW k) ++
    [Reg.TIME_CELL_TL, Reg.LANEn_FOM 0, Reg.LANEn_FOM 2]

/-- The next slow word from number `k` = 32 × position + word, among the positions whose cell is known and not lost. -/
def State.slowFrom (s : State) (n k : Nat) : Nat → Option Nat
  | 0 => none
  | fuel + 1 =>
    let m := k % (32 * max 1 (s.slots n))
    let e := s.dir (96 * n + m / 32)
    if e.st = 2 ∨ e.st = 3 ∨ e.st = 4 then some m else State.slowFrom s n ((m / 32 + 1) * 32) fuel

/-- The request for slow word number `m` of ring `n` (R294). -/
def State.slowReq (s : State) (n m : Nat) : IqReq :=
  { target := m / 32, op := 1, gen := (s.dir (96 * n + m / 32)).gen, addr := w32 (slowRegs.getD (m % 32) 0), data := 0, host := false,
    slow := some m }

/-- The request that goes into the train leaving now, and the ring after it. -/
def State.nextIq (s : State) (n : Nat) : Option IqReq × Ring :=
  let r := s.ring n
  if r.training || r.rejoining then (none, r)
  else match r.iqWait, r.own with
    | some q, _ => (some q, { r with iqWait := none })
    | none, q :: qs => (some q, { r with own := qs })
    | none, [] => match s.slowFrom n r.slowNext (s.slots n + 1) with
      | some m => (some (s.slowReq n m), { r with slowNext := m + 1 })
      | none => (none, r)

/-- The tune word of the next train: one to relay, else a request of this device's own receivers, as a command (R244). -/
def State.nextTune (s : State) (n : Nat) : BitVec 16 × State :=
  let r := s.ring n
  let asCmd (w : BitVec 16) : BitVec 16 := w ||| 0x8000
  if r.tune ≠ 0 then (r.tune, s.modRing n (fun r => { r with tune := 0 }))
  else match (s.lane (2 * n)).tuneReq, (s.lane (2 * n + 1)).tuneReq with
    | some w, _ => (asCmd w, s.modLane (2 * n) (fun l => { l with tuneReq := none }))
    | none, some w => (asCmd w, s.modLane (2 * n + 1) (fun l => { l with tuneReq := none }))
    | none, none => (0, s)

/-- The trains of ring `n` leave (R258, R267, R278). -/
def State.ringDepart (s : State) (n : Nat) : State :=
  let (tune, s1) := s.nextTune n
  let (q, r) := s1.nextIq n
  let tag := if q.isSome then r.tag % 255 + 1 else r.tag
  let bOnly := decide (s.pw.role = .standby)
  let two := decide ((s.ring n).st = 4 ∧ planTail s.body n = 1) && !bOnly
  let a := if bOnly then [] else s1.train n false tune tag q
  let b := if bOnly then s1.train n true tune tag q else if two then s1.train n true tune tag q else []
  let s2 := s1.modRing n (fun _ => { r with tag := tag, iqOut := q, txA := a, txB := b, sent := true })
  let s3 := (s2.blockEv (Pg.RINGn n)).lineTrain (2 * n) (if bOnly then b else a)
  let s4 := if two then (s3.blockEv (Pg.RINGn n)).lineTrain (2 * planTailPort s.body n) b else s3
  { s4 with freeCtr := s4.freeCtr + 768 }

/-- Every ring this device serves sends its train at E4 (R12, R277). -/
def State.ringsDepart (s : State) : State :=
  (List.range 8).foldl (fun s n =>
    if s.ringOn n && s.serves n && (s.ringIn n || (s.ring n).training) then s.ringDepart n else s) s

/-! ## Trains back (R257, R259, R274) -/

/-- A train has the length its ring's plan gives it, and FORMAT 0x01 (R250, R251). -/
def trainShape (bs : List Byte) : Bool :=
  decide (bs.length = 292 + 32 * (bs.getD 2 0).toNat) && decide (bs.getD 0 0 = 1)

/-- HCRC passes. -/
def hcrcOk (bs : List Byte) : Bool := decide (leNat ((bs.drop 30).take 2) = crc16 (bs.take 30))
/-- CRC-32 passes, unmarked. -/
def crc32Ok (bs : List Byte) : Bool :=
  let k := bs.length - 4
  decide (leNat (bs.drop k) = (crc32 (bs.take k)).toNat)
/-- SERVE_B of a header. -/
def fromB (bs : List Byte) : Bool := (bs.getD 1 0).getLsbD 3
/-- PCNT of a header. -/
def trainPcnt (bs : List Byte) : Nat := leNat ((bs.drop 4).take 4)
/-- The slot of position `p`. -/
def trainSlot (bs : List Byte) (p : Nat) : List Byte := (bs.drop (32 + 32 * p)).take 32
/-- The Indicative part of position `p`, and whether its XCRC passes (R255). -/
def trainInd (bs : List Byte) (p : Nat) : List Byte × Bool :=
  let ind := (trainSlot bs p).drop 12
  (ind, decide ((ind.getD 19 0).toNat = crc8 (BitVec.ofNat 8 p :: ind.take 19)))
/-- The aside area. -/
def trainAside (bs : List Byte) : List Byte := (bs.drop (32 + 32 * (bs.getD 2 0).toNat)).take 256

/-- A tune word that came back: a request goes out again as a command, and a command naming the Wellhead is its own (R244). -/
def State.tuneBack (s : State) (n : Nat) (w : BitVec 16) : State :=
  let target := w.toNat / 256 % 128
  if w = 0 ∨ w.toNat / 2 ^ 15 = 1 then s
  else if target = 127 then
    s.modLane (2 * n + w.toNat / 128 % 2) (fun l => { l with tuneCmd := some (w ||| 0x8000), tuneDue := false })
  else if target ≤ 95 then s.modRing n (fun r => { r with tune := w ||| 0x8000 })
  else s

/-- TRAIN_RETURN (R257, R259, R278): the train is checked and kept for the next E0; late when another period has begun. -/
def State.trainBack (s : State) (n : Nat) (bs : List Byte) : State :=
  let late := decide (trainPcnt bs ≠ (s.getR Reg.TIME_PERIOD_CNT).toNat)
  let e4 := s.clk.e0 + s.stepTick s.outPhase
  let took := if late then (s.clk.tick - e4 + s.period) * 5 / 8 else (s.clk.tick - e4) * 5 / 8
  let hOk := hcrcOk bs
  let cOk := crc32Ok bs
  let parts := (List.range (s.slots n)).filter (fun p => s.servedFrom n p (fromB bs))
  let bad := parts.filter (fun p => decide ((s.dir (96 * n + p)).st = 4) && !(trainInd bs p).2)
  let good := parts.filter (fun p => (trainInd bs p).2)
  let page := Pg.RINGn n
  let count (s : State) (a k : Nat) : State := s.modR a (fun w => w32 (min 0xFFFFFFFF (w.toNat + k)))
  let s1 := if hOk then s else s.incSat (Reg.RINGn_HCRC_ERR_CNT n)
  let s2 := if cOk then (if hOk then s1.incSat (Reg.RINGn_RX_OK_CNT n) else s1) else s1.incSat (Reg.RINGn_CRC32_ERR_CNT n)
  let s3 := count s2 (Reg.RINGn_SLOT_ERR_CNT n) bad.length
  let s4 := if late then (count s3 (Reg.RINGn_RET_LATE_CNT n) good.length).irq page 5 else s3
  let s5 := (s4.setR (Reg.RINGn_RET_LAST n) (w32 took)).modR (Reg.RINGn_RET_MAX n) (fun m => if m.toNat < took then w32 took else m)
  let drift := BitVec.ofNat 16 (leNat ((bs.drop 0x16).take 2))
  let s6 := if hOk && decide (drift.toInt.natAbs = 32767) then (s5.modRing n (fun r => { r with retrain := true })).irq page 3 else s5
  let s7 := if hOk then s6.tuneBack n (BitVec.ofNat 16 (leNat ((bs.drop 0x14).take 2))) else s6
  s7.modRing n (fun r => { r with ret := r.ret ++ [(bs, late)] })

/-- The data lane on which a train of ring `n` comes back to its serving end. -/
def State.returnLane (s : State) (n : Nat) (bEnd : Bool) : Nat :=
  if bEnd && decide (planTail s.body n = 1) && decide (s.pw.role ≠ .standby) then 2 * planTailPort s.body n else 2 * n

/-- TRAIN_RETURN (R232, R259). -/
def execTrainReturn (ring : Fin 8) (bytes : List Byte) (s : State) : Host.Outcome State Fault Refusal :=
  if !s.awake || !s.ringOn ring || !s.serves ring || !trainShape bytes || decide ((bytes.getD 2 0).toNat ≠ s.slots ring) then done s
  else done ((s.incSat (Reg.LANEn_TSTART_CNT (s.returnLane ring (fromB bytes)))).trainBack ring bytes)

/-! ### At the next E0 -/

/-- One valid Indicative part of position `i` is taken: AGE 1, or 2 where it came late; DIGEST_OK brings an admitted entry into SERVICE
(R259, R271, R272). -/
def State.takeInd (s : State) (i pcnt : Nat) (ind : List Byte) (late : Bool) : State :=
  let s1 := s.modDir i (fun e => { e with ind := ind, pcnt := w32 pcnt, age := if late then 2 else 1,
                                          icrcFails := satAdd 16 e.icrcFails (b2n ((leNat (ind.take 2)).testBit 10)) })
  if (s1.dir i).st = 3 && (s1.dir i).statusBit 6 then s1.dirState i 4 else s1

/-- The parts of one train back: those of its section with a good XCRC are taken, a failing one counts in its entry (R257, R272). -/
def State.takeTrain (s : State) (n : Nat) (bs : List Byte) (late : Bool) : State :=
  (List.range (s.slots n)).foldl (fun s p =>
    let i := 96 * n + p
    if !s.servedFrom n p (fromB bs) || decide ((s.dir i).st < 2) then s
    else
      let (ind, ok) := trainInd bs p
      if ok then s.takeInd i (trainPcnt bs) ind late else s.modDir i (fun e => { e with xcrcFails := satInc 16 e.xcrcFails })) s

/-- The position at which the trains back of ring `n` were turned round, with every part beyond it missing: the break of R267; 0xFF for no
train at all; none while the ring is whole. -/
def State.breakSeen (s : State) (n : Nat) : Option Nat :=
  let r := s.ring n
  let k := s.slots n
  if !r.sent then none
  else match (r.ret.filter (fun e => !fromB e.1)).getLast? with
    | none => some 0xFF
    | some (bs, _) =>
      (List.range k).find? (fun p =>
        let (ind, ok) := trainInd bs p
        ok && (leNat (ind.take 2)).testBit 8 && decide (p + 1 < k ∨ planTail s.body n ≠ 0) &&
          (List.range k).all (fun q => decide (q ≤ p) || !(trainInd bs q).2))

/-- Step 2 of R267: a break puts a ring with SPLIT_EN and a far end into split service. -/
def State.splitEnter (s : State) (n : Nat) : State :=
  if (s.ring n).st ≠ 3 ∨ (s.ring n).training ∨ !s.getB (Reg.RINGn_CFG n) 1 ∨ planTail s.body n = 0 ∨ s.pw.role = .standby then s
  else match s.breakSeen n with
    | none => s
    | some k =>
      ((s.modRing n (fun r => { r with st := 4, breakPos := k })).incSat (Reg.RINGn_SPLIT_CNT n)).irqLog 2 1 (Pg.RINGn n) 0 []

/-- The answer to the request in the train just back, or RESULT 0 where none came (R256, R274). -/
def State.iqAnswer (s : State) (n : Nat) : Nat × Word × Nat :=
  let r := s.ring n
  match (r.ret.filter (fun e =>
      let a := trainAside e.1
      decide ((a.getD 0x10 0).toNat = r.tag) && decide (leNat ((a.drop 0x1E).take 2) = crc16 ((a.drop 0x10).take 14)))).getLast? with
  | none => (0, 0, 0)
  | some (bs, _) =>
    let a := trainAside bs
    ((a.getD 0x12 0).toNat, w32 (leNat ((a.drop 0x18).take 4)), trainPcnt bs)

/-- The request that was in the last train ends: the host sees its result, a slow word goes to its mirror (R272, R274). -/
def State.iqEnd (s : State) (n : Nat) : State :=
  let r := s.ring n
  match r.iqOut with
  | none => s
  | some q =>
    let (res, data, pcnt) := s.iqAnswer n
    let s1 := s.modRing n (fun r => { r with iqOut := none })
    if q.host then
      (((s1.setR (Reg.RINGn_IQ_STAT n) (w32 (2 + 2 ^ 8 * res))).setR (Reg.RINGn_IQ_RDATA n) data)).irq (Pg.RINGn n) 2
    else match q.slow with
      | none => s1
      | some m =>
        if res = 1 then (s1.setMirror (96 * n + m / 32) (32 + m % 32) data).setMirror (96 * n + m / 32) 31 (w32 pcnt) else s1

/-- The trains back of ring `n` are taken at E0; an entry of a known cell without a part ages (R259, R272). -/
def State.ringTake (s : State) (n : Nat) : State :=
  let aged := (List.range (s.slots n)).foldl (fun s p =>
    if 2 ≤ (s.dir (96 * n + p)).st then s.modDir (96 * n + p) (fun e => { e with age := satInc 8 e.age }) else s) s
  let taken := (s.ring n).ret.foldl (fun s e => s.takeTrain n e.1 e.2) aged
  let ended := (taken.splitEnter n).iqEnd n
  ended.modRing n (fun r => { r with ret := [], sent := false })

/-! ### Mirrors and Reservoir arrays (R272) -/

/-- D_k and D′_k of position `k` of ring `n`: mark offset, hops and forwarding delays from the end of that side (R262). -/
def State.delayA (s : State) (n k : Nat) : Int :=
  Config.markA n + (s.dir (96 * n)).h + ((List.range k).map (fun j => ((s.dir (96 * n + j)).f + (s.dir (96 * n + j + 1)).h : Int))).sum
def State.delayB (s : State) (n k : Nat) : Int :=
  Config.markB n + (s.ring n).hN +
    ((List.range (s.slots n)).map (fun j => if k < j then ((s.dir (96 * n + j)).fB + (s.dir (96 * n + j)).h : Int) else 0)).sum

/-- Words 0 to 19 of the mirror record of entry `i` (R272). -/
def State.mirrorWords (s : State) (i : Nat) : List Word :=
  let e := s.dir i
  let n := i / 96
  let r := s.ring n
  let ind := padTo 20 e.ind
  let sent := trainSlot (if s.servedFrom n (i % 96) false && decide (r.txA ≠ []) then r.txA else r.txB) (i % 96)
  [s.mirrorW i 0 + 2, mkHandle 4 e.gen i, w32 (e.st + 8 * b2n e.bypassed + 2 ^ 8 * e.age), e.pcnt] ++
    (List.range 5).map (fun k => w32 (leNat ((ind.drop (4 * k)).take 4))) ++ [e.uid.truncate 32, (e.uid >>> 32).truncate 32] ++
    [w32 (if fromB r.txB && decide (r.txA = []) then (if i % 96 + 1 < s.slots n then (s.dir (i + 1)).h else r.hN) else e.h),
      wInt (s.delayA n (i % 96)), wInt (s.delayB n (i % 96)), w32 e.f, w32 e.fB] ++
    (List.range 3).map (fun k => w32 (leNat ((sent.drop (4 * k)).take 4))) ++ [w32 (e.icrcFails + 2 ^ 16 * e.xcrcFails)]

/-- `s` with words written from word `w` of a record. -/
def State.setMirrorWords (s : State) (i w : Nat) : List Word → State
  | [] => s
  | v :: vs => State.setMirrorWords (s.setMirror i w v) i (w + 1) vs

/-- A position's Reservoir words; one without a valid part keeps its last values (R272). -/
def State.reservoirWrite (s : State) (i : Nat) : State :=
  let e := s.dir i
  let base := s.getF Reg.CELLS_RES_BASE 0 18
  if e.ind = [] then s
  else
    let s1 := (List.range 6).foldl (fun s q => s.setSramW (base + 768 * q + i) (fOfRat (indMilli e.ind q) 1000)) s
    s1.setSramW (base + 768 * 6 + i) (w32 e.status)

/-- MIRROR_UPDATE (R259, R272): the records of every planned position, and with RES_CFG.EN the Reservoir arrays and cluster counts. -/
def State.mirrorUpdate (s : State) : State :=
  let s1 := s.dirs.foldl (fun s e => if e.2.st = 0 then s else s.setMirrorWords e.1 0 (s.mirrorWords e.1)) s
  if !s.getB Reg.CELLS_RES_CFG 0 then s1
  else
    let s2 := s1.dirs.foldl (fun s e => if e.2.st = 0 then s else s.reservoirWrite e.1) s1
    (List.range 6).foldl (fun s c =>
      s.setSramW (s.getF Reg.CELLS_RES_BASE 0 18 + 5376 + c)
        (fi2f (w32 ((s.clusterPlan c).filter (fun i => s.inCluster c i)).length))) s2

/-! ### Carriers (R273) -/

/-- CARRIER_RECOMPUTE: each cluster's b and in-service count; a change of a b is logged; b above 4 in ARMED or RUN enters SAFE. -/
def State.carrierRecompute (s : State) : State :=
  let one (s : State) (c : Nat) : State :=
    let plan := if c < planByte s.body 3 then s.clusterPlan c else []
    let inn := (plan.filter (fun i => s.inCluster c i)).length
    let b := min 15 (plan.length - inn)
    let s1 := s.setF (if c < 4 then Reg.CELLS_SVC_CNT0 else Reg.CELLS_SVC_CNT1) (8 * (c % 4)) 8 inn
    let s2 := s1.setF Reg.CELLS_BYP_CNT (4 * c) 4 b
    let s3 := if b = s.getF Reg.CELLS_BYP_CNT (4 * c) 4 then s2 else s2.irqLog 0 0 Pg.CELLS 0 []
    if 4 < b ∧ (s.pw.mode = .armed ∨ s.pw.mode = .run) then (s3.irq Pg.CELLS 3).enterSafe SafeCause.ctrlFault else s3
  (List.range 6).foldl one s

/-! ## The ring plan swap (R10, R261) -/

/-- Every planned position has an entry that is not EMPTY, and every other one an EMPTY entry with no record (R31, R271). -/
def State.dirFollow (s : State) : State :=
  (List.range 768).foldl (fun s i =>
    if planCell s.body i then (if (s.dir i).st = 0 then s.dirState i 1 else s)
    else if (s.dir i).st = 0 then s
    else { (s.dirState i 0) with mirror := s.mirror.filter (fun e => decide (e.1 / 64 ≠ i)) }) s

/-- RING_PLAN_SWAP (R261): the staged plan is in force, with its APPLY_PHASE; E5_MAX is refreshed. -/
def State.planSwap (s : State) : State :=
  if !s.plan.staged then s
  else
    let s1 := { s with plan := { inForce := true, body := s.plan.next, staged := false, next := [] } }
    let s2 := s1.setR Reg.TIME_APPLY_PHASE (w32 (planApply s1.body))
    s2.dirFollow

/-- E5_MAX of every ring for the plan in force (R260). -/
def State.e5Refresh (s : State) : State :=
  (List.range 8).foldl (fun s n =>
    s.setR (Reg.RINGn_E5_MAX n) (w32 (if s.ringPlanned n then (s.e5Of s.body n + 7) / 8 else 0))) s

/-! ## The observing end and takeover (R269, R275–R277) -/

/-- The echo words of spaces 2 and 3 of ring `n` act on their slots (R126, R275). -/
def State.echoApply (s : State) (n : Nat) : State :=
  ((List.range (planEchoN s.body n)).zip (s.ring n).echo).foldl (fun s e =>
    let w := planEcho s.body n e.1
    let ix := fld w 0 18
    let k := ix / 4
    match fld w 30 2, ix % 4 with
    | 2, 0 => if k < 16 then s.setR (Reg.PROF_PS_Y k) e.2 else s
    | 2, 1 => if k < 16 then s.setR (Reg.PROF_PS_V k) e.2 else s
    | 2, 2 => if k < 16 then s.setR (Reg.PROF_PS_A k) e.2 else s
    | 2, _ => if k < 16 then s.setProf k { s.prof k with st := e.2.toNat } else s
    | 3, 0 => if k < 64 then s.setR (Reg.TRACK_VREF_V k) e.2 else s
    | 3, 1 => if k < 64 then s.setTrk k { s.trk k with vp := e.2 } else s
    | 3, 2 => if k < 64 then s.setTrk k { s.trk k with ip := e.2 } else s
    | 3, _ => if k < 64 then s.setTrk k { s.trk k with st := e.2.toNat } else s
    | _, _ => s) s

/-- The echo words of spaces 0 and 1 of ring `n` go to the Sump and Main SRAM (R276). -/
def State.echoPreset (s : State) (n : Nat) : State :=
  ((List.range (planEchoN s.body n)).zip (s.ring n).echo).foldl (fun s e =>
    let w := planEcho s.body n e.1
    match fld w 30 2 with
    | 0 => s.setSump (fld w 0 18 % 1024) e.2
    | 1 => s.setSramW (fld w 0 18) e.2
    | _ => s) s

/-- This device observes ring `n`: in service, but served by another. -/
def State.observes (s : State) (n : Nat) : Bool := s.ringIn n && !s.serves n && decide (s.pw.role ≠ .cell)

/-- The echo of the period acts, or its age grows (R126, R275, R278). -/
def State.observeE0 (s : State) : State :=
  (List.range 8).foldl (fun s n =>
    if !s.observes n then s
    else if (s.ring n).heard then (s.echoApply n).setR (Reg.RINGn_ECHO_AGE n) 0
    else s.incSat (Reg.RINGn_ECHO_AGE n)) s

/-- TAKEOVER (R21, R276): this device serves every ring, its echo presets written and its held outputs released. -/
def State.takeover (s : State) : State :=
  let b := decide (s.pw.role = .standby)
  let s1 := (List.range 8).foldl (fun s n =>
    let s2 := if s.ringIn n then (s.echoPreset n).modRing n (fun r => { r with serveB := b, peer := false, section_ := false }) else s
    s2.irq (Pg.RINGn n) 4) s
  ({ s1 with stb.active := b }).logE 7 (some 4) (Pg.RINGn 0) 0 []

/-- SECTION_TAKEOVER (R269): the peer serves the B section of ring `n`. -/
def State.sectionTakeover (s : State) (n : Nat) : State :=
  ((s.echoPreset n).modRing n (fun r => { r with section_ := true, serveB := true, st := 4 })).irqLog 7 4 (Pg.RINGn n) 0 []

/-- The observing end at E0 judges the trains of the period before: takeover when no ring in service brought a good one, the section of
each ring that failed alone otherwise (R269, R276). -/
def State.takeoverJudge (s : State) : State :=
  let obs := (List.range 8).filter (fun n => s.observes n)
  let heard := obs.filter (fun n => (s.ring n).heard)
  let s1 :=
    if obs = [] ∨ heard = obs then s
    else if heard = [] ∧ (List.range 8).all (fun n => !s.ringIn n || s.observes n) then s.takeover
    else obs.foldl (fun s n => if (s.ring n).heard then s else s.sectionTakeover n) s
  (List.range 8).foldl (fun s n => if (s.ring n).heard then s.modRing n (fun r => { r with heard := false }) else s) s1

/-- The directory of the observing end follows a good train: the command words name the cells in service, and the Indicative parts their
state. -/
def State.observeDir (s : State) (n : Nat) (bs : List Byte) : State :=
  (List.range (s.slots n)).foldl (fun s p =>
    let i := 96 * n + p
    let cmd := leNat ((trainSlot bs p).take 2)
    if (s.dir i).st = 0 then s
    else
      let s1 := if cmd.testBit 7 then (s.modDir i (fun e => { e with gen := cmd / 256, bypassed := cmd.testBit 5 })).dirState i 4 else s
      let (ind, ok) := trainInd bs p
      if ok && decide (2 ≤ (s1.dir i).st) then s1.takeInd i (trainPcnt bs) ind false else s1) s

/-- A train reaches the observing end of ring `n` with good checks: the ring is in service here, its echo is held, and a whole-ring train
ends a section service (R275–R277). -/
def State.observeTrain (s : State) (n : Nat) (bs : List Byte) : State :=
  let a := (trainAside bs).drop 0x20
  let words := (List.range (min 52 (a.getD 5 0).toNat)).map (fun k => w32 (leNat ((a.drop (8 + 4 * k)).take 4)))
  let whole := !(bs.getD 1 0).getLsbD 4
  let training := (bs.getD 1 0).getLsbD 5
  let s1 := s.modRing n (fun r => { r with heard := true, echo := words, st := if training then r.st else if r.st = 2 ∨ (r.section_ && whole) then 3 else r.st,
                                           section_ := r.section_ && !whole, serveB := r.serveB && !(r.section_ && whole) })
  s1.observeDir n bs

/-! ## Ring commands (R265, R270, R274, R278) -/

/-- A write to RINGn.CFG: EN changes in CONFIGURE and ARMED only, and not on a port that is another ring's own tail (R248, R278). Enabling sets
the lanes to SERVICE and OWNED and starts linking; disabling turns the ring off (R265). -/
def State.ringCfgOp (s : State) (n : Nat) (data : Word) : State :=
  let was := s.getB (Reg.RINGn_CFG n) 0
  let en := bit data 0
  let tailOf := (List.range 8).any (fun m => s.ringOn m && decide (planTail s.body m = 1 ∧ planTailPort s.body m = n ∧ m ≠ n))
  if was ≠ en ∧ ¬ (s.pw.mode = .configure ∨ s.pw.mode = .armed) then s.refuse (Pg.RINGn n)
  else if en && !was && tailOf then s.refuse (Pg.RINGn n)
  else
    let s1 := s.setR (Reg.RINGn_CFG n) (data &&& 3)
    let ports := n :: (if planTail s.body n = 1 ∧ s.ringPlanned n ∧ s.pw.role ≠ .standby then [planTailPort s.body n] else [])
    let lanes := ports.flatMap (fun p => [2 * p, 2 * p + 1])
    if en && !was then
      let s2 := lanes.foldl (fun s l => (s.laneModeSet l 1).modLane l (fun x => { x with owned := true })) s1
      s2.modRing n (fun r => { ring0 with st := 1, tag := r.tag })
    else if was && !en then
      let s2 := lanes.foldl (fun s l => s.modLane l (fun x => { x with owned := false })) s1
      (s2.modRing n (fun r => { ring0 with tag := r.tag })).setF (Reg.RINGn_IQ_STAT n) 0 1 0
    else s1

/-- RING_ENABLE (R265). -/
def execRingEnable (ring : Fin 8) (data : Word) (s : State) : Host.Outcome State Fault Refusal :=
  hostCmd s (Pg.RINGn ring) (fun s => s.ringCfgOp ring data)

/-- RING_LINKED (R265): every link of an enabled ring is up. -/
def execRingLinked (ring : Fin 8) (s : State) : Host.Outcome State Fault Refusal :=
  if s.getB (Reg.RINGn_CFG ring) 0 ∧ (s.ring ring).st = 1 then done (s.modRing ring (fun r => { r with st := 2 })) else done s

/-- CMD.TRAIN: on a ring this device serves, linked and not already training (R262, R265). -/
def State.ringTrainOp (s : State) (n : Nat) : State :=
  let r := s.ring n
  if !s.ringOn n || !s.serves n || decide (r.st < 2) || r.training || r.rejoining then s.refuse (Pg.RINGn n)
  else (s.modRing n (fun r => { r with training := true, retrain := false })).setR (Reg.RINGn_TRAIN_RESULT n) 0

/-- RING_TRAIN (R262). -/
def execRingTrain (ring : Fin 8) (s : State) : Host.Outcome State Fault Refusal :=
  hostCmd s (Pg.RINGn ring) (fun s => s.ringTrainOp ring)

/-- A hop of `h` sixty-fourths of a UI is above HOP_NS (R265): 1/64 UI is 5/2048 ns. -/
def hopAbove (h hopNs : Nat) : Bool := decide (2048 * hopNs < 5 * h)

/-- FOUND to READY: the cell is to be given its generation (R271, R282). -/
def State.admitEntry (s : State) (i : Nat) : State :=
  let gen := (s.dir i).gen
  (s.dirState i 3).modRing (i / 96) (fun r =>
    { r with own := r.own ++ [{ target := i % 96, op := 2, gen := gen, addr := w32 Reg.CELL_ADMIT_GEN, data := w32 gen, host := false,
                                slow := none }] })

/-- What training reads of a device: identity and delays (R262, R271). A new identity takes a new generation, and the entry FOUND; a known one
keeps its place, or is admitted with AUTO. -/
def State.foundCell (s : State) (i : Nat) (c : CellFound) : State :=
  let e := s.dir i
  if e.st = 0 then s
  else
    let fresh := e.known && decide (e.uid ≠ c.uid)
    let same := e.known && decide (e.uid = c.uid)
    let s1 := s.modDir i (fun e => { e with uid := c.uid, known := true, h := c.h.toNat, f := c.f.toNat, fB := c.fB.toNat, age := 0,
                                            ind := if fresh then [] else e.ind, gen := if fresh then (e.gen + 1) % 256 else e.gen })
    let s2 := s1.irqIf fresh Pg.CELLS 2
    if same && (decide (e.st = 3) || decide (e.st = 4)) then s2
    else if same && s.getB Reg.CELLS_ADMIT_CFG 0 then s2.admitEntry i else s2.dirState i 2

/-- TRAIN_RESULT with the position at fault (R278). -/
def State.trainResult (s : State) (n code at_ : Nat) : State := s.setR (Reg.RINGn_TRAIN_RESULT n) (w32 (code + 2 ^ 8 * (at_ % 256)))

/-- How the measurements of a training come out (R265, R278): 1 passed, else the code and the position at fault. -/
def State.trainVerdict (s : State) (n : Nat) (cells : List CellFound) (hN : Nat) : Option (TrainFault × Fin 97) → Nat × Nat
  | some (.noSync, p) => (4, p.val)
  | some (.timeout, p) => (5, p.val)
  | none =>
    let hop := planHop s.body n
    if cells.length ≠ s.slots n then (2, min cells.length (s.slots n))
    else match (List.range cells.length).find? (fun j => (cells[j]?).any (fun c => hopAbove c.h.toNat hop)) with
      | some j => (3, j)
      | none => if planTail s.body n ≠ 0 && hopAbove hN hop then (3, cells.length) else (1, 0)

/-- The end of training (R262, R265, R271): the entries take identity and delays and the ring is TRAINED, or it FAILED. -/
def State.trainDone (s : State) (n : Nat) (cells : List CellFound) (hN : Nat) (fault : Option (TrainFault × Fin 97)) : State :=
  let (code, at_) := s.trainVerdict n cells hN fault
  let s1 := (s.modRing n (fun r => { r with training := false, nFound := min 255 cells.length })).trainResult n code at_
  if code = 1 then
    let s2 := (List.range cells.length).foldl (fun s j => match cells[j]? with
      | some c => s.foundCell (96 * n + j) c
      | none => s) s1
    ((s2.modRing n (fun r => { r with st := 3, breakPos := 0xFF, hN := hN }))).irq (Pg.RINGn n) 0
  else (s1.modRing n (fun r => { r with st := 5 })).irqLog 2 3 (Pg.RINGn n) 0 []

/-- TRAINING_DONE (R265). -/
def execTrainingDone (ring : Fin 8) (cells : List CellFound) (hN : BitVec 32) (fault : Option (TrainFault × Fin 97)) (s : State) :
    Host.Outcome State Fault Refusal :=
  if s.awake && (s.ring ring).training then done (s.trainDone ring cells hN.toNat fault) else done s

/-- CMD.REJOIN: on a ring in SPLIT (R270). -/
def State.ringRejoinOp (s : State) (n : Nat) : State :=
  let r := s.ring n
  if r.st ≠ 4 || r.training || r.rejoining || !s.serves n || decide (s.pw.role = .standby) then s.refuse (Pg.RINGn n)
  else (s.modRing n (fun r => { r with rejoining := true })).setR (Reg.RINGn_TRAIN_RESULT n) 0

/-- RING_REJOIN (R270). -/
def execRingRejoin (ring : Fin 8) (s : State) : Host.Outcome State Fault Refusal :=
  hostCmd s (Pg.RINGn ring) (fun s => s.ringRejoinOp ring)

/-- REJOIN_DONE (R270): the repaired hop `h` between BREAK_POS and the next position has been trained, and the devices of `cells` have been
read anew; whole-ring service resumes at the next E0. A hop that fails leaves the ring in SPLIT. -/
def execRejoinDone (ring : Fin 8) (h : BitVec 32) (cells : List (Fin 96 × CellFound)) (fault : Option (TrainFault × Fin 97)) (s : State) :
    Host.Outcome State Fault Refusal :=
  let n := ring.val
  let r := s.ring n
  if !s.awake || !r.rejoining then done s
  else
    let pos := if r.breakPos = 0xFF then 0 else r.breakPos + 1
    let (code, at_) := match fault with
      | some (.noSync, p) => (4, p.val)
      | some (.timeout, p) => (5, p.val)
      | none => if hopAbove h.toNat (planHop s.body n) then (3, pos) else (1, 0)
    let s1 := (s.modRing n (fun r => { r with rejoining := false })).trainResult n code at_
    if code ≠ 1 then done s1
    else
      let s2 := if pos < s.slots n then s1.modDir (96 * n + pos) (fun e => { e with h := h.toNat }) else s1.modRing n (fun r => { r with hN := h.toNat })
      let s3 := cells.foldl (fun s e => s.foundCell (96 * n + e.1.val) e.2) s2
      done (s3.modRing n (fun r => { r with rejoined := true }))

/-- A rejoined ring is whole again from this E0 (R270). -/
def State.rejoinE0 (s : State) : State :=
  (List.range 8).foldl (fun s n =>
    if (s.ring n).rejoined then
      (s.modRing n (fun r => { r with rejoined := false, st := 3, breakPos := 0xFF })).irq (Pg.RINGn n) 0
    else s) s

/-- IQ_CTRL (R274): TARGET and OP are stored, OP 0 or 3 refused; GO places one request, refused while BUSY, and answered at once with RESULT 4
for an EMPTY or ABSENT entry. -/
def State.iqCtrlOp (s : State) (n : Nat) (data : Word) : State :=
  let target := fld data 0 8
  let op := fld data 8 2
  if op = 0 ∨ op = 3 then s.refuse (Pg.RINGn n)
  else if !bit data 16 then s.setR (Reg.RINGn_IQ_CTRL n) (w32 (fld data 0 10))
  else if s.getB (Reg.RINGn_IQ_STAT n) 0 then s.refuse (Pg.RINGn n)
  else
    let s1 := s.setR (Reg.RINGn_IQ_CTRL n) (w32 (fld data 0 10))
    let e := s.dir (96 * n + target)
    if target < 96 ∧ e.st < 2 then
      ((s1.refuse (Pg.RINGn n)).setR (Reg.RINGn_IQ_STAT n) (w32 (2 + 2 ^ 8 * 4))).irq (Pg.RINGn n) 2
    else
      let q : IqReq := { target := target, op := op, gen := if target < 96 then e.gen else 0, addr := s.getR (Reg.RINGn_IQ_ADDR n),
                         data := s.getR (Reg.RINGn_IQ_WDATA n), host := true, slow := none }
      (s1.modRing n (fun r => { r with iqWait := some q })).setR (Reg.RINGn_IQ_STAT n) 1

/-- IQ_REQUEST (R274). -/
def execIqRequest (ring : Fin 8) (target : BitVec 8) (op : BitVec 2) (s : State) : Host.Outcome State Fault Refusal :=
  hostCmd s (Pg.RINGn ring) (fun s => s.iqCtrlOp ring (w32 (target.toNat + 2 ^ 8 * op.toNat + 2 ^ 16)))

/-- CMD.IQ_ABORT clears BUSY with RESULT 0 (R278). -/
def State.iqAbortOp (s : State) (n : Nat) : State :=
  if !s.getB (Reg.RINGn_IQ_STAT n) 0 then s
  else
    (s.modRing n (fun r => { r with iqWait := none, iqOut := if r.iqOut.any (·.host) then none else r.iqOut })).setR (Reg.RINGn_IQ_STAT n) 0

/-- IQ_ABORT (R278). -/
def execIqAbort (ring : Fin 8) (s : State) : Host.Outcome State Fault Refusal := hostCmd s (Pg.RINGn ring) (fun s => s.iqAbortOp ring)

/-- RINGn.CMD (R278). -/
def State.ringCmdOp (s : State) (n : Nat) (data : Word) : State :=
  let s1 := if bit data 0 then s.ringTrainOp n else s
  let s2 := if bit data 1 then s1.ringRejoinOp n else s1
  if bit data 2 then s2.iqAbortOp n else s2

/-- RINGn.CLEAR (R278): the counters at 0x064–0x078 and RET_MAX. -/
def State.ringClearOp (s : State) (n : Nat) : State :=
  [Reg.RINGn_RX_OK_CNT n, Reg.RINGn_CRC32_ERR_CNT n, Reg.RINGn_HCRC_ERR_CNT n, Reg.RINGn_SLOT_ERR_CNT n, Reg.RINGn_SPLIT_CNT n,
    Reg.RINGn_RET_LATE_CNT n, Reg.RINGn_RET_MAX n].foldl (fun s a => s.setR a 0) s

/-- RING_CLEAR (R278). -/
def execRingClear (ring : Fin 8) (s : State) : Host.Outcome State Fault Refusal := hostCmd s (Pg.RINGn ring) (fun s => s.ringClearOp ring)

/-! ## Directory commands (R271) -/

/-- A command on the entry CELL_SEL names. -/
def State.onCell (s : State) (f : State → Nat → State) : State := s.through Reg.CELLS_CELL_SEL 4 Reg.CELLS_CMD f

/-- ADMIT: FOUND to READY; in any other state refused (R271). -/
def State.admitOp (s : State) : State := s.onCell (fun s i => if (s.dir i).st = 2 then s.admitEntry i else s.refuse Pg.CELLS)
/-- CELL_ADMIT (R271). -/
def execCellAdmit (s : State) : Host.Outcome State Fault Refusal := hostCmd s Pg.CELLS State.admitOp

/-- RETIRE: any state to ABSENT, with a new generation (R40, R271). -/
def State.retireOp (s : State) : State :=
  s.onCell (fun s i => ((s.modDir i (fun e => { e with gen := (e.gen + 1) % 256 })).dirState i 1).irq Pg.CELLS 2)
/-- CELL_RETIRE (R271). -/
def execCellRetire (s : State) : Host.Outcome State Fault Refusal := hostCmd s Pg.CELLS State.retireOp

/-- BYPASS and UNBYPASS of the entry, or of a twin's bus-side member (R271, R289). -/
def State.bypassOp (s : State) (on : Bool) : State :=
  s.onCell (fun s i => s.modDir (s.bypassTarget i) (fun e => { e with bypassed := on }))
/-- CELL_BYPASS (R271). -/
def execCellBypass (s : State) : Host.Outcome State Fault Refusal := hostCmd s Pg.CELLS (fun s => s.bypassOp true)
/-- CELL_UNBYPASS (R271). -/
def execCellUnbypass (s : State) : Host.Outcome State Fault Refusal := hostCmd s Pg.CELLS (fun s => s.bypassOp false)

/-- CELLS.CMD (R279). -/
def State.cellsCmdOp (s : State) (data : Word) : State :=
  match fld data 0 4 with
  | 0 => s
  | 1 => s.admitOp
  | 2 => s.retireOp
  | 3 => s.bypassOp true
  | 4 => s.bypassOp false
  | _ => s.refuse Pg.CELLS

/-- CELL_LOST (R271): the entry's AGE exceeds STALE_AGE. -/
def execCellLost (cell : Fin 768) (s : State) : Host.Outcome State Fault Refusal :=
  let e := s.dir cell
  if s.awake ∧ (e.st = 2 ∨ e.st = 3 ∨ e.st = 4) ∧ s.getF Reg.CELLS_STALE_AGE 0 8 < e.age then
    done ((((s.dirState cell 5).incSat Reg.CELLS_LOST_CNT)).irq Pg.CELLS 1)
  else done s

/-- Settings of the CELLS page with conditions of their own (R279). -/
def State.cellsRegOp (s : State) (a : Nat) (data : Word) : State :=
  if a = Reg.CELLS_RES_BASE then
    if s.pw.mode ≠ .configure ∨ 262144 ≤ fld data 0 18 + 5381 then s.refuse Pg.CELLS else s.setR a (w32 (fld data 0 18))
  else if a = Reg.CELLS_STALE_AGE then
    if fld data 0 8 < 2 then s.refuse Pg.CELLS else s.setR a (w32 (fld data 0 8))
  else s.setR a (data &&& 1)

end Sys2Proof.Machine
end

