-- ==== Sys2Proof/Machine/Cell.lean ====
section
/-! DEFINITION. The Cell role (spec/14_cell_role.md): measurements and Sump words, references, coasting, local protection, bypass and the
limit digest. -/
namespace Sys2Proof.Machine

/-! ## Measurements (R283) -/

/-- Units of the Indicative part per V, A or °C (R255). -/
def indPerUnit : List Nat := [20, 10, 10, 1000, 100, 100]

/-- A word times `k`, to the nearest whole number, ties to even; 0 for a NaN and out of range for an infinity. -/
def roundTimes (w : Word) (k : Nat) : Int :=
  match fdec w with
  | .nan => 0
  | .inf s => if s then -(2 ^ 40) else 2 ^ 40
  | .fin s m e =>
    let v : Int := (if 0 ≤ e then m * k * 2 ^ e.toNat else rneShift (m * k) (-e).toNat : Nat)
    if s then -v else v

/-- A measurement in its Indicative field: quantised and saturated (R255, R283); 0 and 3 are unsigned. -/
def measQuant (q : Nat) (w : Word) : Int :=
  let v := roundTimes w (indPerUnit.getD q 1)
  if q = 0 ∨ q = 3 then clampI 0 65535 v else clampI (-32768) 32767 v

/-- Measurement `q` is formed from a code: (code − OFS) × GAIN, rounded once or at each operation. -/
def State.measForm (s : State) (q : Nat) (code : Int) : State :=
  let c := fi2f (wInt code)
  let ofs := s.getR (Reg.CELL_MEAS_OFS q)
  let gain := s.getR (Reg.CELL_MEAS_GAIN q)
  let (w, s1) := s.pick2 (fenc (fmul (fadd (fdec c) (fneg (fdec ofs))) (fdec gain))).w (fmulW (fsubW c ofs).w gain).w
  { (s1.setR (Reg.CELL_MEAS_V q) w) with cell.meas := s1.cell.meas.set q (measQuant q w) }

/-- The measurements of modulator channels at E0 (KIND = 1). -/
def State.measMdat (s : State) : State :=
  (List.range 6).foldl (fun s q =>
    let src := s.getR (Reg.CELL_MEAS_SRC q)
    if bit src 7 then s.measForm q (sint (s.getR (Reg.METC_LV (fld src 0 5 % 4)))) else s) s

/-- Sump words 15 to 20 (R284). -/
def State.measWords (s : State) : State := (List.range 6).foldl (fun s q => s.setSump (15 + q) (s.getR (Reg.CELL_MEAS_V q))) s

/-- The measurements of converter channels at the snapshot of R211 (KIND = 0): one whose AGE is above 1 keeps its value and sets
MEAS_STALE. -/
def State.measAdc (s : State) : State :=
  (List.range 6).foldl (fun s q =>
    let src := s.getR (Reg.CELL_MEAS_SRC q)
    let ch := fld src 0 5
    if bit src 7 then s
    else if 1 < s.getF (lvReg ch) 24 8 then { s with cell.stale := true }
    else s.measForm q (s.lvCode ch)) { s with cell.stale := false }

/-- LV_SNAPSHOT (R211): on fabric tick 380 after E0, once in the period; the CELL block takes its converter measurements from it (R283). -/
def execLvSnapshot (s : State) : Host.Outcome State Fault Refusal :=
  if !s.awake || !s.clk.gen || s.lvDone then done s
  else
    let s1 := (s.advanceTo (s.clk.e0 + 3040)).lvSnapshot
    done (if s.pw.role = .cell then s1.measAdc.measWords else s1)

/-! ## References (R285–R288) -/

/-- cos of an angle up to a quarter turn, in fixed point: the series by Horner over `n` pairs of terms. -/
def cosSeries (x2 : Int) : Nat → Nat → Int
  | 0, _ => trajOne
  | n + 1, k => trajOne - qmul x2 (cosSeries x2 n (k + 2)) / ((k + 1) * (k + 2) : Nat)

/-- cos(2π × turns / 2^32) in fixed point. -/
def cosExact (turns : Nat) : Int :=
  let x := turns % 2 ^ 32
  let y := min x (2 ^ 32 - x)
  let z := if 2 ^ 30 < y then 2 ^ 31 - y else y
  let ang : Int := (z * 2 ^ (trajBits + 288) / invTwoPi320 : Nat)
  let c := cosSeries (qmul ang ang) 24 0
  if 2 ^ 30 < y then -c else c

/-- The cosine as the device computes it: within 2 × 10^−5 of the true one (R287); where, is the free value Config.cosPick. -/
def cosOf (turns : Nat) : Int :=
  cosExact turns + (Config.cosPick (w32 turns)).toInt * (2 * trajOne / 100000) / 2 ^ 31

/-- An exact value in fixed point. -/
def q15Q (x : BitVec 16) : Int := if x = 0x7FFF then trajOne else x.toInt * 2 ^ 145

/-- The angle of the phasor in force `t` edge ticks after the E0 of period `k`, in turns of 2^−32 (R287). -/
def State.phasorTurns (s : State) (k : Word) (t : Nat) : Nat :=
  let step := (s.getR Reg.CELL_PHASOR_STEP).toNat
  ((s.getR Reg.CELL_PHASOR_PHI).toNat + step * (k - s.cell.kLoad).toNat + step * t / max 1 s.period % 2 ^ 32) % 2 ^ 32

/-- TRIM as m takes it: left out with TRIM_PS (R286). -/
def State.trimQ (s : State) : Int := if s.getB Reg.CELL_CFG 0 then 0 else q15Q s.cell.trim

/-- m: REF_A + TRIM in duty form, A × cos + TRIM in phasor form (R286, R287). -/
def State.modM (s : State) (k : Word) (t : Nat) : Int :=
  if s.cell.phasor then qmul (q15Q s.cell.refA) (cosOf (s.phasorTurns k t)) + s.trimQ else q15Q s.cell.refA + s.trimQ

/-- The fraction of SRC for a modulation value (R286). -/
def State.srcFraction (s : State) (g : Nat) (m : Int) : Word × State :=
  let cfg := s.getR (Reg.CELL_GEN_CFG g)
  match fld cfg 0 4, s.cell.phasor with
  | 1, _ => s.nearQ ((trajOne + m) / 2)
  | 2, _ => s.nearQ ((trajOne - m) / 2)
  | 3, _ => s.nearQ (max m 0)
  | 4, _ => s.nearQ (trajOne + min m 0)
  | 5, true => s.nearQ ((trajOne + m) / 2)
  | 6, true => s.nearQ ((trajOne - m) / 2)
  | 5, false => (ofFix trajBits (q15Q s.cell.refA), s)
  | 6, false => (ofFix trajBits (q15Q s.cell.refB), s)
  | 7, _ => (0x3F000000, s)
  | 8, _ => (if s.pump.inForce then s.outWord (fld cfg 8 8) else 0, s)
  | _, _ => (0, s)

/-- Generator `g` stages its fraction on both outputs. -/
def State.cellStage (s : State) (g : Nat) (m : Int) : State := let (u, s1) := s.srcFraction g m; s1.pwmStage g u u

/-- Generator `g` takes references: SRC is not 0 (R286). -/
def State.srcOn (s : State) (g : Nat) : Bool := decide (s.getF (Reg.CELL_GEN_CFG g) 0 4 ≠ 0)

/-- EPOCH_PHASE of generators 0 to 3 at E0 (R288): a changed one loads at this E0. The rounding of TRIM × PRD / 2 is left open: a free
value. -/
def State.cellPhases (s : State) : State :=
  (List.range 4).foldl (fun s g =>
    let cfg := s.getR (Reg.CELL_GEN_CFG g)
    let prd := s.getF (Reg.PWMn_PRD g) 0 24
    let base := (s.cell.cphase.toNat + fld cfg 16 16) % 65536 * prd / 65536
    let shift := bit cfg 4 && s.getB Reg.CELL_CFG 0
    let (f, s1) := if shift then s.takeFree else (0, s)
    let x := q15Q s.cell.trim * prd / 2
    let add : Int := if shift then x / trajOne + (if x % trajOne = 0 then 0 else (b2n (bit f 0) : Int)) else 0
    let ph := w32 (((base : Int) + add) % (max 1 prd : Nat)).toNat
    if ph = s1.getR (Reg.PWMn_EPOCH_PHASE g) then s1
    else (s1.setR (Reg.PWMn_EPOCH_PHASE g) ph).modGen g (fun p => { p with loadE0 := true })) s

/-- An angle of 2^−32 turns in rad, in fixed point. -/
def radQ (turns : Nat) : Int := (turns * 2 ^ (trajBits + 288) / invTwoPi320 : Nat)

/-- Words go to the Sump from word `i` upwards. -/
def State.setSumpWords (s : State) (i : Nat) : List Word → State
  | [] => s
  | w :: ws => State.setSumpWords (s.setSump i w) (i + 1) ws

/-- The words 6 to 39 of the Sump in the Cell role, of the angle, the step and the magnitude (R284). -/
def State.cellWordList (s : State) (ang stp m : Word) : List Word :=
  let refB := if s.cell.phasor then (fenc (.fin false s.cell.refB.toNat (-16))).w else (fenc (q15Val s.cell.refB)).w
  let head := [s.getR (Reg.CELL_IND_LAST 0) &&& 0xFFFF, w32 s.cell.c, if fltW ang 0x40C90FDB then ang else 0,
    (fenc (q15Val s.cell.refA)).w, stp, m, (fenc (q15Val s.cell.refA)).w, refB, (fenc (q15Val s.cell.trim)).w]
  head ++ (List.range 6).map (fun q => s.getR (Reg.CELL_MEAS_V q)) ++ [w32 (b2n s.cell.phasor)] ++ List.replicate 18 0

/-- Sump words 6 to 39 at E0 (R284). -/
def State.cellWords (s : State) : State :=
  let r1 := s.nearQ (radQ (s.phasorTurns (s.getR Reg.TIME_PERIOD_CNT) 0))
  let r2 := r1.2.nearQ (radQ (s.getR Reg.CELL_PHASOR_STEP).toNat)
  let r3 := r2.2.nearQ (s.modM (s.getR Reg.TIME_PERIOD_CNT) 0)
  r3.2.setSumpWords 6 (s.cellWordList r1.1 r2.1 r3.1)

/-- The CELL block at E0, after step (4) of R15: measurements, Sump words (R283, R284). -/
def State.cellE0 (s : State) : State := if s.pw.role = .cell then s.measMdat.cellWords else s

/-- The cell acts on CMD.MODE of a part (R50, R253, R285): SAFE at once, another code as the pending request. A trip on the same tick
discards it. -/
def State.cellMode (s : State) (req : Nat) : State :=
  if req = 7 ∨ (s.pw.mode = .safe ∧ s.pw.safeAt = s.clk.tick) then s
  else if req = 5 then s.enterSafe SafeCause.wellhead
  else { (s.setR Reg.PWR_MODE_CMD (w32 req)) with cell.reqWord := true }

/-- The registers that show the part taken: IMP_LAST and the phasor (R287, R296). -/
def State.partRegs (s : State) (p : CellPart) : State :=
  let w (k : Nat) : Word := w32 (leNat ((p.imp.drop (4 * k)).take 4))
  let refB := leNat ((p.imp.drop 4).take 2)
  (((((s.setR (Reg.CELL_IMP_LAST 0) (w 0)).setR (Reg.CELL_IMP_LAST 1) (w 1)).setR (Reg.CELL_IMP_LAST 2) (w 2)).setR Reg.CELL_PHASOR_PHI
    (w32 (refB * 65536))).setR Reg.CELL_PHASOR_STEP p.step)

/-- A part is taken at E6 (R285). -/
def State.cellTake (s : State) (p : CellPart) : State :=
  let h (o : Nat) : BitVec 16 := BitVec.ofNat 16 (leNat ((p.imp.drop o).take 2))
  let cmd := h 0
  let s1 := { s with cell.part := none, cell.applied := true, cell.coast := false, cell.coastBlock := false, cell.c := 0,
                     cell.blocked := cmd.getLsbD 6 || p.blockAll, cell.phasor := cmd.getLsbD 4, cell.refA := h 2, cell.refB := h 4,
                     cell.cphase := h 6, cell.trim := h 8, cell.kLoad := s.getR Reg.TIME_PERIOD_CNT, cell.prechg := cmd.getLsbD 3 }
  let s2 := (s1.partRegs p).blockEv Pg.CELL
  let s3 := if cmd.getLsbD 5 then s2.bypClose false else s2.bypOpen
  let s4 := if cmd.getLsbD 4 then s3
    else (List.range 4).foldl (fun s g => if s.srcOn g then s.cellStage g (s.modM 0 0) else s) s3
  s4.cellMode (cmd.toNat % 8)

/-- An E6 without a part: coast, or hold off (R290). -/
def State.cellMiss (s : State) : State :=
  let c := satInc 8 s.cell.c
  let s1 := { s with cell.c := c, cell.applied := false, cell.blocked := false, cell.prechg := false }
  let s2 := if s.cell.c = 0 then s1.incSat Reg.CELL_COAST_CNT else s1
  if c ≤ (if s.cell.phasor then s.getF Reg.CELL_COAST_MAX_P 0 4 else 1) then { s2 with cell.coast := true }
  else if s.cell.coastBlock then s2
  else ({ s2 with cell.coastBlock := true }.incSat Reg.CELL_BLOCK_CNT).irqLog 2 0 Pg.CELL 0 []

/-- CELL_REFERENCE_APPLY at E6 (R285, R290). -/
def State.cellApply (s : State) : State :=
  let s1 := match s.cell.part with
    | some p => s.cellTake p
    | none => s.cellMiss
  s1.pwmBlocks

/-- The next transfer point of generator `g` at least 200 ns (320 edge ticks) from now (R170, R295). -/
def State.nextTransfer (s : State) (g : Nat) : Int :=
  let p := s.gen g
  let mid := p.t0 + (p.prd / 2 : Nat)
  let bnd := p.t0 + (p.prd : Nat)
  let cands := (if s.xferMid g then [mid, mid + (p.prd : Nat), mid + 2 * (p.prd : Nat)] else []) ++
    (if s.xferBoundary g then [bnd, bnd + (p.prd : Nat)] else [])
  (cands.filter (fun t => decide ((s.clk.tick : Int) + 320 ≤ t))).foldl min (bnd + 2 * (p.prd : Nat))

/-- PHASOR_STAGE (R287): 200 ns before the next transfer point of a running generator, in phasor form, its fraction is staged. -/
def execPhasorStage (gen : Fin 4) (s : State) : Host.Outcome State Fault Refusal :=
  if s.awake && decide (s.pw.role = .cell) && s.cell.phasor && !s.cell.coastBlock && s.srcOn gen && (s.gen gen).running then
    let tp := s.nextTransfer gen
    let s1 := s.advanceTo (tp - 320).toNat
    let t := (tp - s.clk.e0).toNat
    let per := max 1 s.period
    let m := s1.modM (s.getR Reg.TIME_PERIOD_CNT + w32 (t / per)) (t % per)
    let (w, s2) := s1.nearQ m
    done ((s2.setR Reg.CELL_M_LAST w).cellStage gen m)
  else done s

/-! ## Digest (R282) -/

/-- The digest of the limit set in the Guard window. -/
def State.lsetDigest (s : State) : BitVec 256 := digestBV (sha256 (s.gramBytes 0 64))

/-- DIGEST_EVALUATE (R282): within 1 ms of a change to either digest. -/
def execDigestEvaluate (s : State) : Host.Outcome State Fault Refusal :=
  if !s.awake || decide (s.pw.role ≠ .cell) then done s
  else
    let d := s.lsetDigest
    let ann := BitVec.ofNat 256 (leNat ((List.range 8).flatMap (fun k => leBytes 4 (s.getR (Reg.CELL_DIGEST_ANN k)).toNat)))
    let ok := decide (d = ann) && decide (ann ≠ 0)
    let s1 := (List.range 8).foldl (fun s k => s.setR (Reg.CELL_DIGEST_CALC k) (w32 (d.toNat / 2 ^ (32 * k)))) s
    if ok = s.cell.digestOk then done s1
    else done (((s1.guardChange (fun s => { s with cell.digestOk := ok })).irq Pg.CELL 3).pwmBlocks)

/-! ## Bypass, faults and counters (R291–R293, R296) -/

/-- SAFE_AGE_REACHED (R291). -/
def execSafeAgeReached (s : State) : Host.Outcome State Fault Refusal :=
  if s.pw.role = .cell ∧ (s.pw.mode = .armed ∨ s.pw.mode = .run) ∧ s.getF Reg.CELL_SAFE_AGE 0 8 ≤ s.cell.c then
    done ((s.cellFault 0x82).enterSafe SafeCause.wellhead)
  else done s

/-- BYPASS_ASSERT (R293): every gate off, and BYP_DELAY µs later. -/
def execBypassAssert (s : State) : Host.Outcome State Fault Refusal :=
  if s.awake && decide (s.pw.role = .cell) && s.cell.bypWait && s.gatesOff then
    let s1 := s.advanceTo (s.cell.gateTick + s.getF Reg.CELL_BYP_CFG 8 8 * tickUs)
    done (({ s1 with cell.bypOn := true, cell.bypWait := false, cell.bypLate := false, cell.bypAt := s1.clk.tick }).irq Pg.CELL 2)
  else done s

/-- BYPASS_TIMEOUT (R293): SWIN7 has not reported closed BYP_TIMEOUT ms after PWM11A was asserted. -/
def execBypassTimeout (s : State) : Host.Outcome State Fault Refusal :=
  if s.awake && decide (s.pw.role = .cell) && s.cell.bypOn && !s.cell.bypClosed && !s.cell.bypLate then
    let s1 := s.advanceTo (s.cell.bypAt + s.getF Reg.CELL_BYP_CFG 16 16 * tickMs)
    done ({ (s1.cellFault 0x80) with cell.bypLate := true })
  else done s

/-- BYPASS_FEEDBACK (R292, R293): ball SWIN7 takes a level. -/
def execBypassFeedback (level : Bool) (s : State) : Host.Outcome State Fault Refusal :=
  let closed := level != s.getB Reg.CELL_BYP_CFG 1
  if !s.awake || decide (s.pw.role ≠ .cell) || s.cell.bypClosed == closed then done s
  else
    let s1 := { s with cell.bypClosed := closed }.irq Pg.CELL 2
    done (if !closed && s.cell.bypOn then s1.cellFault 0x81 else s1)

/-- Some cause of a FAULT code is present (R292). -/
def State.faultCausePresent (s : State) : Bool :=
  decide (s.getF Reg.CMP_LATCH 0 16 &&& s.getF Reg.CELL_LPROT_CFG 0 16 ≠ 0) || (List.range 8).any (fun n => (s.isl n).fault) ||
    (s.cell.bypOn && !s.cell.bypClosed) || decide (s.getF Reg.CELL_SAFE_AGE 0 8 ≤ s.cell.c) ||
    decide (s.clk.tlPort = none ∨ 2 ≤ s.clk.tlMisses) || decide (s.getR Reg.GRD_TRIP_LATCH ≠ 0)

/-- A write to FAULT_CLR (R292). -/
def State.cellFaultClrOp (s : State) : State :=
  if s.pw.mode = .armed ∨ s.pw.mode = .run ∨ s.faultCausePresent then s.refuse Pg.CELL
  else (s.setR Reg.CELL_FAULT_CODE 0).setR Reg.CELL_LPROT_STAT 0
/-- CELL_FAULT_CLR (R292). -/
def execCellFaultClr (s : State) : Host.Outcome State Fault Refusal := hostCmd s Pg.CELL State.cellFaultClrOp

/-- A write to BYP_CLR (R293). -/
def State.bypClrOp (s : State) : State := { s with cell.autoHeld := false }
/-- BYP_CLR (R293). -/
def execBypClr (s : State) : Host.Outcome State Fault Refusal := hostCmd s Pg.CELL State.bypClrOp

/-- A write to CLEAR: the counters at 0x158 to 0x16C (R296). -/
def State.cellClearOp (s : State) : State :=
  (List.range 6).foldl (fun s k => s.setR (Reg.CELL_COAST_CNT + 4 * k) 0) s
/-- CELL_CLEAR (R296). -/
def execCellClear (s : State) : Host.Outcome State Fault Refusal := hostCmd s Pg.CELL State.cellClearOp

/-- The values a CELL register refuses (R286, R290, R291, R296). -/
def cellRegBad (off : Nat) (v : Word) : Bool :=
  if off = 0x58 then !decide (1 ≤ fld v 0 4 ∧ fld v 0 4 ≤ 8)
  else if off = 0x5C then decide (fld v 0 8 < 8)
  else if 0x60 ≤ off ∧ off < 0x70 then decide (8 < fld v 0 4)
  else if off = 0x74 then decide (fld v 16 16 = 0)
  else if 0x78 ≤ off ∧ off < 0x90 then (if bit v 7 then decide (3 < fld v 0 5) else decide (16 < fld v 0 5))
  else if 0xA8 ≤ off ∧ off < 0xC0 then fNonFinite v
  else false

/-- A write to a CELL register from 0x040 to 0x0DC; `v` holds its stored bits. E0_DLY_A and E0_DLY_B, written by training, make the
position valid (R280, R296). -/
def State.cellRegOp (s : State) (off : Nat) (v : Word) : State :=
  let a := pageBase Pg.CELL + off
  if off = 0x4C then s.setR a v
  else if off = 0x50 ∨ off = 0x54 then (s.setR a v).setB Reg.CELL_POSITION 15 true
  else if s.pw.mode ≠ .configure ∨ cellRegBad off v then s.refuse Pg.CELL
  else (s.setR a v).pwmBlocks

end Sys2Proof.Machine
end

