-- ==== Sys2Proof/Machine/Channels.lean ====
section
/-! DEFINITION. Quotas, banks and loop channels under the host's commands, and the channel work of an E0 (spec/05, spec/06). -/
namespace Sys2Proof.Machine

/-! ## Banks -/

/-- BANK_DROP (R88, R108). -/
def execBankDrop (s : State) : Host.Outcome State Fault Refusal := hostCmd s Pg.PUMP State.dropBank

/-- The layout of a host-staged bank (R436); none when no stroke of the main area has FIN. -/
def State.directLayout (s : State) (b : Nat) : Option BankLayout :=
  match ((List.range 7168).find? (fun k => strokeFin (s.strokeAt b k))) with
  | none => none
  | some k =>
    let slices := (splitSlices [] (s.strokes b 7168 1024)).filter (fun x => x.any strokeFin)
    let cfg := s.getR Reg.PUMP_DIRECT_CFG
    let nd := ((List.range 64).filter (fun i => s.getB (Reg.PUMP_DESC (64 * b + i)) 23)).foldl (fun _ i => i + 1) 0
    some { sysMain := k + 1, linkPos := k, segs := [], sliceSys := slices.map (·.length), sliceLen := slices.map (·.length),
           slowDiv := fld cfg 8 17, outPhase := fld cfg 0 8, sysDesc := nd, unverified := true }

/-- BANK_CMD.STAGE: in CONFIGURE with DIRECT = 1 and the standby EMPTY, under the conditions of R436; otherwise refused (R88). -/
def State.bankStageOp (s : State) : State :=
  if s.pw.mode ≠ .configure ∨ !s.getB Reg.PUMP_CTRL 0 ∨ s.pump.stagedBank then s.refuse Pg.PUMP
  else match s.directLayout s.standby with
    | none => s.refuse Pg.PUMP
    | some l =>
      if l.outPhase = 0 ∨ l.outPhase = 255 ∨ (s.phaseConflict l.outPhase).isSome ∨ l.slowDiv < l.sliceSys.length then s.refuse Pg.PUMP
      else (s.setLay s.standby l).stageBank

/-- BANK_STAGE (R88, R436). -/
def execBankStage (s : State) : Host.Outcome State Fault Refusal := hostCmd s Pg.PUMP State.bankStageOp

/-- BANK_CMD.CLR_MISSED (R88). -/
def State.clrMissedOp (s : State) : State := { s with pump.missed := false }

/-- CLR_MISSED (R88). -/
def execClrMissed (s : State) : Host.Outcome State Fault Refusal := hostCmd s Pg.PUMP State.clrMissedOp

/-- A write to PUMP.SWAP_AT, and the check it brings (R88). -/
def State.swapAtOp (s : State) (data : Word) : State := (s.setR Reg.PUMP_SWAP_AT data).checkMissed

/-- SWAP_AT_WRITE (R88). -/
def execSwapAtWrite (data : Word) (s : State) : Host.Outcome State Fault Refusal := hostCmd s Pg.PUMP (fun s => s.swapAtOp data)

/-- PUMP.CLEAR bit 0 (R99). -/
def State.pumpClearMaxOp (s : State) : State := s.setR Reg.PUMP_FIN_MAX 0

/-- PUMP.CLEAR bit 1 clears the counters at 0x074 and 0x07C–0x090, after the retirements of the cycles that have ended (R99). -/
def State.pumpClearCntOp (s : State) : State :=
  [Reg.PUMP_OVR_CNT, Reg.PUMP_SLOW_ABANDON_CNT, Reg.PUMP_NAN_CNT, Reg.PUMP_OFL_CNT, Reg.PUMP_RES_FAULT_CNT, Reg.PUMP_SYSWR_CNT,
    Reg.PUMP_BADOP_CNT].foldl (fun s a => s.setR a 0) s.settleNow

/-- PUMP_CLEAR_FIN_MAX (R99). -/
def execPumpClearFinMax (s : State) : Host.Outcome State Fault Refusal := hostCmd s Pg.PUMP State.pumpClearMaxOp

/-- PUMP_CLEAR_COUNTERS (R99). -/
def execPumpClearCounters (s : State) : Host.Outcome State Fault Refusal := hostCmd s Pg.PUMP State.pumpClearCntOp

/-! ## Quotas -/

/-- The slot a load in progress has as its target (R96). -/
def State.loadingSlot (s : State) : Option Nat :=
  match s.pw.load with
  | some (_, t, _) => if s.validFor t 1 then some (hIndex t) else none
  | none => none

/-- CH_QUOTA of channel `n` (R96): accepted when max(r, USED) − EFF ≤ FREE. -/
def State.quotaOp (s : State) (n r : Nat) : State :=
  let c := s.chan n
  if 240 < r ∨ s.loadingSlot = some n ∨ c.eff + s.poolFree < max r c.used then
    ((s.refuse Pg.SUMP).incSat Reg.SUMP_QREFUSE_CNT).irq Pg.SUMP 1
  else
    let s1 := (s.setChan n { c with req := r }).blockEv Pg.SUMP
    s1.irqIf (decide (r < c.used)) Pg.SUMP 0

/-- A write to SUMP.CH_QUOTA through SUMP.CH_SEL (R41, R96). -/
def State.chQuotaOp (s : State) (data : Word) : State :=
  s.through Reg.SUMP_CH_SEL 1 Reg.SUMP_CH_QUOTA (fun s n => s.quotaOp n (fld data 0 8))

/-- CH_QUOTA_WRITE (R96). -/
def execChQuotaWrite (data : Word) (s : State) : Host.Outcome State Fault Refusal := hostCmd s Pg.SUMP (fun s => s.chQuotaOp data)

/-! ## Channel commands (R102) -/

/-- CREATE, DRAIN and DESTROY are accepted in CONFIGURE, ARMED and RUN (R102). -/
def State.chanModes (s : State) : Bool := decide (s.pw.mode = .configure ∨ s.pw.mode = .armed ∨ s.pw.mode = .run)

/-- The slot CREATE takes: the one named, or the lowest FREE one (R103). -/
def State.createSlot (s : State) (slot : Option Nat) : Option Nat :=
  match slot with
  | some n => if (s.chan n).st = 0 then some n else none
  | none => (List.range 128).find? (fun n => decide ((s.chan n).st = 0))

/-- CREATE (R103). -/
def State.chCreateOp (s : State) (slot : Option Nat) : State :=
  if !s.chanModes then s.refuse Pg.CHAN0
  else match s.createSlot slot with
    | none => (s.setR Reg.CHAN0_NEW_HANDLE 0).refuse Pg.CHAN0
    | some n =>
      let c := freeSlot (s.chan n).gen
      let h := s.chanHandle n
      ((s.chanMove n { c with st := 1 }).setR Reg.CHAN0_NEW_HANDLE h).setR Reg.CHAN0_CH_SEL h

/-- CH_CREATE (R103): with SLOT_EN = 1 the slot is named. -/
def execChCreate (slot : Option (Fin 128)) (s : State) : Host.Outcome State Fault Refusal :=
  hostCmd s Pg.CHAN0 (fun s => s.chCreateOp (slot.map (·.val)))

/-- A command on the channel CHAN.CH_SEL names. -/
def State.onChan (s : State) (at_ : Nat) (f : State → Nat → State) : State := s.through Reg.CHAN0_CH_SEL 1 at_ f

/-- The loader is busy (HOST.LOAD_STAT.BUSY): with an image, or composing a DRAIN (R106). -/
def State.loaderBusy (s : State) : Bool := s.getB Reg.HOST_LOAD_STAT 0

/-- DRAIN of a LIVE channel not marked for release starts the loader (R102, R106). -/
def State.chDrainOp (s : State) : State :=
  s.onChan Reg.CHAN0_CH_CMD (fun s n =>
    let c := s.chan n
    if !s.chanModes || s.loaderBusy || decide (c.st ≠ 3) || c.release then s.refuse Pg.CHAN0
    else ({ s with drainJob := some ⟨n, c.gen⟩ }).setR Reg.HOST_LOAD_STAT 1)

/-- CH_DRAIN (R102, R106). -/
def execChDrain (s : State) : Host.Outcome State Fault Refusal := hostCmd s Pg.CHAN0 State.chDrainOp

/-- A load or DRAIN ends with a result: LOAD_STAT, the interrupt and an entry with LOAD_STAT, LOAD_TAG and TYPE, its HANDLE the
LOAD_TARGET when that holds a handle (R43, R438). -/
def State.loadResult (s : State) (code detail ty : Nat) : State :=
  let s1 := s.setR Reg.HOST_LOAD_STAT (w32 (detail % 65536 * 65536 + code * 256 + 2))
  let t := s1.getR Reg.HOST_LOAD_TARGET
  s1.irqLog (if code = 0 then 0 else 1) 0 Pg.HOST (if hClass t = 0 then 0 else t)
    [(4, (s1.getR Reg.HOST_LOAD_STAT).toNat), (4, (s1.getR Reg.HOST_LOAD_TAG).toNat), (1, ty)]

/-- CHAN.LINK_FAIL (R117). -/
def State.setLinkFail (s : State) (reason stroke : Nat) : State := s.setR Reg.CHAN0_LINK_FAIL (w32 (stroke * 65536 + reason))

/-- A DRAIN composes the standby without the channel and marks it for release (R106). -/
def State.drainCompose (s : State) (n : Nat) : State :=
  match s.basePlan with
  | none => s
  | some p => (s.compose (p.without n)).modChan n (fun c => { c with release := true })

/-- DRAIN_DONE (R106): with result 0x00, or 0x0A where the channel is no longer LIVE or its handle is stale. -/
def execDrainDone (s : State) : Host.Outcome State Fault Refusal :=
  match s.drainJob with
  | none => done s
  | some j =>
    let s1 := ({ s with drainJob := none }).setLinkFail 0 0xFFFF
    let c := s1.chan j.slot
    if c.st = 3 ∧ c.gen = j.gen then done ((s1.drainCompose j.slot).loadResult 0 0 0)
    else done (s1.loadResult 0x0A 0 0)

/-- DESTROY: a LOADING channel becomes FREE; of a STAGED one the bank is dropped and the channel goes on to FREE (R102, R103, R108). -/
def State.chDestroyOp (s : State) : State :=
  s.onChan Reg.CHAN0_CH_CMD (fun s n =>
    if !s.chanModes then s.refuse Pg.CHAN0
    else if (s.chan n).st = 1 then s.chanFree n
    else if (s.chan n).st = 2 then s.dropBank.chanFree n
    else s.refuse Pg.CHAN0)

/-- CH_DESTROY (R102, R108). -/
def execChDestroy (s : State) : Host.Outcome State Fault Refusal := hostCmd s Pg.CHAN0 State.chDestroyOp

/-- MANUAL and AUTO: on a STAGED channel the mode it will take, on a LIVE one a command for the next due E0; refused elsewhere, for
MANUAL without a MANUAL mode, and for AUTO while HELD (R102, R110, R111, R115). -/
def State.chModeOp (s : State) (auto : Bool) : State :=
  s.onChan Reg.CHAN0_CH_CMD (fun s n =>
    let c := s.chan n
    if !s.clk.gen || (!auto && decide (2 ≤ c.st) && !c.hasManual) || (auto && c.feHeld) then s.refuse Pg.CHAN0
    else if c.st = 2 then s.setChan n { c with auto := auto }
    else if c.st = 3 then s.setChan n { c with cmd := some auto, cmdAfterExec := false }
    else s.refuse Pg.CHAN0)

/-- CH_MANUAL (R111). -/
def execChManual (s : State) : Host.Outcome State Fault Refusal := hostCmd s Pg.CHAN0 (fun s => s.chModeOp false)

/-- CH_AUTO (R111). -/
def execChAuto (s : State) : Host.Outcome State Fault Refusal := hostCmd s Pg.CHAN0 (fun s => s.chModeOp true)

/-- The CMD field of a CH_CMD write: 0 is ignored, 6–15 are refused (R102). -/
def State.chCmdOp (s : State) (data : Word) : State :=
  match fld data 0 4 with
  | 0 => s
  | 1 => s.chCreateOp (if bit data 15 then some (fld data 8 7) else none)
  | 2 => s.chDrainOp
  | 3 => s.chDestroyOp
  | 4 => s.chModeOp false
  | 5 => s.chModeOp true
  | _ => s.refuse Pg.CHAN0

/-- CHANNEL_FREE (R108): a DRAINING channel whose E0s have passed becomes FREE. -/
def execChannelFree (slot : Fin 128) (s : State) : Host.Outcome State Fault Refusal :=
  if (s.chan slot).st = 4 ∧ (s.chan slot).drain = 0 then done (s.chanFree slot) else done s

/-! ## Coefficients (R112) -/

/-- A refused coefficient write: counted twice and flagged (R112). -/
def State.coefRefuse (s : State) : State := ((s.refuse Pg.CHAN0).incSat Reg.CHAN0_COEF_REFUSE_CNT).irq Pg.CHAN0 3

/-- The Pump cycle that ends at the boundary of an access now, counted from E0 (R437). -/
def State.cycleEnded (s : State) : Nat := (s.clk.tick - s.clk.e0) / 2 - 1

/-- A Pump stroke retires to Sump word `i` in the cycle that ends now. -/
def State.collides (s : State) (i : Nat) : Bool :=
  s.pump.pipe.any (fun e => decide (e.1 = s.cycleEnded) && (match e.2.1 with | .sump j _ => decide (j = i) | _ => false))

/-- COEF_DATA of the selected channel: local word IDX takes the value after the retirements of the cycle that ends (R112, R437). -/
def State.coefOp (s : State) (data : Word) : State :=
  s.onChan Reg.CHAN0_COEF_DATA (fun s n =>
    let c := s.chan n
    let idx := s.getF Reg.CHAN0_COEF_IDX 0 10
    if (c.st = 2 ∨ c.st = 3) ∧ idx < 4 * c.used then
      let i := c.place idx
      let s1 := if s.collides i then s.incSat Reg.CHAN0_COEF_COLLIDE_CNT else s
      let s2 := s1.settleNow.setSump i data
      if s2.getB Reg.CHAN0_COEF_IDX 16 then s2.setF Reg.CHAN0_COEF_IDX 0 10 (if idx + 1 = 4 * c.used then 0 else idx + 1) else s2
    else s.coefRefuse)

/-- COEF_WRITE (R112). -/
def execCoefWrite (data : Word) (s : State) : Host.Outcome State Fault Refusal := hostCmd s Pg.CHAN0 (fun s => s.coefOp data)

/-! ## MANUAL and AUTO (R111) -/

/-- MODE_W and CH_VIEW.MODE take the mode; the following-error timer clears (R111, R115). -/
def State.setMode (s : State) (n : Nat) (auto : Bool) : State :=
  let c := s.chan n
  (s.setChanWord c c.modeW (if auto then 0x3F800000 else 0)).setChan n { c with auto := auto, feTimer := 0 }

/-- AUTO to MANUAL: MAN_W := OUT_W, then MODE_W := +0.0 (R111). -/
def State.toManual (s : State) (n : Nat) : State :=
  let c := s.chan n
  if !c.auto then s else (s.setChanWord c c.manW (s.chanWord c c.outW)).setMode n false

/-- MANUAL to AUTO: INTEG_W := INTEG_W + (OUT_W − AUTO_W), rounded once, then MODE_W := +1.0 (R111). -/
def State.toAuto (s : State) (n : Nat) : State :=
  let c := s.chan n
  if c.auto then s
  else if c.integW = 0xFFFF ∨ c.autoW = 0xFFFF then s.setMode n true
  else
    let r := fenc (fadd (fdec (s.chanWord c c.integW)) (fadd (fdec (s.chanWord c c.outW)) (fneg (fdec (s.chanWord c c.autoW)))))
    ((s.countArith r.nan r.ofl).setChanWord c c.integW r.w).setMode n true

/-! ## Following error (R114, R115) -/

/-- The excursion of channel `n` fires: OVER, FIRED, count, interrupt, entry, and the action (R115). -/
def State.feFire (s : State) (n : Nat) : State :=
  let c := s.chan n
  let live := decide (s.pw.mode = .armed ∨ s.pw.mode = .run)
  let hold := live && decide (c.feAction = 2) && c.hasManual
  let trip := live && decide (c.feAction = 3)
  let s1 := s.setChan n { c with feOver := true, feFired := true }
  let s2 := (s1.incSat Reg.CHAN0_FE_EVENT_CNT).irqLog (if trip then 3 else if hold then 2 else 1) 2 Pg.CHAN0 (mkHandle 1 c.gen n)
    [(4, (s1.chanWord c c.feRefW).toNat), (4, (s1.chanWord c c.feFbW).toNat)]
  if hold then (s2.toManual n).modChan n (fun c => { c with feHeld := true })
  else if trip then s2.enterSafe SafeCause.ctrlFault
  else s2

/-- Is channel `n` supervised (R115)? -/
def ChanSlot.supervised (c : ChanSlot) : Bool := decide (c.st = 3) && c.auto && decide (c.feAction ≠ 0)

/-- FOLLOWING_ERROR_FIRE (R115): the timer exceeds FE_TIME and the excursion has not fired. -/
def execFollowingErrorFire (slot : Fin 128) (s : State) : Host.Outcome State Fault Refusal :=
  let c := s.chan slot
  if c.supervised && decide (c.feTime < c.feTimer) && !c.feOver then done (s.feFire slot) else done s

/-- The evaluation of channel `n` at the first E0 after an execution (R115). -/
def State.feEvaluate (s : State) (n : Nat) : State :=
  let c := s.chan n
  if !c.supervised || !c.executed then s
  else
    let e := fenc (fabs (fround (fadd (fdec (s.chanWord c c.feRefW)) (fneg (fdec (s.chanWord c c.feFbW))))))
    if !e.nan && fltW c.feLimit e.w then
      let t := min 65535 (c.feTimer + 2 ^ c.divLog)
      let s1 := s.setChan n { c with feTimer := t }
      if c.feTime < t ∧ (c.feTimer ≤ c.feTime ∨ !c.feOver) then s1.feFire n else s1
    else s.setChan n { c with feTimer := 0, feOver := false }

/-- FE_CLR clears FIRED and HELD of the selected channel (R115, R117). -/
def State.feClrOp (s : State) : State :=
  s.onChan Reg.CHAN0_FE_CLR (fun s n => s.modChan n (fun c => { c with feFired := false, feHeld := false }))

/-- FE_CLR (R115). -/
def execFeClr (s : State) : Host.Outcome State Fault Refusal := hostCmd s Pg.CHAN0 State.feClrOp

/-- Settings of the selected channel are writable in LOADING, STAGED and LIVE (R114). -/
def ChanSlot.settable (c : ChanSlot) : Bool := decide (1 ≤ c.st ∧ c.st ≤ 3)

/-- A write to FE_LIMIT: negative, infinite and NaN are refused (R114). -/
def State.feLimitOp (s : State) (data : Word) : State :=
  s.onChan Reg.CHAN0_FE_LIMIT (fun s n =>
    let c := s.chan n
    if !c.settable || fNonFinite data || (bit data 31 && decide (data ≠ 0x80000000)) then s.refuse Pg.CHAN0
    else s.setChan n { c with feLimit := data })

/-- A write to FE_CFG: ACTION ≠ 0 needs both words (R114). -/
def State.feCfgOp (s : State) (data : Word) : State :=
  s.onChan Reg.CHAN0_FE_CFG (fun s n =>
    let c := s.chan n
    let a := fld data 16 2
    if !c.settable || (decide (a ≠ 0) && decide (2 ≤ c.st) && decide (c.feRefW = 0xFFFF ∨ c.feFbW = 0xFFFF)) then s.refuse Pg.CHAN0
    else s.setChan n { c with feTime := fld data 0 16, feAction := a })

/-- A write to CH_RATE of a LOADING channel (R109). -/
def State.chRateOp (s : State) (data : Word) : State :=
  s.onChan Reg.CHAN0_CH_RATE (fun s n =>
    let c := s.chan n
    let d := fld data 0 3
    let p := fld data 8 6
    if c.st ≠ 1 ∨ 6 < d ∨ 2 ^ d ≤ p then s.refuse Pg.CHAN0 else s.setChan n { c with divLog := d, phase := p })

/-- A write to CH_REPLACES of a LOADING channel: null, or a valid loop-channel handle (R41); that it names a LIVE channel is
checked at the load (R113). -/
def State.chReplacesOp (s : State) (data : Word) : State :=
  s.onChan Reg.CHAN0_CH_REPLACES (fun s n =>
    let c := s.chan n
    if c.st ≠ 1 then s.refuse Pg.CHAN0
    else if data = 0 then s.setChan n { c with replaces := 0 }
    else if !s.validFor data 1 then s.stale data Reg.CHAN0_CH_REPLACES
    else s.setChan n { c with replaces := data })

/-! ## The channel work of an E0 (R116) -/

/-- A command of channel `n` that is due takes effect (R111); the AUTO of R113 also awaits the first execution. -/
def State.chanCommand (s : State) (pc n : Nat) : State :=
  let c := s.chan n
  match c.cmd with
  | none => s
  | some auto =>
    let wait := c.cmdAfterExec && !c.executed
    if decide (c.st ≠ 3) || !c.due pc || wait then
      s.setChan n { c with cmdAfterExec := wait }
    else
      let s1 := s.setChan n { c with cmd := none, cmdAfterExec := false }
      if auto && c.feHeld then s1.refuse Pg.CHAN0
      else if auto then s1.toAuto n
      else if c.hasManual then s1.toManual n
      else s1

/-- A STAGED channel becomes LIVE, with the preset of R113 where it replaces one (R108, R113). -/
def State.goLive (s : State) (n : Nat) : State :=
  let c := s.chan n
  let c1 := { c with st := 3, replaces := 0, takesFrom := none, cmd := none, cmdAfterExec := false, executed := false, feTimer := 0 }
  match c.takesFrom with
  | none =>
    let c2 := if c.hasManual then c1 else { c1 with auto := true }
    (s.chanMove n c2).setMode n c2.auto
  | some k =>
    let o := s.chan k
    if !c.hasManual then (s.chanMove n { c1 with auto := true }).setMode n true
    else if o.outW = 0xFFFF then (s.chanMove n c1).setMode n c1.auto
    else
      let c2 := { c1 with auto := false, cmd := if o.auto then some true else none, cmdAfterExec := o.auto }
      ((s.chanMove n c2).setChanWord c2 c2.manW (s.chanWord o o.outW)).setMode n false

/-- The marked channel becomes DRAINING for DRAIN_CFG.PERIODS further E0s, its words held (R108). -/
def State.goDraining (s : State) (n : Nat) : State :=
  let c := s.chan n
  s.chanMove n { c with st := 4, release := false, drain := max 1 (s.getF Reg.CHAN0_DRAIN_CFG 0 8) + 1, cmd := none }

/-- The staged bank swaps in (R88) with the state changes it brings (R108). -/
def State.bankSwap (s : State) : State :=
  let b := s.standby
  let s1 := (List.range 128).foldl (fun s n => if (s.chan n).st = 2 then s.goLive n else s) s
  let s2 := (List.range 128).foldl (fun s n => if (s.chan n).st = 3 && (s.chan n).release then s.goDraining n else s) s1
  let s3 := { s2 with pump.inForce := true, pump.active := b, pump.stagedBank := false }
  ((s3.incMod Reg.PUMP_SWAP_CNT).blockEv Pg.PUMP).irq Pg.PUMP 0

/-- Does the staged bank swap in at this E0 (R88)? -/
def State.swapDue (s : State) : Bool :=
  s.pump.stagedBank && (!s.getB Reg.PUMP_SWAP_CFG 0 || decide (s.getR Reg.PUMP_SWAP_AT = s.getR Reg.TIME_PERIOD_CNT))

/-- One E0 of a DRAINING channel (R108). -/
def State.chanDrainE0 (s : State) (n : Nat) : State :=
  let c := s.chan n
  if c.st ≠ 4 then s
  else
    let s1 := s.setChan n { c with drain := c.drain - 1 }
    if c.drain ≤ 1 then s1.chanFree n else s1

/-- The slots that hold a channel. -/
def State.usedSlots (s : State) : List Nat := (s.chans.filter (fun e => decide (e.2.st ≠ 0))).map (·.1)

/-- The channel work of one E0, in the order of R116. -/
def State.channelWork (s : State) : State :=
  let pc := (s.getR Reg.TIME_PERIOD_CNT).toNat
  let s1 := s.usedSlots.foldl State.feEvaluate s
  let s2 := s1.usedSlots.foldl (fun s n => s.chanCommand pc n) s1
  let s3 := if s2.swapDue then s2.bankSwap else s2
  let s4 := s3.usedSlots.foldl State.chanDrainE0 s3
  s4.usedSlots.foldl (fun s n => s.modChan n (fun c => { c with executed := false })) s4

end Sys2Proof.Machine
end

