-- ==== Sys2Proof/Machine/Strokes.lean ====
section
/-! DEFINITION. The strokes of the Pump (R78–R84). A stroke command is the sequencer issuing its next stroke: it acts when the running
schedule's next stroke is this one. -/
namespace Sys2Proof.Machine

/-- A result that moves a bit pattern and counts nothing (R80). -/
def rawRes (w : Word) : FRes := ⟨w, false, false⟩

/-- Decode the three operands and round the result of `g` once. -/
def fp3 (g : FVal → FVal → FVal → FVal) (a b c : Word) : FRes := fenc (g (fdec a) (fdec b) (fdec c))

/-- NOP: IMM + 1 cycles without effect (R82). -/
def execNop (f : Scalar) (s : State) : Host.Outcome State Fault Refusal :=
  if !s.strokeReady (encodeScalar 0x00 f) then done s else done (s.strokeOpen.strokeClose f.fin (f.imm.toNat + 1))

/-- FMA: d = a × b + c, one rounding (R82). -/
def execFma (f : Scalar) (s : State) : Host.Outcome State Fault Refusal :=
  done (s.scalarWord 0x01 f (fun _ a b c => fp3 ffma a b c))

/-- FMS: d = a × b − c (R82). -/
def execFms (f : Scalar) (s : State) : Host.Outcome State Fault Refusal :=
  done (s.scalarWord 0x02 f (fun _ a b c => fp3 (fun x y z => ffma x y (fneg z)) a b c))

/-- FNMA: d = c − a × b (R82). -/
def execFnma (f : Scalar) (s : State) : Host.Outcome State Fault Refusal :=
  done (s.scalarWord 0x03 f (fun _ a b c => fp3 (fun x y z => ffma (fneg x) y z) a b c))

/-- LERP: d = a + (b − a) × c; FMA0 rounds b − a, FMA1 the fused sum (R80, R82). -/
def execLerp (f : Scalar) (s : State) : Host.Outcome State Fault Refusal :=
  done (s.scalarWord 0x04 f (fun _ a b c => fp3 (fun x y z => ffma (fround (fadd y (fneg x))) z x) a b c))

/-- MIN (R82). -/
def execMin (f : Scalar) (s : State) : Host.Outcome State Fault Refusal :=
  done (s.scalarWord 0x08 f (fun _ a b _ => fenc (fmin (fdec a) (fdec b))))

/-- MAX (R82). -/
def execMax (f : Scalar) (s : State) : Host.Outcome State Fault Refusal :=
  done (s.scalarWord 0x09 f (fun _ a b _ => fenc (fmax (fdec a) (fdec b))))

/-- CLAMP: d = min(max(a, b), c) (R82). -/
def execClamp (f : Scalar) (s : State) : Host.Outcome State Fault Refusal :=
  done (s.scalarWord 0x0A f (fun _ a b c => fp3 (fun x y z => fmin (fmax x y) z) a b c))

/-- SEL: a when P[PIDX] XOR PNEG is 1, else b; PEN is ignored and the stroke always writes (R82). -/
def execSel (f : Scalar) (s : State) : Host.Outcome State Fault Refusal :=
  if !s.strokeReady (encodeScalar 0x0B f) then done s
  else
    let s1 := s.strokeOpen
    let w := if s1.pump.preds.getLsbD f.pidx.toNat != f.pneg then s1.sumpW f.sa.toNat else s1.sumpW f.sb.toNat
    done ((s1.writeScalar f w).strokeClose f.fin 1)

/-- ABS (R82). -/
def execAbs (f : Scalar) (s : State) : Host.Outcome State Fault Refusal :=
  done (s.scalarWord 0x0C f (fun _ a _ _ => fenc (fabs (fdec a))))

/-- NEG (R82). -/
def execNeg (f : Scalar) (s : State) : Host.Outcome State Fault Refusal :=
  done (s.scalarWord 0x0D f (fun _ a _ _ => fenc (fneg (fdec a))))

/-- RCP: 1/a within 1 ulp (R82). -/
def execRcp (f : Scalar) (s : State) : Host.Outcome State Fault Refusal := done (s.scalarWord 0x0E f (fun _ a _ _ => frcp a))

/-- RSQ: 1/√a within 2 ulp (R82). -/
def execRsq (f : Scalar) (s : State) : Host.Outcome State Fault Refusal := done (s.scalarWord 0x0F f (fun _ a _ _ => frsq a))

/-- WRAP: a reduced into [0, b) (R82). -/
def execWrap (f : Scalar) (s : State) : Host.Outcome State Fault Refusal :=
  done (s.scalarWord 0x10 f (fun _ a b _ => fwrap (fdec a) (fdec b) (Config.wrapInf a)))

/-- TLU: table IMM[2:0] of the active half at angle a, scaled by b; two roundings (R82). -/
def State.tlu (s : State) (t : Nat) (a b : Word) : FRes :=
  match fdec a with
  | .nan => fenc .nan
  | .inf _ => fenc .nan
  | .fin sg m e =>
    let x := tluIndex sg m e
    let k := x / 2 ^ 24
    let v := fround (tluLerp (fdec (s.activeEntry t k)) (fdec (s.activeEntry t ((k + 1) % 1024))) (x % 2 ^ 24))
    fenc (fmul v (fdec b))

/-- TLU (R82). -/
def execTlu (f : Scalar) (s : State) : Host.Outcome State Fault Refusal :=
  done (s.scalarWord 0x11 f (fun s a b _ => s.tlu (f.imm.toNat % 8) a b))

/-- CLT (R82). -/
def execClt (f : Scalar) (s : State) : Host.Outcome State Fault Refusal :=
  done (s.scalarPred 0x14 f (fun _ a b => flt (fdec a) (fdec b)))

/-- CLE: a ≤ b (R82). -/
def execCle (f : Scalar) (s : State) : Host.Outcome State Fault Refusal :=
  done (s.scalarPred 0x15 f (fun _ a b => (flt (fdec b) (fdec a)).map (fun c => !c)))

/-- CEQ; +0 equals −0 (R82). -/
def execCeq (f : Scalar) (s : State) : Host.Outcome State Fault Refusal :=
  done (s.scalarPred 0x16 f (fun _ a b => feq (fdec a) (fdec b)))

/-- CALT: |a| < b (R82). -/
def execCalt (f : Scalar) (s : State) : Host.Outcome State Fault Refusal :=
  done (s.scalarPred 0x17 f (fun _ a b => flt (fabs (fdec a)) (fdec b)))

/-- PAND of predicates SA[2:0] and SB[2:0] (R82). -/
def execPand (f : Scalar) (s : State) : Host.Outcome State Fault Refusal :=
  done (s.scalarPred 0x18 f (fun s _ _ => some (s.pump.preds.getLsbD (f.sa.toNat % 8) && s.pump.preds.getLsbD (f.sb.toNat % 8))))

/-- POR of predicates SA[2:0] and SB[2:0] (R82). -/
def execPor (f : Scalar) (s : State) : Host.Outcome State Fault Refusal :=
  done (s.scalarPred 0x19 f (fun s _ _ => some (s.pump.preds.getLsbD (f.sa.toNat % 8) || s.pump.preds.getLsbD (f.sb.toNat % 8))))

/-- IADD, modulo 2^32 (R80, R82). -/
def execIadd (f : Scalar) (s : State) : Host.Outcome State Fault Refusal := done (s.scalarWord 0x20 f (fun _ a b _ => rawRes (a + b)))
/-- ISUB (R82). -/
def execIsub (f : Scalar) (s : State) : Host.Outcome State Fault Refusal := done (s.scalarWord 0x21 f (fun _ a b _ => rawRes (a - b)))
/-- IAND (R82). -/
def execIand (f : Scalar) (s : State) : Host.Outcome State Fault Refusal := done (s.scalarWord 0x22 f (fun _ a b _ => rawRes (a &&& b)))
/-- IOR (R82). -/
def execIor (f : Scalar) (s : State) : Host.Outcome State Fault Refusal := done (s.scalarWord 0x23 f (fun _ a b _ => rawRes (a ||| b)))
/-- IXOR (R82). -/
def execIxor (f : Scalar) (s : State) : Host.Outcome State Fault Refusal := done (s.scalarWord 0x24 f (fun _ a b _ => rawRes (a ^^^ b)))
/-- ISHL by b[4:0] (R82). -/
def execIshl (f : Scalar) (s : State) : Host.Outcome State Fault Refusal :=
  done (s.scalarWord 0x25 f (fun _ a b _ => rawRes (a <<< (fld b 0 5))))
/-- ISHR: arithmetic, by b[4:0] (R82). -/
def execIshr (f : Scalar) (s : State) : Host.Outcome State Fault Refusal :=
  done (s.scalarWord 0x26 f (fun _ a b _ => rawRes (a.sshiftRight (fld b 0 5))))
/-- F2I (R80, R82). -/
def execF2i (f : Scalar) (s : State) : Host.Outcome State Fault Refusal :=
  done (s.scalarWord 0x27 f (fun _ a _ _ => let r := ff2i a; ⟨r.1, r.2, false⟩))
/-- I2F (R82). -/
def execI2f (f : Scalar) (s : State) : Host.Outcome State Fault Refusal := done (s.scalarWord 0x28 f (fun _ a _ _ => rawRes (fi2f a)))
/-- ICLT: signed a < b (R82). -/
def execIclt (f : Scalar) (s : State) : Host.Outcome State Fault Refusal :=
  done (s.scalarPred 0x29 f (fun _ a b => some (decide (a.toInt < b.toInt))))

/-! ## Vector strokes -/

/-- Sump[SA] of a vector stroke as it issues. -/
def State.vA (s : State) (f : Vec) : Word := s.sumpW f.sa.toNat
/-- Sump[SB] of a vector stroke as it issues. -/
def State.vB (s : State) (f : Vec) : Word := s.sumpW f.sb.toNat

/-- VFMA: Y[i] = X[i] × A + B (R82). -/
def execVfma (f : Vec) (s : State) : Host.Outcome State Fault Refusal :=
  done (s.vector 0x30 f (fun s => (s.vA f, s.vB f))
    (fun s ab i => (ab, (s.elemMap f i (fun x => fmaW x ab.1 ab.2)).2)) (fun s _ => s))

/-- Add to a running sum that starts with its first element (R80: ascending, one rounding per addition). -/
def sumStep (acc : Option FVal) (x : FVal) : Option FVal :=
  match acc with
  | none => some x
  | some a => some (fround (fadd a x))

/-- VFMAS: Y[i] = X[i] × A + B and D = Σ Y[i], over the Y[i] as written (R82). -/
def execVfmas (f : Vec) (s : State) : Host.Outcome State Fault Refusal :=
  done (s.vector 0x31 f (fun s => ((s.vA f, s.vB f), (none : Option FVal)))
    (fun s acc i => let (w, t) := s.elemMap f i (fun x => fmaW x acc.1.1 acc.1.2); ((acc.1, sumStep acc.2 (fdec w)), t))
    (fun s acc => s.writeD f (fenc (acc.2.getD .nan))))

/-- VSUM: D = Σ (X[i] × A + B); only D is written and counted (R80, R82). -/
def execVsum (f : Vec) (s : State) : Host.Outcome State Fault Refusal :=
  done (s.vector 0x32 f (fun s => ((s.vA f, s.vB f), (none : Option FVal)))
    (fun s acc i => let (x, t) := s.readElem f.xd.toNat i
      ((acc.1, sumStep acc.2 (fround (ffma (fdec x) (fdec acc.1.1) (fdec acc.1.2)))), t))
    (fun s acc => s.writeD f (fenc (acc.2.getD .nan))))

/-- Running extreme: the value and the index of its first occurrence; a NaN makes the result NaN (R80). -/
def extremeStep (isMax : Bool) (acc : Option (FVal × Nat)) (x : FVal) (i : Nat) : Option (FVal × Nat) :=
  match acc with
  | none => some (x, i)
  | some (a, k) =>
    match (if isMax then flt a x else flt x a) with
    | none => some (.nan, k)
    | some c => if c then some (x, i) else some (a, k)

/-- A reduction to an extreme of X. -/
def State.extreme (s : State) (op : Nat) (f : Vec) (isMax : Bool) (out : FVal × Nat → FRes) : State :=
  s.vector op f (fun _ => (none : Option (FVal × Nat)))
    (fun s acc i => let (x, t) := s.readElem f.xd.toNat i; (extremeStep isMax acc (fdec x) i, t))
    (fun s acc => s.writeD f (out (acc.getD (.nan, 0))))

/-- The index of an extreme as an integer, 0 and a count for a NaN (R80). -/
def indexRes (p : FVal × Nat) : FRes :=
  match p.1 with
  | .nan => ⟨0, true, false⟩
  | _ => rawRes (w32 p.2)

/-- VMAX (R82). -/
def execVmax (f : Vec) (s : State) : Host.Outcome State Fault Refusal := done (s.extreme 0x33 f true (fun p => fenc p.1))
/-- VMIN (R82). -/
def execVmin (f : Vec) (s : State) : Host.Outcome State Fault Refusal := done (s.extreme 0x34 f false (fun p => fenc p.1))
/-- VIMAX: index of the first maximum (R82). -/
def execVimax (f : Vec) (s : State) : Host.Outcome State Fault Refusal := done (s.extreme 0x35 f true indexRes)
/-- VIMIN: index of the first minimum (R82). -/
def execVimin (f : Vec) (s : State) : Host.Outcome State Fault Refusal := done (s.extreme 0x36 f false indexRes)

/-- VCLAMP: Y[i] = min(max(X[i], A), B) (R82). -/
def execVclamp (f : Vec) (s : State) : Host.Outcome State Fault Refusal :=
  done (s.vector 0x37 f (fun s => (fdec (s.vA f), fdec (s.vB f)))
    (fun s ab i => (ab, (s.elemMap f i (fun x => fenc (fmin (fmax (fdec x) ab.1) ab.2))).2)) (fun s _ => s))

/-- VMOV: Y[i] = X[i] (R82). -/
def execVmov (f : Vec) (s : State) : Host.Outcome State Fault Refusal :=
  done (s.vector 0x38 f (fun _ => ()) (fun s u i => (u, (s.elemMap f i rawRes).2)) (fun s _ => s))

/-- VSPLAT: Y[i] = A; XD is ignored (R82). -/
def execVsplat (f : Vec) (s : State) : Host.Outcome State Fault Refusal :=
  done (s.vector 0x39 f (fun s => s.vA f) (fun s a i => (a, s.writeElem f.yd.toNat i a (s.pump.cyc + i + 4))) (fun s _ => s))

/-- VGET: D = X[IMM], one cycle (R82). -/
def execVget (f : Vec) (s : State) : Host.Outcome State Fault Refusal :=
  if !s.strokeReady (encodeVec 0x3A f) then done s
  else
    let s1 := s.strokeOpen
    let s2 := if s1.predTakes f.pen f.pneg f.pidx then
        let (x, t) := s1.readElem f.xd.toNat f.imm.toNat
        t.pushRetire (t.pump.cyc + 4) (.sump f.sd.toNat x)
      else s1
    done (s2.strokeClose f.fin 1)

/-- VPUT: Y[IMM] = A, one cycle (R82). -/
def execVput (f : Vec) (s : State) : Host.Outcome State Fault Refusal :=
  if !s.strokeReady (encodeVec 0x3B f) then done s
  else
    let s1 := s.strokeOpen
    let s2 := if s1.predTakes f.pen f.pneg f.pidx then s1.writeElem f.yd.toNat f.imm.toNat (s1.vA f) (s1.pump.cyc + 4) else s1
    done (s2.strokeClose f.fin 1)

/-- VWRAP: Y[i] = WRAP(X[i] + A, B); FMA0 rounds the sum, the CSU wraps it (R82). -/
def execVwrap (f : Vec) (s : State) : Host.Outcome State Fault Refusal :=
  done (s.vector 0x3C f (fun s => (s.vA f, s.vB f))
    (fun s ab i => (ab, (s.elemMap f i (fun x => fwrap (fround (fadd (fdec x) (fdec ab.1))) (fdec ab.2) (Config.wrapInf x))).2)) (fun s _ => s))

/-- BADOP: an unlisted opcode runs as a one-cycle NOP and is counted (R82). -/
def execBadop (stroke : BitVec 64) (s : State) : Host.Outcome State Fault Refusal :=
  if !s.strokeReady stroke || opListed (strokeOp stroke) then done s
  else done (((s.strokeOpen.incSat Reg.PUMP_BADOP_CNT).irq Pg.PUMP 7).strokeClose (strokeFin stroke) 1)

end Sys2Proof.Machine
end

