-- ==== Sys2Proof/Machine/Tables.lean ====
section
/-! DEFINITION. Angle-indexed compensation tables (R134–R138, R141). -/
namespace Sys2Proof.Machine

/-- COMP.SWAP arms the tables of the mask; a swap already armed stays (R135). -/
def State.tableArmOp (s : State) (mask : BitVec 8) : State := { s with tab.armed := s.tab.armed ||| mask }

/-- TABLE_SWAP_ARM (R135). -/
def execTableSwapArm (mask : BitVec 8) (s : State) : Host.Outcome State Fault Refusal := hostCmd s Pg.COMP (fun s => s.tableArmOp mask)

/-- Step (2b) of R15: the armed halves exchange, and the copy-back of those configured starts (R135). -/
def State.tableSwaps (s : State) : State :=
  let m := s.tab.armed
  if m = 0 then s
  else
    let cfg := BitVec.ofNat 8 (s.getF Reg.COMP_SWAP_CFG 0 8)
    let s1 := { s with tab.active := s.tab.active ^^^ m, tab.armed := 0, tab.busy := (s.tab.busy &&& ~~~m) ||| (m &&& cfg) }
    let s2 := (List.range 8).foldl (fun s k => if m.getLsbD k then s.blockEv Pg.COMP else s) s1
    s2.irq Pg.COMP 0

/-- The edit half of table `k` takes the contents of its active half (R135). -/
def State.copyBack (s : State) (k : Nat) : State :=
  let h := b2n (s.tab.active.getLsbD k)
  s.setMemBytes (tableBase + 0x8000 * (1 - h) + 0x1000 * k) (s.memBytes (tableBase + 0x8000 * h + 0x1000 * k) 4096)

/-- COPY_BACK_DONE (R135): nothing while the table's copy is not running. -/
def execCopyBackDone (table : Fin 8) (s : State) : Host.Outcome State Fault Refusal :=
  if s.tab.busy.getLsbD table then
    done (({ (s.copyBack table) with tab.busy := s.tab.busy &&& ~~~((1 : BitVec 8) <<< table.val) }).irq Pg.COMP 1)
  else done s

/-- The source angle of table `k` and its angular frequency (R137, R138). -/
def State.compSource (s : State) (k : Nat) : Word × Word :=
  let cfg := s.getR (Reg.COMP_TC_CFG k)
  match fld cfg 1 2 with
  | 0 => (s.sumpW 8, s.sumpW 11)
  | 1 => (s.sumpW 22, s.sumpW 23)
  | 2 => (s.sumpW (50 + fld cfg 4 4), s.sumpW 11)
  | _ => s.cellAngle

/-- θ = src + OFFSET + Ω × T_S × ADV / 256: rounded once, or operation by operation; the rules do not say which (R137). -/
def State.compTheta (s : State) (k : Nat) : Word × State :=
  let (src, om) := s.compSource k
  let off := s.getR (Reg.COMP_TC_OFFSET k)
  let adv := s.getF (Reg.COMP_TC_CFG k) 8 8
  let ts := s.sumpW 3
  let advF : FVal := .fin false adv (-8)
  let once := (fenc (fadd (fadd (fdec src) (fdec off)) (fmul (fmul (fdec om) (fdec ts)) advF))).w
  let byOp := (faddW (faddW src off).w (fenc (fmul (fdec (fmulW om ts).w) advF)).w).w
  s.pick2 once byOp

/-- b = GAIN × m (R137). -/
def State.compScale (s : State) (k : Nat) : Word :=
  let gain := s.getR (Reg.COMP_TC_GAIN k)
  if s.getB (Reg.COMP_TC_CFG k) 16 then
    let mag := s.sumpW (s.getF (Reg.COMP_TC_CFG k) 17 6)
    (fmulW gain (fclampW (fdivW mag (s.getR (Reg.COMP_TC_MAG_NORM k))).w 0 (s.getR (Reg.COMP_TC_MAG_MAX k)))).w
  else gain

/-- Table `k` at E0: word 40 + k takes its result, +0.0 while disabled; a NaN result sets bit 2 (R137). -/
def State.compEval (s : State) (k : Nat) : State :=
  if s.getB (Reg.COMP_TC_CFG k) 0 then
    let (th, s1) := s.compTheta k
    let r := s1.tlu k th (s1.compScale k)
    ((s1.irqIf r.nan Pg.COMP 2).setSump (40 + k) r.w).setR (Reg.COMP_TC_OUT k) r.w
  else (s.setSump (40 + k) 0).setR (Reg.COMP_TC_OUT k) 0

/-- COMP at E0, after step (4) of R15 (R137). -/
def State.compE0 (s : State) : State := (List.range 8).foldl State.compEval s

/-- A write to TC_CFG[k]: SRC = 3 only in the Cell role, and only that there; SRC_WORD 14 and 15 refused (R138, R141). -/
def State.tcCfgOp (s : State) (k : Nat) (data : Word) : State :=
  let src := fld data 1 2
  if (decide (s.pw.role = .cell) != decide (src = 3)) || decide (14 ≤ fld data 4 4) then s.refuse Pg.COMP
  else s.setR (Reg.COMP_TC_CFG k) (data &&& 0x7FFFF7)

/-- A host write of a word in Table RAM, byte lanes `be` (R134, R135): the edit window reaches the inactive half; the active window is
read only. -/
def State.tableWrite (s : State) (ad : Nat) (data : Word) (be : BitVec 4) (put : State → Nat → Word → BitVec 4 → State) : State :=
  let o := ad - tableBase
  if 0x8000 ≤ o then s.busErr 3 ad
  else
    let k := o / 0x1000
    if s.tab.busy.getLsbD k then (s.incSat Reg.COMP_REFUSE_CNT).refuse Pg.COMP
    else put s (tableBase + 0x8000 * (1 - b2n (s.tab.active.getLsbD k)) + o) data be

/-- Stored byte address of a host address in Table RAM: the edit window shows the inactive half, the active window the active one (R134). -/
def State.tableAddr (s : State) (ad : Nat) : Nat :=
  let o := (ad - tableBase) % 0x8000
  let h := b2n (s.tab.active.getLsbD (o / 0x1000))
  tableBase + 0x8000 * (if ad - tableBase < 0x8000 then 1 - h else h) + o

end Sys2Proof.Machine
end

