-- ==== Sys2Proof/Machine/Flags.lean ====
section
/-! DEFINITION. The flag computations shared by every page: IRQ_MASKED, the summary words and the two interrupt lines (R34, R39). The
operations that set a flag stand in Ops.lean (`State.irq`, `State.irqLog`). -/
namespace Sys2Proof.Machine

/-- IRQ_MASKED of page `p` (R34). -/
def State.irqMasked (s : State) (p : Nat) : Word := s.getR (Hdr.IRQ_RAW p) &&& s.getR (Hdr.IRQ_EN p)

/-- The summary bit of page `p` (R39). -/
def State.irqBitOf (s : State) (p : Nat) : Bool := !s.idle p && decide (s.irqMasked p ≠ 0)

/-- Word `k` of IRQ_SUMMARY0–2 (R39). -/
def State.irqSummary (s : State) (k : Nat) : Word :=
  w32 (bitsOf ((List.range 32).map (fun b => decide (32 * k + b < 88) && s.irqBitOf (32 * k + b))))

/-- IRQ0_N (line 0) or IRQ1_N (line 1) is low (R39). -/
def State.irqLine (s : State) (line : Nat) : Bool :=
  (List.range 88).any (fun p => s.irqBitOf p && (s.getB (Hdr.PAGE_CTRL p) 0 == decide (line = 0)))

end Sys2Proof.Machine
end

