-- ==== Sys2Proof/Machine/StationOps.lean ====
section
/-! DEFINITION. Station ports as machines (spec/17_station_ports.md): links, redundancy, the host's descriptor rings and what a port sends.
The commands are in Station.lean, Ptp.lean and Goose.lean. -/
namespace Sys2Proof.Machine

/-- A port after reset. -/
def stnPort0 : StnPort := { last := none, pdSeq := 0, pdOut := none, delays := [], ann := none }
/-- Number of a port. -/
def pn (port : Bool) : Nat := b2n port
/-- Port state. -/
def State.stnP (s : State) (port : Bool) : StnPort := SMap.get stnPort0 (pn port) s.stnPorts
/-- `s` with a port changed. -/
def State.modStnP (s : State) (port : Bool) (f : StnPort → StnPort) : State :=
  { s with stnPorts := SMap.set stnPort0 (pn port) (f (s.stnP port)) s.stnPorts }

/-- The station pages work in this role. -/
def State.stnAwake (s : State) : Bool := s.awake && decide (s.pw.role ≠ .cell)
/-- The port is enabled and its link is up. -/
def State.stnUp (s : State) (port : Bool) : Bool :=
  s.stnAwake && s.getB (Reg.STNn_CFG (pn port)) 0 && s.getB (Reg.STNn_STAT (pn port)) 0

/-- PRP.CFG.MODE: 0 independent, 1 PRP, 2 HSR (R359). -/
def State.redMode (s : State) : Nat := s.getF Reg.PRP_CFG 0 2
/-- The interface whose rings serve a port: STN0's in PRP and HSR (R359). -/
def State.ringPort (s : State) (port : Bool) : Bool := if s.redMode = 0 then port else false

/-- The device's own address: that of the interface. -/
def State.stnMac (s : State) (port : Bool) : BitVec 48 :=
  let p := pn (s.ringPort port)
  BitVec.ofNat 48 (beNat (leBytes 4 (s.getR (Reg.STNn_MAC_LO p)).toNat ++ leBytes 2 (s.getR (Reg.STNn_MAC_HI p)).toNat))

/-! ## Frames (PRESUMED: IEEE 802.3, 802.1Q and IEC 62439-3) -/

def ethDst (bs : List Byte) : BitVec 48 := BitVec.ofNat 48 (beNat (bs.take 6))
def ethSrc (bs : List Byte) : BitVec 48 := BitVec.ofNat 48 (beNat ((bs.drop 6).take 6))
/-- The 16-bit field at byte `o`, most significant byte first. -/
def be16 (bs : List Byte) (o : Nat) : Nat := beNat ((bs.drop o).take 2)
/-- Bytes of one 802.1Q tag. -/
def tagLen (bs : List Byte) : Nat := if be16 bs 12 = 0x8100 then 4 else 0
/-- EtherType behind one tag (R358). -/
def ethType (bs : List Byte) : Nat := be16 bs (12 + tagLen bs)
/-- A frame with two tags goes to the host (R358). -/
def twoTags (bs : List Byte) : Bool := decide (tagLen bs = 4 ∧ ethType bs = 0x8100)
/-- A multicast or broadcast destination. -/
def multicast (bs : List Byte) : Bool := (bs.getD 0 0).getLsbD 0

/-- A valid redundancy control trailer (R360): its suffix, and its size the frame's; with sequence number and LanId. -/
def prpTrailer (bs : List Byte) : Option (BitVec 16 × Nat) :=
  let k := bs.length
  let o := k - 6
  if 24 ≤ k ∧ be16 bs (k - 2) = 0x88FB ∧ be16 bs (k - 4) % 4096 = (k - 14 - tagLen bs) % 4096 then
    some (BitVec.ofNat 16 (be16 bs o), be16 bs (k - 4) / 4096)
  else none

/-- The HSR tag's sequence number (R361). -/
def hsrTag (bs : List Byte) : Option (BitVec 16) :=
  if ethType bs = 0x892F then some (BitVec.ofNat 16 (be16 bs (16 + tagLen bs))) else none

/-- A frame without its HSR tag. -/
def dropHsr (bs : List Byte) : List Byte := bs.take (12 + tagLen bs) ++ bs.drop (18 + tagLen bs)

/-- The trailer appended in PRP (R360). -/
def addTrailer (bs : List Byte) (seq : BitVec 16) (lan : Nat) : List Byte :=
  bs ++ beBytes 2 seq.toNat ++ beBytes 2 (lan * 4096 + (bs.length + 6 - 14 - tagLen bs) % 4096) ++ beBytes 2 0x88FB

/-- The tag inserted in HSR (R361). -/
def addHsr (bs : List Byte) (seq : BitVec 16) (path : Nat) : List Byte :=
  let o := 12 + tagLen bs
  bs.take o ++ beBytes 2 0x892F ++ beBytes 2 (path * 4096 + (bs.length + 6 - 14 - tagLen bs) % 4096) ++ beBytes 2 seq.toNat ++ bs.drop o

/-! ## Sending (R358, R360, R361) -/

/-- A port sends a frame. -/
def State.stnPut (s : State) (port : Bool) (f : StFrame) (seq : Option (BitVec 16)) : State :=
  if s.stnUp port then
    (s.modStnP port (fun p => { p with last := some ⟨f, seq⟩ })).incMod (Reg.STNn_TX_FRAMES (pn port))
  else s

/-- The next redundancy sequence number is taken (R360). -/
def State.takeSeq (s : State) : BitVec 16 × State :=
  (BitVec.ofNat 16 (s.getF Reg.PRP_TX_SEQ 0 16), s.setF Reg.PRP_TX_SEQ 0 16 (s.getF Reg.PRP_TX_SEQ 0 16 + 1))

/-- A frame of the device itself goes out of both ports: under one sequence number in PRP and HSR, and in mode 0 from each port in
service. -/
def State.stnSend (s : State) (f : StFrame) : State :=
  if s.redMode = 0 then (s.stnPut false f none).stnPut true f none
  else let (q, s1) := s.takeSeq; (s1.stnPut false f (some q)).stnPut true f (some q)

/-- A frame of the device itself that belongs to one port (peer delay). -/
def State.stnSendOn (s : State) (port : Bool) (f : StFrame) : State :=
  if s.redMode = 0 then s.stnPut port f none else let (q, s1) := s.takeSeq; s1.stnPut port f (some q)

/-! ## The discard table (R360) -/

/-- DD_TIME in edge ticks. -/
def State.ddTicks (s : State) : Nat := s.getF Reg.PRP_DD_TIME 0 16 * tickMs

/-- A copy of a frame was seen within DD_TIME. -/
def State.ddSeen (s : State) (mac : BitVec 48) (seq : BitVec 16) : Bool :=
  s.stn.dd.any (fun e => decide (e.1 = mac ∧ e.2.1 = seq ∧ s.clk.tick < e.2.2 + s.ddTicks))

/-- A frame enters the table; the oldest entry goes when all 512 are taken. -/
def State.ddAdd (s : State) (mac : BitVec 48) (seq : BitVec 16) : State :=
  let live := s.stn.dd.filter (fun e => decide (s.clk.tick < e.2.2 + s.ddTicks))
  if 512 ≤ live.length then { (s.incSat Reg.PRP_DD_FULL_CNT) with stn.dd := live.drop 1 ++ [(mac, seq, s.clk.tick)] }
  else { s with stn.dd := live ++ [(mac, seq, s.clk.tick)] }

/-! ## Receiving (R357–R361) -/

/-- What the redundancy layer makes of a frame: its bytes without trailer or tag, and the descriptor's flags for them. -/
structure Stripped where
  bytes : List Byte
  trailer : Bool
  tag : Bool

/-- The checks of R357: length with FCS from 64 to MAX_LEN, FCS, and no pause frame. -/
def State.stnFilter (s : State) (f : RxFrame) : State × Bool :=
  let p := pn f.port
  let len := f.bytes.length + 4
  let badLen := decide (len < 64 ∨ s.getF (Reg.STNn_MAX_LEN p) 0 11 < len)
  let s1 := if badLen then s.incSat (Reg.STNn_LEN_ERR_CNT p) else s
  let s2 := if f.fcsOk then s1 else s1.incSat (Reg.STNn_FCS_ERR_CNT p)
  if badLen || !f.fcsOk then (s2, false)
  else if ethType f.bytes = 0x8808 then (s2.incSat (Reg.STNn_PAUSE_CNT p), false)
  else (s2.incMod (Reg.STNn_RX_FRAMES p), true)

/-- A PRP frame (R360): the trailer's LanId is checked, and a second copy is discarded. -/
def State.prpTake (s : State) (f : RxFrame) : State × Option Stripped :=
  match prpTrailer f.bytes with
  | none => (s, some ⟨f.bytes, false, false⟩)
  | some (seq, lan) =>
    let out : Stripped := ⟨f.bytes.take (f.bytes.length - 6), true, false⟩
    if lan ≠ 0xA + pn f.port then ((s.incSat Reg.PRP_WRONG_LAN_CNT).irq Pg.PRP 0, some out)
    else if s.ddSeen (ethSrc f.bytes) seq then ((s.incSat Reg.PRP_DUP_CNT).blockEv Pg.PRP, none)
    else (s.ddAdd (ethSrc f.bytes) seq, some out)

/-- An HSR frame (R361): the own frame is removed; each other is forwarded once and delivered once. `sync` asks for the residence time of a
Sync, a measured time: a free value. -/
def State.hsrTake (s : State) (f : RxFrame) (sync : Bool) : State × Option Stripped :=
  match hsrTag f.bytes with
  | none => (s, some ⟨f.bytes, false, false⟩)
  | some seq =>
    let mac := ethSrc f.bytes
    let mine := decide (ethDst f.bytes = s.stnMac f.port)
    if mac = s.stnMac f.port then (s.incSat Reg.PRP_HSR_OWN_CNT, none)
    else if s.ddSeen mac seq then ((s.incSat Reg.PRP_DUP_CNT).blockEv Pg.PRP, none)
    else
      let s1 := s.ddAdd mac seq
      let s2 :=
        if mine then s1
        else
          let (w, t) := if sync then s1.takeFree else (0, s1)
          let u := (t.stnPut (!f.port) (.forward f.bytes (if sync then some w else none)) (some seq)).incSat Reg.PRP_HSR_FWD_CNT
          if sync then u.incSat Reg.PTP_TC_CNT else u
      (s2, if mine || multicast f.bytes then some ⟨dropHsr f.bytes, false, true⟩ else none)

/-- A received frame up to delivery (R357–R361). -/
def State.stnAccept (s : State) (f : RxFrame) (sync : Bool) : State × Option Stripped :=
  match s.stnFilter f with
  | (s1, false) => (s1, none)
  | (s1, true) =>
    match s.redMode with
    | 1 => s1.prpTake f
    | 2 => s1.hsrTake f sync
    | _ => (s1, some ⟨f.bytes, false, false⟩)

/-! ## Descriptor rings (R362) -/

/-- COUNT of a ring, from its CFG register. -/
def State.ringCount (s : State) (cfg : Nat) : Nat := 2 ^ s.getF cfg 0 4
/-- Descriptors between two indices that count modulo 2 × COUNT. -/
def ringHeld (head tail count : Nat) : Nat := (head + 2 * count - tail % (2 * count)) % (2 * count)

/-- Bytes go to a buffer in Main SRAM; none beyond its end. -/
def State.bufWrite (s : State) (o : Nat) (bs : List Byte) : State := s.setMemBytes (sramBase + o) (bs.take (0x100000 - o))

/-- A timestamp in ns with a signed correction of TS_ASYM (R364): added. -/
def State.tsAdj (s : State) (port : Bool) (tx : Bool) (t : Nat) : Nat :=
  ((t : Int) + signedFld (s.getR (Reg.STNn_TS_ASYM (pn port))) (if tx then 16 else 0) 16).toNat

/-- A frame goes to the receive ring of its interface (R362). -/
def State.stnDeliver (s : State) (f : RxFrame) (x : Stripped) : State :=
  let p := pn (s.ringPort f.port)
  let n := s.ringCount (Reg.STNn_RX_CFG p)
  let head := s.getF (Reg.STNn_RX_HEAD p) 0 11
  if n ≤ ringHeld head (s.getF (Reg.STNn_RX_TAIL p) 0 11) n then (s.incSat (Reg.STNn_RX_DROP_CNT p)).irq (Pg.STNn p) 3
  else
    let d := sramBase + 4 * (s.getF (Reg.STNn_RX_BASE p) 0 18 + 4 * (head % n))
    let size := fld (s.memW (d + 4)) 0 16
    let ts := s.tsAdj f.port false f.ts.toNat
    let flags := pn f.port + 2 * b2n x.trailer + 4 * b2n x.tag + 8 * b2n (decide (size < x.bytes.length)) + 16
    let s1 := s.bufWrite (s.memW d).toNat (x.bytes.take size)
    let s2 := s1.setMemBytes (d + 6) (leBytes 2 x.bytes.length ++ leBytes 4 (ts % 1000000000) ++ leBytes 2 (ts / 1000000000) ++ leBytes 2 flags)
    (s2.setF (Reg.STNn_RX_HEAD p) 0 11 ((head + 1) % (2 * n))).irq (Pg.STNn p) 0

/-- A received frame with what its classifier does: `act` on the frame accepted, and whether it is copied to the host. -/
def State.stnReceive (s : State) (f : RxFrame) (sync : Bool) (copy : State → List Byte → Bool) (act : State → State) : State :=
  if s.stnUp f.port then
    match s.stnAccept f sync with
    | (s1, none) => s1
    | (s1, some x) => act (if copy s1 x.bytes then s1.stnDeliver f x else s1)
  else s

end Sys2Proof.Machine
end

