-- ==== Sys2Proof/Machine/Station.lean ====
section
/-! DEFINITION. The commands of the station ports' links, redundancy and descriptor rings (spec/17_station_ports.md). -/
namespace Sys2Proof.Machine

/-- A PTP message that PTP consumes: Sync, Follow_Up, Pdelay messages and Announce (R363). -/
def ptpConsumed (bs : List Byte) : Bool :=
  decide (ethType bs = 0x88F7) && decide ((bs.getD (14 + tagLen bs) 0).toNat % 16 ∈ [0, 2, 3, 8, 0xA, 0xB])

/-- The host gets a frame of no classifier, and PTP's own with HOST_COPY (R363). -/
def State.hostCopy (s : State) (bs : List Byte) : Bool := twoTags bs || !ptpConsumed bs || s.getB Reg.PTP_CFG 3

/-- STATION_FRAME_RECEIVE (R357–R363): a frame that is no PTP message of R365 and no GOOSE frame with a command of its own. -/
def execStationFrameReceive (f : RxFrame) (s : State) : Host.Outcome State Fault Refusal :=
  done (s.stnReceive f false State.hostCopy id)

/-- STATION_LINK_CHANGE (R357). -/
def execStationLinkChange (port : Bool) (e : StnLink) (s : State) : Host.Outcome State Fault Refusal :=
  let p := pn port
  if !s.stnAwake || !s.getB (Reg.STNn_CFG p) 0 then done s
  else
    let up := s.getB (Reg.STNn_STAT p) 0
    let changed (t : State) : State := (t.irq (Pg.STNn p) 2).blockEv (Pg.STNn p)
    match e with
    | .up => if up then done s else
        done (changed (s.setR (Reg.STNn_STAT p) (w32 (1 + 2 * b2n (s.getB (Reg.STNn_CFG p) 2 || s.getB (Reg.STNn_CFG p) 1) + 8))))
    | .down => if !up then done s else done (changed ((s.setR (Reg.STNn_STAT p) 0).incSat (Reg.STNn_LINK_DOWN_CNT p)))
    | .refused =>
      let s1 := (s.setR (Reg.STNn_STAT p) (w32 (4 + 8))).incSat (Reg.STNn_LINK_DOWN_CNT p)
      done (if up then changed s1 else s1.irq (Pg.STNn p) 2)

/-- A CFG write: with EN = 1 only EN may change (R357); EN = 0 takes the link down. -/
def State.stnCfgOp (s : State) (p : Nat) (data : Word) : State :=
  let old := s.getR (Reg.STNn_CFG p)
  if bit old 0 && decide ((old ^^^ data) &&& 6 ≠ 0) then s.refuse (Pg.STNn p)
  else
    let s1 := s.setR (Reg.STNn_CFG p) (data &&& 7)
    if bit data 0 then s1 else s1.setR (Reg.STNn_STAT p) 0

/-- A register of a port writable only while EN = 0: BASE, and CFG with LOG2 from 4 to 10 (R362). -/
def State.stnRingOp (s : State) (p off : Nat) (data : Word) : State :=
  let cfg := decide (off = 0x5C ∨ off = 0x6C)
  if s.getB (Reg.STNn_CFG p) 0 || (cfg && !decide (4 ≤ fld data 0 4 ∧ fld data 0 4 ≤ 10)) then s.refuse (Pg.STNn p)
  else s.setR (pageBase (Pg.STNn p) + off) (data &&& (if cfg then 0xF else 0x3FFFF))

/-- MAX_LEN (R373). -/
def State.stnMaxLenOp (s : State) (p : Nat) (data : Word) : State :=
  if fld data 0 11 < 1518 ∨ 2000 < fld data 0 11 then s.refuse (Pg.STNn p) else s.setR (Reg.STNn_MAX_LEN p) (data &&& 0x7FF)

/-- PRP.CFG: no MODE 3, and only while both ports have EN = 0 (R359). -/
def State.prpCfgOp (s : State) (data : Word) : State :=
  if fld data 0 2 = 3 ∨ s.getB (Reg.STNn_CFG 0) 0 ∨ s.getB (Reg.STNn_CFG 1) 0 then s.refuse Pg.PRP else s.setR Reg.PRP_CFG (data &&& 3)

/-- A 16-bit register with a range: others refused. -/
def State.rangeOp (s : State) (a lo hi : Nat) (data : Word) : State :=
  if fld data 0 16 < lo ∨ hi < fld data 0 16 then s.refuse (a / 4096) else s.setR a (data &&& 0xFFFF)

/-- A write to TX_HEAD: refused where it would pass TX_TAIL or leave more than COUNT descriptors (R362). -/
def State.txHeadOp (s : State) (p : Nat) (data : Word) : State :=
  let n := s.ringCount (Reg.STNn_TX_CFG p)
  let tail := s.getF (Reg.STNn_TX_TAIL p) 0 11
  let head := s.getF (Reg.STNn_TX_HEAD p) 0 11
  let v := fld data 0 11
  if 2 * n ≤ v ∨ n < ringHeld v tail n ∨ ringHeld v tail n < ringHeld head tail n then s.refuse (Pg.STNn p)
  else s.setR (Reg.STNn_TX_HEAD p) (data &&& 0x7FF)

/-- TX_HEAD_WRITE (R362). -/
def execTxHeadWrite (port : Bool) (data : Word) (s : State) : Host.Outcome State Fault Refusal :=
  hostCmd s (Pg.STNn (pn port)) (fun s => s.txHeadOp (pn port) data)

/-- A write to RX_TAIL: refused where it would pass RX_HEAD (R362). -/
def State.rxTailOp (s : State) (p : Nat) (data : Word) : State :=
  let n := s.ringCount (Reg.STNn_RX_CFG p)
  let head := s.getF (Reg.STNn_RX_HEAD p) 0 11
  let v := fld data 0 11
  if 2 * n ≤ v ∨ ringHeld head (s.getF (Reg.STNn_RX_TAIL p) 0 11) n < ringHeld head v n then s.refuse (Pg.STNn p)
  else s.setR (Reg.STNn_RX_TAIL p) (data &&& 0x7FF)

/-- RX_TAIL_WRITE (R362). -/
def execRxTailWrite (port : Bool) (data : Word) (s : State) : Host.Outcome State Fault Refusal :=
  hostCmd s (Pg.STNn (pn port)) (fun s => s.rxTailOp (pn port) data)

/-- A host frame leaves its ports (R360, R361): the descriptor's choice names both, or one in PRP. -/
def State.hostSend (s : State) (port : Bool) (bs : List Byte) (choice : Nat) : State :=
  match s.redMode with
  | 1 =>
    let (q, s1) := s.takeSeq
    let s2 := if choice = 2 then s1 else s1.stnPut false (.host (addTrailer bs q 0xA)) (some q)
    if choice = 1 then s2 else s2.stnPut true (.host (addTrailer bs q 0xB)) (some q)
  | 2 =>
    let (q, s1) := s.takeSeq
    (s1.stnPut false (.host (addHsr bs q 0)) (some q)).stnPut true (.host (addHsr bs q 1)) (some q)
  | _ => s.stnPut port (.host bs) none

/-- TX_FRAME_DONE (R362): the descriptor at TX_TAIL is served. A frame whose port choice is 3 in PRP, or whose length is outside 60 to
MAX_LEN − 4, is refused and not sent; its descriptor is written back all the same. -/
def execTxFrameDone (port : Bool) (s : State) : Host.Outcome State Fault Refusal :=
  let p := pn port
  let n := s.ringCount (Reg.STNn_TX_CFG p)
  let tail := s.getF (Reg.STNn_TX_TAIL p) 0 11
  let idle := decide (s.redMode ≠ 0) && port
  if idle || !(s.stnUp port || (decide (s.redMode ≠ 0) && s.stnUp true)) || decide (ringHeld (s.getF (Reg.STNn_TX_HEAD p) 0 11) tail n = 0) then
    done s
  else
    let d := sramBase + 4 * (s.getF (Reg.STNn_TX_BASE p) 0 18 + 4 * (tail % n))
    let len := fld (s.memW (d + 4)) 0 16
    let flags := s.memW (d + 0xC)
    let choice := if s.redMode = 1 then fld flags 21 2 else 0
    let bad := decide (choice = 3 ∨ len < 60 ∨ s.getF (Reg.STNn_MAX_LEN p) 0 11 - 4 < len)
    let bs := s.memBytes (sramBase + (s.memW d).toNat % 0x100000) len
    let s1 := if bad then s.refuse (Pg.STNn p) else s.hostSend port bs choice
    let ts := s1.tsAdj port true s1.timeNs
    let s2 := if bit flags 17 && !bad then s1.setMemBytes (d + 8) (leBytes 4 (ts % 1000000000) ++ leBytes 2 (ts / 1000000000)) else s1
    let s3 := s2.setMemBytes (d + 0xE) (leBytes 2 (fld flags 16 16 ||| 16))
    done ((s3.setF (Reg.STNn_TX_TAIL p) 0 11 ((tail + 1) % (2 * n))).irq (Pg.STNn p) 1)

/-- PRP_SUPERVISION_TX (R360). -/
def execPrpSupervisionTx (s : State) : Host.Outcome State Fault Refusal :=
  if s.redMode = 1 ∧ (s.stnUp false ∨ s.stnUp true) then done (s.stnSend .supervision) else done s

/-- DD_ENTRY_EXPIRE (R360): the oldest entry is forgotten DD_TIME after it was made. -/
def execDdEntryExpire (s : State) : Host.Outcome State Fault Refusal :=
  match s.stn.dd with
  | [] => done s
  | e :: rest => done { (s.advanceTo (e.2.2 + s.ddTicks)) with stn.dd := rest }

/-- CLEAR of a port (R373). -/
def State.stnClearOp (s : State) (p : Nat) : State := (List.range 5).foldl (fun s k => s.setR (Reg.STNn_FCS_ERR_CNT p + 4 * k) 0) s
/-- STN_CLEAR (R373). -/
def execStnClear (port : Bool) (s : State) : Host.Outcome State Fault Refusal :=
  hostCmd s (Pg.STNn (pn port)) (fun s => s.stnClearOp (pn port))

/-- PRP.CLEAR (R374). -/
def State.prpClearOp (s : State) : State := (List.range 5).foldl (fun s k => s.setR (Reg.PRP_DUP_CNT + 4 * k) 0) s
/-- PRP_CLEAR (R374). -/
def execPrpClear (s : State) : Host.Outcome State Fault Refusal := hostCmd s Pg.PRP State.prpClearOp

end Sys2Proof.Machine
end

