-- ==== Sys2Proof/Machine/Timebase.lean ====
section
/-! DEFINITION. Root clock, timebase and plant time (spec/04_clocks_timebase.md). The E0 itself is in Epoch.lean. -/
namespace Sys2Proof.Machine

/-! ## Root PLL -/

/-- N.F with the servo correction, as a 24-bit fraction over N: N × 2^24 + F + SERVO_FRAC (R63); N = 128, F = 0 and no servo in
the Cell role (R73). -/
def State.divEff (s : State) : Int :=
  if s.pw.role = .cell then 128 * 2 ^ 24
  else (s.getF Reg.CLK_RPLL_DIV 0 9 : Int) * 2 ^ 24 + s.getF Reg.CLK_RPLL_FRAC 0 24 + signedFld (s.getR Reg.TIME_SERVO_FRAC) 0 25

/-- E = round(512 × (N + F / 2^24)) (R62). -/
def State.winExpect (s : State) : Nat := ((512 * s.divEff + 2 ^ 23) / 2 ^ 24).toNat

/-- Reference in kHz, 25,000 in the Cell role (CLK.REF_KHZ). -/
def State.refKhz (s : State) : Nat := if s.pw.role = .cell then 25000 else s.getF Reg.CLK_REF_KHZ 0 18

/-- Band entry `n` as it stands: the factory value until software overwrites it (R61). -/
def State.bandEntry (s : State) (n : Nat) : Word :=
  if SMap.get false n s.bandWritten then s.getR (Reg.CLK_BAND n) else Config.band n

/-- Does a band entry qualify for the target frequency (R61: VALID and F_LO ≤ target ≤ F_HI, target in MHz exact)? -/
def bandFits (e : Word) (khz : Nat) (eff : Int) : Bool :=
  bit e 31 && decide ((fld e 12 12 : Int) * 1000 * 2 ^ 24 ≤ khz * eff) && decide (khz * eff ≤ (fld e 0 12 : Int) * 1000 * 2 ^ 24)

/-- The lowest-indexed entry of `n` remaining from index `i` that fits (R61). -/
def State.pickBand (s : State) (i : Nat) : Nat → Option Nat
  | 0 => none
  | n + 1 => if bandFits (s.bandEntry i) s.refKhz s.divEff then some i else State.pickBand s (i + 1) n

/-- No band: the PLL stays unlocked (R61, R76). -/
def State.noBand (s : State) : State := (s.setB Reg.CLK_RPLL_STAT 1 true).irq Pg.CLK 2

/-- Band selection: the lowest qualifying entry, or NO_BAND (R61). -/
def State.selectBand (s : State) : State :=
  let s1 := ((s.setB Reg.CLK_RPLL_STAT 0 false).setF Reg.CLK_RPLL_STAT 8 3 0).setB Reg.CLK_RPLL_STAT 1 false
  match s1.pickBand 0 32 with
  | none => s1.noBand
  | some i => { (s1.setF Reg.CLK_RPLL_STAT 2 5 i) with clk.bandCode := fld (s1.bandEntry i) 24 7 }

/-- RPLL_CTRL.RELOCK (R65): in CONFIGURE only; N outside 20–320 or LOCK_PPM ≥ UNLOCK_PPM refuses with NO_BAND (R76); an accepted
relock commits the shadows, stops the period generator and selects a band. -/
def State.relockOp (s : State) : State :=
  if s.pw.mode ≠ .configure then s.refuse Pg.CLK
  else
    let n := fld (s.staged Reg.CLK_RPLL_DIV) 0 9
    let tol := s.getR Reg.CLK_LOCK_TOL
    if n < 20 ∨ 320 < n ∨ fld tol 16 16 ≤ fld tol 0 16 then s.noBand
    else
      let s1 := (s.commitPage Pg.CLK).blockEv Pg.CLK
      let s2 := ((s1.pwmFreeze).adcAbandon 0).adcAbandon 1
      ({ s2 with clk.gen := false, clk.relock := true, clk.halted := false, clk.frozen := false }).selectBand

/-- RELOCK (R65). -/
def execRelock (s : State) : Host.Outcome State Fault Refusal := hostCmd s Pg.CLK State.relockOp

/-- Is the root PLL locked (RPLL_STAT.LOCKED)? -/
def State.pllLocked (s : State) : Bool := s.getB Reg.CLK_RPLL_STAT 0

/-- The root PLL loses lock without a RELOCK (R66). -/
def State.pllUnlock (s : State) : State :=
  let s1 := (((s.setB Reg.CLK_RPLL_STAT 0 false).setF Reg.CLK_RPLL_STAT 8 3 0).irq Pg.CLK 1).incSat Reg.CLK_UNLOCK_CNT
  let s2 := ({ s1 with clk.frozen := true }).setB Reg.TIME_SERVO_STAT 8 true
  let s3 := s2.logE 2 (some 1) Pg.CLK 0 [(2, (s2.getR Reg.CLK_RPLL_STAT).toNat), (4, (s2.getR Reg.CLK_UNLOCK_CNT).toNat)]
  if s.pw.mode = .armed ∨ s.pw.mode = .run then s3.enterSafe SafeCause.rpllUnlock else s3

/-- Tolerance in counts: max(1, floor(E × ppm / 10^6)) (R62). -/
def ppmTol (e ppm : Nat) : Nat := max 1 (e * ppm / 1000000)

/-- A lock window with count `c` ends (R62). -/
def State.windowEnd (s : State) (c : Nat) : State :=
  let e := s.winExpect
  let tol := s.getR Reg.CLK_LOCK_TOL
  let d := ((c : Int) - e).natAbs
  let s1 := ((s.setR Reg.CLK_WIN_COUNT (w32 c)).setR Reg.CLK_WIN_EXPECT (w32 e)).setB Reg.CLK_RPLL_STAT 12 false
  if d ≤ ppmTol e (fld tol 0 16) then
    let g := min 4 (s1.getF Reg.CLK_RPLL_STAT 8 3 + 1)
    let s2 := s1.setF Reg.CLK_RPLL_STAT 8 3 g
    if g = 4 && !s2.pllLocked then ({ (s2.setB Reg.CLK_RPLL_STAT 0 true) with clk.frozen := false }).irq Pg.CLK 0 else s2
  else if ppmTol e (fld tol 16 16) < d then
    if s1.pllLocked then s1.pllUnlock else s1.setF Reg.CLK_RPLL_STAT 8 3 0
  else s1

/-- LOCK_WINDOW_END (R62): `count` CK_EDGE cycles were counted. With no band selected no window runs. -/
def execLockWindowEnd (count : BitVec 20) (s : State) : Host.Outcome State Fault Refusal :=
  if !s.awake || !s.pw.bootDone || s.getB Reg.CLK_RPLL_STAT 1 then done s else done (s.windowEnd count.toNat)

/-- REFERENCE_LOST (R62): no reference edge for 2 µs. -/
def execReferenceLost (s : State) : Host.Outcome State Fault Refusal :=
  if !s.awake then done s
  else
    let s1 := (s.setB Reg.CLK_RPLL_STAT 12 true).setF Reg.CLK_RPLL_STAT 8 3 0
    if s.pllLocked then done s1.pllUnlock else done s1

/-- A write to CLK.DITHER: stored, and SEED (0 as 1) goes to the LFSR at the following reference edge (R63). -/
def State.ditherOp (s : State) (data : Word) : State :=
  let seed := fld data 0 23
  { (s.setR Reg.CLK_DITHER (data &&& 0x807FFFFF)) with clk.lfsr := BitVec.ofNat 23 (if seed = 0 then 1 else seed) }

/-- DITHER_WRITE (R63). -/
def execDitherWrite (data : Word) (s : State) : Host.Outcome State Fault Refusal := hostCmd s Pg.CLK (fun s => s.ditherOp data)

/-! ## The servo -/

/-- SERVO_CFG.SRC in force: ignored in the Cell role, 3 acts as 0 (TIME.SERVO_CFG). -/
def State.servoSrc (s : State) : Nat :=
  if s.pw.role = .cell then 0 else let v := s.getF Reg.TIME_SERVO_CFG 0 2; if v = 3 then 0 else v

/-- A quotient by 256 of a Q8.8 product (R69): exact where it is whole, and otherwise one of its two neighbours, the choice a free
value because the rule does not state the rounding. -/
def State.q8 (s : State) (n : Int) : Int × State :=
  if n % 256 = 0 then (n / 256, s)
  else let (w, s1) := s.takeFree; (n / 256 + (if bit w 0 then 1 else 0), s1)

/-- Enter or keep the servo state after a sample: in band counts toward LOCKED, out of band returns to ACQUIRE (R69). -/
def State.servoJudge (s : State) (th : Int) : State :=
  let cfg := s.getR Reg.TIME_SERVO_LOCK
  let st := s.getF Reg.TIME_SERVO_STAT 0 2
  if th.natAbs ≤ fld cfg 0 16 then
    let run := s.clk.servoRun + 1
    let s1 := { s with clk.servoRun := run }
    if st ≠ 2 ∧ max 1 (fld cfg 16 8) ≤ run then ((s1.setF Reg.TIME_SERVO_STAT 0 2 2).setB Reg.TIME_SERVO_STAT 8 false).irq Pg.TIME 1
    else if st = 2 then s1 else s1.setF Reg.TIME_SERVO_STAT 0 2 1
  else ({ s with clk.servoRun := 0 }).setF Reg.TIME_SERVO_STAT 0 2 1

/-- One offset sample θ, in ns, positive when local time is ahead (R69, R70). -/
def State.servoSample (s : State) (th : Int) : State :=
  if !s.pllLocked then s.setF Reg.TIME_SERVO_STAT 16 16 (satInc 16 (s.getF Reg.TIME_SERVO_STAT 16 16))
  else
    let s1 := (({ s with clk.servoLast := some s.clk.tick }).incMod Reg.TIME_SERVO_SAMPLES).setR Reg.TIME_SERVO_OFFSET (wInt th)
    if (s.getR Reg.TIME_SERVO_STEP).toNat < th.natAbs then
      let s2 := ((s1.shiftPlant (-th)).blockEv Pg.TIME).irqLog 1 3 Pg.TIME 0 [(8, ((-th) % (2 ^ 64 : Int)).toNat)]
      s2.servoJudge th
    else
      let g := s.getR Reg.TIME_SERVO_GAIN
      let lim : Int := s.getF Reg.TIME_SERVO_LIM 0 24
      let (ki, s2) := s1.q8 (fld g 16 16 * th)
      let integ := clampI (-lim) lim (signedFld (s.getR Reg.TIME_SERVO_INTEG) 0 25 + ki)
      let (kp, s3) := s2.q8 (fld g 0 16 * th)
      let s4 := s3.setR Reg.TIME_SERVO_INTEG (w32 (integ % 2 ^ 25).toNat)
      (s4.setR Reg.TIME_SERVO_FRAC (w32 (clampI (-lim) lim (-(kp + integ)) % 2 ^ 25).toNat)).servoJudge th

/-- SERVO_HOLDOVER (R69): 3 s without a sample, while a source is selected. -/
def execServoHoldover (s : State) : Host.Outcome State Fault Refusal :=
  if !s.awake || s.servoSrc = 0 || s.getF Reg.TIME_SERVO_STAT 0 2 = 3 then done s
  else
    let s1 := s.advanceTo (s.clk.servoLast.getD s.clk.tick + 3 * tickS)
    done (({ s1 with clk.servoRun := 0 }).setF Reg.TIME_SERVO_STAT 0 2 3 |>.irq Pg.TIME 2)

/-- A host write to SERVO_FRAC: only with SRC = 0 (R70). -/
def State.servoFracOp (s : State) (data : Word) : State :=
  if s.servoSrc = 0 then s.setR Reg.TIME_SERVO_FRAC (data &&& 0x1FFFFFF) else s.refuse Pg.TIME

/-- SERVO_FRAC_WRITE (R70). -/
def execServoFracWrite (data : Word) (s : State) : Host.Outcome State Fault Refusal := hostCmd s Pg.TIME (fun s => s.servoFracOp data)

/-- A write to SERVO_CFG.SRC: a change keeps SERVO_FRAC and resets the integrator to its negation (R70); the state returns to
FREE or ACQUIRE (R69). -/
def State.servoSrcOp (s : State) (src : Nat) : State :=
  if s.getF Reg.TIME_SERVO_CFG 0 2 = src then s
  else
    let f := signedFld (s.getR Reg.TIME_SERVO_FRAC) 0 25
    let s1 := (s.setF Reg.TIME_SERVO_CFG 0 2 src).setR Reg.TIME_SERVO_INTEG (w32 ((-f) % 2 ^ 25).toNat)
    let s2 := { s1 with clk.servoRun := 0, clk.servoLast := some s.clk.tick }
    s2.setF Reg.TIME_SERVO_STAT 0 2 (if s2.servoSrc = 0 then 0 else 1)

/-- SERVO_SRC_CHANGE (R70). -/
def execServoSrcChange (src : BitVec 2) (s : State) : Host.Outcome State Fault Refusal :=
  hostCmd s Pg.TIME (fun s => s.servoSrcOp src.toNat)

/-! ## Plant time -/

/-- Log a change of plant time by the host: its signed size in ns (R70, R438); it counts as a block event (R77). -/
def State.logTimeChange (s : State) (d : Int) : State :=
  (s.blockEv Pg.TIME).logE 1 none Pg.TIME 0 [(8, (d % (2 ^ 64 : Int)).toNat)]

/-- Load SET_SEC and SET_NS into plant time (R70). -/
def State.loadSet (s : State) : State :=
  let target := s.getF Reg.TIME_SET_SEC_HI 0 16 * 2 ^ 32 + (s.getR Reg.TIME_SET_SEC_LO).toNat
  let t8 := (target * 1000000000 + (s.getR Reg.TIME_SET_NS).toNat) * 8
  let d : Int := (t8 : Int) / 8 - (s.clk.plant8 / 8 : Nat)
  ({ s with clk.plant8 := (t8 + s.clk.plant8 % 8) % plantMod }).logTimeChange d

/-- Add the signed ADJ_NS to plant time (R70). -/
def State.addAdj (s : State) : State :=
  let d := (s.getR Reg.TIME_ADJ_NS).toInt
  (s.shiftPlant d).logTimeChange d

/-- A write to SET_CMD: refused in full when SET finds SET_NS above 999,999,999; otherwise SET then ADJ at the next edge tick (R70,
R77). -/
def State.setCmdOp (s : State) (set adj : Bool) : State :=
  if set && decide (999999999 < (s.getR Reg.TIME_SET_NS).toNat) then s.refuse Pg.TIME
  else if !set && !adj then s
  else
    let s1 := s.elapse 1
    let s2 := if set then s1.loadSet else s1
    if adj then s2.addAdj else s2

/-- TIME_SET (R70). -/
def execTimeSet (s : State) : Host.Outcome State Fault Refusal := hostCmd s Pg.TIME (fun s => s.setCmdOp true false)

/-- TIME_ADJUST (R70). -/
def execTimeAdjust (s : State) : Host.Outcome State Fault Refusal := hostCmd s Pg.TIME (fun s => s.setCmdOp false true)

/-- PPS_IN_EDGE (R71, R69): timestamped; within 0.5 s of the last one it is ignored and counted; with SRC = 2 it gives the sample
θ = NS, taken as negative above 500,000,000. -/
def execPpsInEdge (s : State) : Host.Outcome State Fault Refusal :=
  if !s.awake then done s
  else if s.clk.ppsLast.any (fun t => decide (s.clk.tick < t + tickS / 2)) then done { s with clk.ppsIgnored := s.clk.ppsIgnored + 1 }
  else
    let ns := s.ns
    let s1 := ({ s with clk.ppsLast := some s.clk.tick }).setR Reg.TIME_PPS_IN_NS (w32 ns)
    if s.servoSrc = 2 then done (s1.servoSample (if 500000000 < ns then (ns : Int) - 1000000000 else ns)) else done s1

/-- PPS_OUT_PULSE (R71): on the edge tick on which NS passes 0, while OUT_EN = 1. -/
def execPpsOutPulse (s : State) : Host.Outcome State Fault Refusal :=
  if !s.awake || !s.getB Reg.TIME_PPS_CFG 16 then done s
  else
    let left := (8000000000 - s.clk.plant8 % 8000000000) % 8000000000
    let s1 := s.elapse ((left + 4) / 5)
    let w := s.getF Reg.TIME_PPS_CFG 0 9
    let ms := if w = 0 then 1 else min w 500
    done { s1 with clk.ppsHigh := some (s1.clk.tick + ms * tickMs) }

/-- PPS_OUT_END (R71). -/
def execPpsOutEnd (s : State) : Host.Outcome State Fault Refusal :=
  match s.clk.ppsHigh with
  | none => done s
  | some t => done { (s.advanceTo t) with clk.ppsHigh := none }

/-- At the next whole second the period in progress is lengthened, never shortened, so that the next E0 falls on an instant with
NS = EPOCH_OFFSET × 0.625 ns modulo the period (R72). -/
def State.alignE0 (s : State) : State :=
  let s1 := s.elapse (((8000000000 - s.clk.plant8 % 8000000000) % 8000000000 + 4) / 5)
  let p := max 1 s1.period
  let first := s1.clk.tick + s1.getF Reg.TIME_EPOCH_OFFSET 0 24
  let natural := s1.clk.e0 + p
  { s1 with clk.e0Plan := some (first + (natural - first + p - 1) / p * p), clk.aligning := true }

/-- EPOCH_ALIGN (R72): with ALIGN = 1 in CONFIGURE and the servo LOCKED, the period in progress is lengthened so that the next E0
falls on the aligned instant at or after the next whole second. -/
def execEpochAlign (s : State) : Host.Outcome State Fault Refusal :=
  if !s.awake || !s.getB Reg.TIME_EPOCH_CTRL 0 || decide (s.pw.mode ≠ .configure) ||
      decide (s.getF Reg.TIME_SERVO_STAT 0 2 ≠ 2) || !s.clk.gen || s.getB Reg.TIME_EPOCH_CTRL 16 then done s
  else done s.alignE0

/-! ## The time lane of a Cell -/

/-- Take a port as the one that faces the Wellhead (R73). -/
def State.takePort (s : State) (port : Bool) : State :=
  ({ s with clk.tlPort := some port, clk.tlTaken := s.clk.tick, clk.tlLast := some s.clk.tick, clk.tlSpacing := none,
            clk.tlMisses := 0 }).setB Reg.TIME_CELL_TL 0 port

/-- Search: two consecutive marks on a port take it; port 0 wins over a port 1 taken within the same 10 ms (R73). -/
def State.markSearch (s : State) (port : Bool) : State :=
  let n := (if port then s.clk.tlMarks1 else s.clk.tlMarks0) + 1
  let s1 := if port then { s with clk.tlMarks1 := n } else { s with clk.tlMarks0 := n }
  let free := s.clk.tlPort.isNone
  let override := !port && decide (s.clk.tlPort = some true) && decide (s.clk.tick ≤ s.clk.tlTaken + 10 * tickMs)
  if (free || override) && decide (2 ≤ n) then s1.takePort port else s1

/-- TIMELANE_LOST for a cell in ARMED or RUN (R74). -/
def State.tlLost (s : State) : State :=
  if s.pw.mode = .armed ∨ s.pw.mode = .run then
    ((s.cellFault 0x83).logE 3 (some 5) Pg.TIME 0 []).enterSafe SafeCause.timelaneLost else s

/-- A mark on the port in use: the period is learned from two spacings that agree within ±1 edge tick; a mark within ±2 edge ticks
of the expected instant re-phases E0; a mark further out is an epoch slip (R73, R74). -/
def State.markOnPort (s : State) : State :=
  let now := s.clk.tick
  let s0 := { s with clk.tlLast := some now, clk.tlMisses := 0 }
  match s.clk.tlLast with
  | none => s0
  | some last =>
    let sp := now - last
    let learned := s.getF Reg.TIME_CELL_LEARNED 0 24
    let slip := decide (learned ≠ 0) && decide (2 < ((sp : Int) - learned).natAbs)
    let agree := s.clk.tlSpacing.any (fun q => decide (((sp : Int) - q).natAbs ≤ 1))
    let s1 := { s0 with clk.tlSpacing := some sp }
    if slip then
      let s2 := (s1.setF Reg.TIME_CELL_TL 16 8 (satInc 8 (s1.getF Reg.TIME_CELL_TL 16 8))).setR Reg.TIME_CELL_LEARNED 0
      s2.tlLost
    else
      let s2 := if agree then (s1.setR Reg.TIME_CELL_LEARNED (w32 sp)).setR Reg.TIME_PERIOD (w32 (sp % 2 ^ 24)) else s1
      { s2 with clk.e0Plan := some (now + (s2.e0Delay / 256)) }

/-- The spacing of marks a receiver expects: PERIOD on a Wellhead, the learned period in a Cell (R238). -/
def State.markPeriod (s : State) : Nat := if s.pw.role = .cell then s.getF Reg.TIME_CELL_LEARNED 0 24 else s.period

/-- A peer Wellhead at the B end of ring `n` servoes the marks it sends by those it receives, and reports the correction (R264). The spec
states no law for it: the correction is a free value. -/
def State.tailTrim (s : State) (n : Nat) : State :=
  if s.ringIn n && (decide (s.pw.role = .standby ∧ s.stb.active = false) || (s.ring n).peer) then
    let (w, s1) := s.takeFree
    s1.setR (Reg.RINGn_TAIL_TRIM n) w
  else s

/-- EPOCH_MARK (R73, R238): a mark on the time-lane receiver of a ring port, `frac` sixty-fourths of a UI after the present edge tick. At
a peer Wellhead it moves TAIL_TRIM (R264). -/
def execEpochMark (port : Fin 8) (frac : Fin 256) (s : State) : Host.Outcome State Fault Refusal :=
  let lane := 2 * port.val + 1
  if !s.laneUsed lane || decide (s.laneMode lane ≠ 1) then done s
  else
    let s1 := s.laneMark lane s.markPeriod frac
    let b := decide (port.val = 1)
    if s.pw.role ≠ .cell then done (s1.tailTrim port)
    else if s1.clk.tlPort = some b then done s1.markOnPort
    else done (s1.markSearch b)

/-- MARK_MISS (R74, R238): no mark within 2 edge ticks of the expected instant. A Cell generates E0 from its own count and counts the
miss; two in a row on its timing port in ARMED or RUN are TIMELANE_LOST, unless the other port's marks take over (R268). -/
def execMarkMiss (port : Fin 8) (s : State) : Host.Outcome State Fault Refusal :=
  let lane := 2 * port.val + 1
  if !s.laneUsed lane || decide (s.laneMode lane ≠ 1) then done s
  else
    let s1 := s.laneMarkMiss lane s.markPeriod
    let b := decide (port.val = 1)
    if s.pw.role ≠ .cell || s.clk.tlPort != some b then done s1
    else
      let p := s.getF Reg.TIME_CELL_LEARNED 0 24
      let s2 := (s1.setF Reg.TIME_CELL_TL 8 8 (satInc 8 (s.getF Reg.TIME_CELL_TL 8 8))).irq Pg.TIME 5
      let s3 := { s2 with clk.tlMisses := s.clk.tlMisses + 1, clk.tlLast := s.clk.tlLast.map (· + p), clk.e0Plan := none }
      let other := s3.lane (if b then 1 else 3)
      if decide (2 ≤ other.marksOk) && s3.cellTrained then done (s3.swapSides (!b))
      else if 2 ≤ s3.clk.tlMisses then done s3.tlLost else done s3

/-- TIMELANE_SEARCH (R73): the pattern is absent from the port in use for 10 ms, so both ports are searched again. -/
def execTimelaneSearch (s : State) : Host.Outcome State Fault Refusal :=
  if !s.awake || decide (s.pw.role ≠ .cell) then done s
  else done { s with clk.tlPort := none, clk.tlMarks0 := 0, clk.tlMarks1 := 0, clk.tlLast := none, clk.tlSpacing := none }

end Sys2Proof.Machine
end

