-- ==== Sys2Proof/Machine/Goose.lean ====
section
/-! DEFINITION. GOOSE subscriptions and publishers, and sampled values (R366–R370). -/
namespace Sys2Proof.Machine

/-! ## Subscriptions -/

/-- `s` with a subscription slot replaced. -/
def State.setSub (s : State) (k : Nat) (e : SubSlot) : State := { s with subs := SMap.set (freeSub 0) k e s.subs }

/-- The registers of slot `k` take their reset values. -/
def State.subRegsReset (s : State) (k : Nat) : State :=
  let lo := Reg.GOOSE_SUB_CFG k
  { s with regs := s.regs.filter (fun e => !(decide (lo ≤ e.1) && decide (e.1 < lo + 0x20))) }

/-- An entry takes part: allocated and EN = 1 (R366). -/
def State.subActive (s : State) (k : Nat) : Bool := (s.sub k).alloc && s.getB (Reg.GOOSE_SUB_CFG k) 0

/-- The OR of the values of the active entries that a bit of CFG maps to a destination bit (R367). -/
def State.gooseOr (s : State) (en lo len bit_ : Nat) : Bool :=
  (List.range 64).any (fun k => s.subActive k && s.getB (Reg.GOOSE_SUB_CFG k) en &&
    (decide (len = 0) || decide (s.getF (Reg.GOOSE_SUB_CFG k) lo len = bit_)) && (s.sub k).value)

/-- The destinations are driven: GOOSE_IN to the Guard, the transfer-trip input, CTRL_IN (R367). -/
def State.gooseDrive (s : State) : State :=
  let sum (n : Nat) (f : Nat → Bool) : Nat := (List.range n).foldl (fun a i => a + 2 ^ i * b2n (f i)) 0
  let gin := sum 8 (s.gooseOr 5 6 3)
  ((((s.setR Reg.GOOSE_GIN (w32 gin)).setF Reg.GRD_GOOSE_IN 0 8 gin).setR Reg.GOOSE_TT_IN (w32 (b2n (s.gooseOr 9 0 0 0)))).setR
    Reg.GOOSE_CTRL_IN (w32 (sum 32 (s.gooseOr 10 11 5)))).guardReqs

/-- CTRL_IN goes to Main SRAM at E0 with CIN_EN (R367). -/
def State.gooseE0 (s : State) : State :=
  if s.stnAwake && s.getB Reg.GOOSE_CFG 1 then s.setSramW (s.getF Reg.GOOSE_CIN_BASE 0 18) (s.getR Reg.GOOSE_CTRL_IN) else s

/-- The fail value of entry `k` (R367). -/
def State.failValue (s : State) (k : Nat) : Bool :=
  match s.getF (Reg.GOOSE_SUB_CFG k) 3 2 with
  | 0 => false
  | 1 => true
  | _ => (s.sub k).value

/-- An entry takes a value; a change sets SUB_CHANGE. -/
def State.subValue (s : State) (k : Nat) (v : Bool) : State :=
  (s.setSub k { s.sub k with value := v }).irqIf (decide (v ≠ (s.sub k).value)) Pg.GOOSE 0

/-- SUB_CMD CREATE (R366, with the slot rules of R118). -/
def State.subCreateOp (s : State) (slot : Option Nat) : State :=
  match pickSlot (fun k => !(s.sub k).alloc) 64 slot with
  | none => (s.setR Reg.GOOSE_NEW_HANDLE 0).refuse Pg.GOOSE
  | some k =>
    let h := mkHandle 5 (s.sub k).gen k
    (((s.subRegsReset k).setSub k { freeSub (s.sub k).gen with alloc := true }).setR Reg.GOOSE_NEW_HANDLE h).setR Reg.GOOSE_SUB_SEL h

/-- SUB_CREATE (R366). -/
def execSubCreate (slot : Option (Fin 64)) (s : State) : Host.Outcome State Fault Refusal :=
  hostCmd s Pg.GOOSE (fun s => s.subCreateOp (slot.map (·.val)))

/-- SUB_CMD DESTROY: under the slot rules of R118, in CONFIGURE, ARMED and SAFE; the generation increments (R40). -/
def State.subDestroyOp (s : State) : State :=
  s.through Reg.GOOSE_SUB_SEL 5 Reg.GOOSE_SUB_CMD (fun s k =>
    if s.notRunModes then ((s.subRegsReset k).setSub k (freeSub (((s.sub k).gen + 1) % 256))).gooseDrive else s.refuse Pg.GOOSE)

/-- SUB_DESTROY (R366). -/
def execSubDestroy (s : State) : Host.Outcome State Fault Refusal := hostCmd s Pg.GOOSE State.subDestroyOp

/-- A write to the SUB block: refused for a FREE slot and for FAIL = 3 (R376). -/
def State.subRegOp (s : State) (k off : Nat) (v : Word) : State :=
  if !(s.sub k).alloc || (decide (off = 0) && decide (fld v 3 2 = 3)) then s.refuse Pg.GOOSE
  else (s.setR (Reg.GOOSE_SUB_CFG k + off) v).gooseDrive

/-- Entry `k` matches a frame (R366). -/
def State.subMatches (s : State) (k : Nat) (g : GooseIn) : Bool :=
  let hash := s.getR (Reg.GOOSE_SUB_GOCB_HASH k)
  let rev := s.getR (Reg.GOOSE_SUB_CONF_REV k)
  s.getB Reg.GOOSE_CFG 0 && s.subActive k && decide (s.getF (Reg.GOOSE_SUB_APPID k) 0 16 = g.appid.toNat) &&
    (decide (hash = 0) || decide (hash = crc32 g.gocbRef)) && (decide (rev = 0) || decide (rev = g.confRev)) &&
    (!g.sim || s.getB (Reg.GOOSE_SUB_CFG k) 1)

/-- The value an entry takes from a dataset: none for a type error; a BIT beyond the string has no stated value: a free value (R366). -/
def State.itemValue (s : State) (k : Nat) (g : GooseIn) : Option Bool × State :=
  match g.data[s.getF (Reg.GOOSE_SUB_CFG k) 16 6]? with
  | some (.boolean v) => (some v, s)
  | some (.bits l) =>
    match l[s.getF (Reg.GOOSE_SUB_CFG k) 22 5]? with
    | some v => (some v, s)
    | none => let (w, s1) := s.takeFree; (some (bit w 0), s1)
  | some .other | none => (none, s)

/-- A frame at a matching entry: accepted, or dropped by its numbers (R366, R367). -/
def State.subTake (s : State) (k : Nat) (g : GooseIn) : State :=
  let e := s.sub k
  if e.seen && decide (g.stNum = e.stNum) && decide (g.sqNum.toNat ≤ e.sqNum.toNat) then s.incSat Reg.GOOSE_SEQ_DROP_CNT
  else
    let tal := min g.tal.toNat (s.getF Reg.GOOSE_TAL_MAX 0 16)
    let s1 := ((s.setSub k { e with seen := true, stNum := g.stNum, sqNum := g.sqNum, stale := false,
                                    expire := some (s.clk.tick + tal * tickMs) }).incSat Reg.GOOSE_RX_OK_CNT).blockEv Pg.GOOSE
    let (v, s2) := s1.itemValue k g
    match v with
    | some v => (s2.subValue k v).setSub k { (s2.subValue k v).sub k with typeErr := false }
    | none =>
      let s3 := (s2.incSat Reg.GOOSE_TYPE_ERR_CNT).subValue k (s2.failValue k)
      s3.setSub k { s3.sub k with typeErr := true }

/-- GOOSE_RECEIVE (R363, R366): the frame reaches the host when no entry matches it, or one that does has COPY = 1. -/
def execGooseReceive (f : RxFrame) (g : GooseIn) (s : State) : Host.Outcome State Fault Refusal :=
  done (s.stnReceive f false
    (fun s _ => !(List.range 64).any (fun k => s.subMatches k g) ||
      (List.range 64).any (fun k => s.subMatches k g && s.getB (Reg.GOOSE_SUB_CFG k) 2))
    (fun s => ((List.range 64).foldl (fun s k => if s.subMatches k g then s.subTake k g else s) s).gooseDrive))

/-- GOOSE_STALE (R367): the supervision timer of an entry expires. -/
def execGooseStale (slot : Fin 64) (s : State) : Host.Outcome State Fault Refusal :=
  let e := s.sub slot
  match e.expire with
  | none => done s
  | some t =>
    if s.stnAwake && s.subActive slot then
      let s1 := (s.advanceTo t).subValue slot (s.failValue slot)
      let s2 := (s1.setSub slot { s1.sub slot with stale := true, expire := none }).incSat Reg.GOOSE_STALE_CNT
      done ((s2.irqLog 1 1 Pg.GOOSE (mkHandle 5 e.gen slot) []).gooseDrive)
    else done s

/-- SUB STAT (R376). -/
def State.subStat (s : State) (k : Nat) : Word :=
  let e := s.sub k
  w32 (b2n e.value + 2 * b2n e.stale + 4 * b2n e.typeErr + 8 * b2n e.seen + 2 ^ 8 * (e.gen % 256))
/-- SUB TAL_LEFT: ms left of the supervision timer. -/
def State.subTalLeft (s : State) (k : Nat) : Word := w32 ((((s.sub k).expire.getD 0) - s.clk.tick) / tickMs)
/-- STALE_LO and STALE_HI. -/
def State.staleBits (s : State) (lo : Nat) : Word := w32 ((List.range 32).foldl (fun a i => a + 2 ^ i * b2n (s.sub (lo + i)).stale) 0)

/-! ## Publishers (R368) -/

/-- A publisher at rest. -/
def pub0 : PubState := { active := false, tmpl := [], stNum := 0, sqNum := 0, data := 0, t := 0, interval := 0, due := 0 }
/-- Publisher `p`. -/
def State.pub (s : State) (p : Nat) : PubState := SMap.get pub0 p s.pubs
/-- `s` with a publisher replaced. -/
def State.setPub (s : State) (p : Nat) (e : PubState) : State := { s with pubs := SMap.set pub0 p e s.pubs }

/-- Publishers and SV hold: a standby before takeover (R370). -/
def State.pubHeld (s : State) : Bool := decide (s.pw.role = .standby) && !s.stb.active

/-- The bits publisher `p` sends now. -/
def State.pubBits (s : State) (p : Nat) : Nat :=
  let n := s.getF (Reg.GOOSE_PUB_CFG p) 8 5 + 1
  let src := match s.getF (Reg.GOOSE_PUB_CFG p) 3 2 with
    | 0 => s.getR (Reg.GOOSE_PUB_DATA p)
    | 1 => s.sramW (s.getF (Reg.PUMP_RES_BASE 7) 0 18 + s.getF (Reg.GOOSE_PUB_SRC_OW p) 0 16)
    | 2 => s.getR Reg.GRD_TRIP_LATCH
    | _ => w32 (b2n (decide (s.pw.mode = Mode.run)) + 2 * b2n (decide (s.pw.mode = Mode.safe)) + 4 * (s.sumpW 6).toNat % 32 +
        32 * b2n s.isld.req + 64 * b2n (decide (s.sync.st = 2)))
  src.toNat % 2 ^ n

/-- One transmission of publisher `p`: timeAllowedtoLive is twice the interval to the next (R368). -/
def State.pubSend (s : State) (p : Nat) : State :=
  let e := s.pub p
  let s1 := s.stnSend (.goose p e.tmpl e.stNum e.sqNum (2 * e.interval) e.t e.data (s.getF (Reg.GOOSE_PUB_CFG p) 8 5 + 1)
    (s.getB (Reg.GOOSE_PUB_CFG p) 1) (s.getB Reg.PTP_STAT 3) (s.getB Reg.TIME_SERVO_STAT 8))
  (s1.incMod (Reg.GOOSE_PUB_TX_CNT p)).setPub p { e with due := s.clk.tick + e.interval * tickMs }

/-- A new state of publisher `p`: stNum `st`, sqNum 0, sent at once. -/
def State.pubNew (s : State) (p : Nat) (st : Word) : State :=
  let t : Int := (s.timeNs : Int) - signedFld (s.getR Reg.PTP_UTC_OFFSET) 0 16 * 1000000000
  (s.setPub p { s.pub p with stNum := st, sqNum := 0, data := s.pubBits p, t := t,
                             interval := s.getF (Reg.GOOSE_PUB_MIN_T p) 0 16 }).pubSend p

/-- A publisher starts: the template is read and stNum is 1 (R368). -/
def State.pubStart (s : State) (p : Nat) : State :=
  let b := s.getF (Reg.GOOSE_PUB_TMPL_BASE p) 0 18
  (s.setPub p { pub0 with active := true, tmpl := s.memBytes (sramBase + 4 * b) 0xD0 }).pubNew p 1

/-- Publisher `p` should run: enabled, GOOSE enabled, not held. -/
def State.pubWanted (s : State) (p : Nat) : Bool :=
  s.stnAwake && s.getB Reg.GOOSE_CFG 0 && s.getB (Reg.GOOSE_PUB_CFG p) 0 && !s.pubHeld

/-- Publishers start and stop with their enables and with the takeover (R368, R370). -/
def State.pubsFollow (s : State) : State :=
  (List.range 8).foldl (fun s p =>
    if s.pubWanted p then (if (s.pub p).active then s else s.pubStart p)
    else if (s.pub p).active then s.setPub p { s.pub p with active := false } else s) s

/-- A number one higher that wraps to 1 (R368). -/
def wrapTo1 (w : Word) : Word := if w = 0xFFFFFFFF then 1 else w + 1

/-- GOOSE_PUBLISH (R368): the published bits have changed. -/
def execGoosePublish (pub : Fin 8) (s : State) : Host.Outcome State Fault Refusal :=
  if s.pubWanted pub && (s.pub pub).active && decide (s.pubBits pub ≠ (s.pub pub).data) then
    done (s.pubNew pub (wrapTo1 (s.pub pub).stNum))
  else done s

/-- GOOSE_RETRANSMIT (R368): the interval has passed; the next is twice as long, at most MAX_T. -/
def execGooseRetransmit (pub : Fin 8) (s : State) : Host.Outcome State Fault Refusal :=
  if s.pubWanted pub && (s.pub pub).active then
    let s1 := s.advanceTo (s.pub pub).due
    let e := s1.pub pub
    done ((s1.setPub pub { e with sqNum := wrapTo1 e.sqNum,
                                  interval := min (2 * e.interval) (s.getF (Reg.GOOSE_PUB_MAX_T pub) 0 16) }).pubSend pub)
  else done s

/-- A write to the PUB block (R368, R376): MIN_T 1 to 1,000 and MAX_T 100 to 60,000, never MIN_T above MAX_T. -/
def State.pubRegOp (s : State) (p off : Nat) (v : Word) : State :=
  let lo := if off = 8 then fld v 0 16 else s.getF (Reg.GOOSE_PUB_MIN_T p) 0 16
  let hi := if off = 0xC then fld v 0 16 else s.getF (Reg.GOOSE_PUB_MAX_T p) 0 16
  if (off = 8 ∧ ¬ (1 ≤ lo ∧ lo ≤ 1000)) ∨ (off = 0xC ∧ ¬ (100 ≤ hi ∧ hi ≤ 60000)) ∨ hi < lo then s.refuse Pg.GOOSE
  else (s.setR (Reg.GOOSE_PUB_CFG p + off) v).pubsFollow

/-- PUB STAT (R376). -/
def State.pubStat (s : State) (p : Nat) : Word :=
  w32 (b2n (s.pub p).active + 2 * b2n (s.getB (Reg.GOOSE_PUB_CFG p) 0 && s.pubHeld))

/-- A GOOSE.CFG write. -/
def State.gooseCfgOp (s : State) (v : Word) : State := (s.setR Reg.GOOSE_CFG v).pubsFollow

/-- GOOSE.CLEAR (R376). -/
def State.gooseClearOp (s : State) : State := (List.range 4).foldl (fun s k => s.setR (Reg.GOOSE_RX_OK_CNT + 4 * k) 0) s
/-- GOOSE_CLEAR (R376). -/
def execGooseClear (s : State) : Host.Outcome State Fault Refusal := hostCmd s Pg.GOOSE State.gooseClearOp

/-! ## Sampled values (R369) -/

/-- The device publishes SV: EN, MET0 computing, not held. -/
def State.svOn (s : State) : Bool := s.stnAwake && s.getB Reg.SV_CFG 0 && s.metOn 0 && !s.pubHeld

/-- smpSynch: 2 while the servo is LOCKED to PTP. -/
def State.svSynch (s : State) : Nat := if s.servoSrc = 1 ∧ s.getF Reg.TIME_SERVO_STAT 0 2 = 2 then 2 else 0

/-- SV.STAT (R377). -/
def State.svStat (s : State) : Word := w32 (b2n s.svOn + 2 * b2n (s.getB Reg.SV_CFG 0 && s.pubHeld) + 4 * s.getF Reg.SV_STAT 2 2)

/-- The balls of value `k` of an ASDU (IA, IB, IC, IN, UA, UB, UC, UN) are stuck (R298, R302). -/
def State.svStuck (s : State) (k : Nat) : Bool :=
  let c := if 4 ≤ k then k - 4 else if s.layout1 then 4 + k else if s.inLow 0 k then 5 + 2 * k else 4 + 2 * k
  s.getB Reg.METC_STUCK_NOW c

/-- A value in its unit of 1 mA or 10 mV as INT32, with overflow and invalid; the rounding is not stated: a free value. -/
def State.svValue (s : State) (k : Nat) (x : Word) : (Int × Bool × Bool) × State :=
  let v := qW x * (if k < 4 then 1000 else 100)
  let fl := v / trajOne
  let (f, s1) := if v % trajOne = 0 then (0, s) else s.takeFree
  let n := fl + b2n (bit f 0)
  let c := clampI (-2147483648) 2147483647 n
  let s2 := if c = n then s1 else (s1.incSat Reg.SV_OVF_CNT).irq Pg.SV 0
  ((c, decide (c ≠ n), s.svStuck k), s2)

/-- The values of one ASDU. -/
def State.svValues (s : State) : List (Word × Nat) → List (Int × Bool × Bool) × State
  | [] => ([], s)
  | (x, k) :: r =>
    let (v, s1) := s.svValue k x
    let (vs, s2) := State.svValues s1 r
    (v :: vs, s2)

/-- SV_FRAME (R369): frame `n` of the second, with the corrected primary values of its two sample instants, in A and V. -/
def execSvFrame (n : Fin 2400) (a b : List Word) (s : State) : Host.Outcome State Fault Refusal :=
  if s.svOn then
    let asdu (l : List Word) : List (Word × Nat) := (List.range 8).map (fun k => (l.getD k 0, k))
    let (vs, s1) := s.svValues (asdu a ++ asdu b)
    let y := s.svSynch
    let s2 := s1.stnSend (.sv s.stn.svTmpl (2 * n.val) y (s.getB Reg.SV_CFG 1) vs)
    done ((((s2.setF Reg.SV_STAT 2 2 y).setR Reg.SV_SMP_CNT (w32 (2 * n.val + 1))).incMod Reg.SV_TX_CNT).blockEv Pg.SV)
  else done s

/-- A write to SV.CFG: EN is refused while MET0 is disabled; the template is read when EN rises (R369). -/
def State.svCfgOp (s : State) (v : Word) : State :=
  if bit v 0 && !s.getB (Reg.METn_CFG 0) 0 then s.refuse Pg.SV
  else
    let s1 := s.setR Reg.SV_CFG v
    if bit v 0 && !s.getB Reg.SV_CFG 0 then { s1 with stn.svTmpl := s.memBytes (sramBase + 4 * s.getF Reg.SV_TMPL_BASE 0 18) 0x50 } else s1

/-- A write to SV.TMPL_BASE: while EN = 0 (R377). -/
def State.svTmplOp (s : State) (v : Word) : State := if s.getB Reg.SV_CFG 0 then s.refuse Pg.SV else s.setR Reg.SV_TMPL_BASE v

/-- SV.CLEAR (R377). -/
def State.svClearOp (s : State) : State := s.setR Reg.SV_OVF_CNT 0
/-- SV_CLEAR (R377). -/
def execSvClear (s : State) : Host.Outcome State Fault Refusal := hostCmd s Pg.SV State.svClearOp

end Sys2Proof.Machine
end

