-- ==== Sys2Proof/Machine/Meter.lean ====
section
/-! DEFINITION. The commands of metering and power quality (spec/15_metering_power_quality.md), and what PQ keeps of its events. -/
namespace Sys2Proof.Machine

/-- STUCK_DETECT (R298): the bit of an enabled channel has not changed for 256 cycles of its clock. -/
def execStuckDetect (ch : Fin 24) (s : State) : Host.Outcome State Fault Refusal :=
  if !s.awake || !s.mdatEn ch then done s
  else
    let seen := s.getB Reg.METC_STUCK_SEEN ch
    let s1 := s.setB Reg.METC_STUCK_NOW ch true
    let s2 := if seen then s1
      else ((s1.setB Reg.METC_STUCK_SEEN ch true).incSat Reg.METC_STUCK_CNT).irqLog 2 0 Pg.METC 0 []
    let p := s.mdatPoint ch
    let s3 := if seen || s.idle (Pg.METn p) then s2 else s2.irq (Pg.METn p) 2
    done (s3.stuckJudge p)

/-- STUCK_CLEAR (R298): the channel's next transition. -/
def execStuckClear (ch : Fin 24) (s : State) : Host.Outcome State Fault Refusal :=
  if !s.awake then done s else done ((s.setB Reg.METC_STUCK_NOW ch false).stuckJudge (s.mdatPoint ch))

/-! ## Points -/

/-- A CFG write of a point: in CONFIGURE only; disabling clears what the point shows (R303, R327). -/
def State.metCfgOp (s : State) (p : Nat) (data : Word) : State :=
  if s.pw.mode ≠ .configure then s.refuse (Pg.METn p)
  else
    let was := s.metOn p
    let s1 := s.setR (Reg.METn_CFG p) (data &&& 0xF9)
    if s1.metOn p then
      (if was then s1 else s1.modMet p (fun m => { met0 with frac := m.frac, lastNeg := m.lastNeg, everLocked := m.everLocked })).rangeJudge p
    else s1.metClear p

/-- A LAYOUT write: a point the layout leaves without channels shows 0 (R302, R303). -/
def State.metcCfgOp (s : State) (data : Word) : State :=
  let s1 := s.metcOp Reg.METC_CFG (data &&& 1)
  if s1.layout1 = s.layout1 then s1
  else (List.range 3).foldl (fun s p => if s.idle (Pg.METn p) then s else
    ((if s.metOn p then s else s.metClear p).rangeJudge p).stuckJudge p) s1

/-- A binary32 in [lo, hi]. -/
def inRangeW (w lo hi : Word) : Bool := fleW lo w && fleW w hi

/-- A ratio, gain or phase register of a point: in CONFIGURE only; ratios positive and finite, gains 0.5 to 2.0, phases −5° to +5° (R306,
R308). -/
def State.metScaleOp (s : State) (p off : Nat) (data : Word) : State :=
  let ok :=
    if off < 0xA0 then fposFin data
    else if (0xA0 ≤ off ∧ off < 0xB0) ∨ (0xC0 ≤ off ∧ off < 0x1C0) then inRangeW data 0x3F000000 0x40000000
    else inRangeW data 0xC0A00000 0x40A00000
  if s.pw.mode ≠ .configure ∨ ok = false then s.refuse (Pg.METn p) else (s.setR (pageBase (Pg.METn p) + off) data).rangeJudge p

/-- A write to VMIN_TRACK (0.01 to 0.5) or PH_RATE (0, 10, 25, 50, 60 or 100) (R305, R318, R327). -/
def State.metVminOp (s : State) (p : Nat) (data : Word) : State :=
  if inRangeW data 0x3C23D70A 0x3F000000 then s.setR (Reg.METn_VMIN_TRACK p) data else s.refuse (Pg.METn p)
def State.metPhRateOp (s : State) (p : Nat) (data : Word) : State :=
  if fld data 0 8 ∈ [0, 10, 25, 50, 60, 100] then
    (s.setR (Reg.METn_PH_RATE p) (data &&& 0xFF)).modMet p (fun m => { m with prevFreq := none })
  else s.refuse (Pg.METn p)

/-- CYCLE_END (R304, R310): the end of a tracked cycle of an enabled point; the point that PQ watches counts it for FREQ10 when it lies
whole within the ten seconds (R322). -/
def execCycleEnd (point : Fin 3) (c : CycleIn) (s : State) : Host.Outcome State Fault Refusal :=
  if s.metOn point then
    let s1 := s.cycleEnd point c
    if s.getB Reg.PQ_CFG 0 && decide (s.getF Reg.PQ_CFG 1 2 = point.val) && decide (8 * s.pq.from10 + c.len.toNat ≤ 8 * c.at_.toNat) then
      done { s1 with pq.count10 := s1.pq.count10 + 1, pq.len10 := s1.pq.len10 + c.len.toNat }
    else done s1
  else done s

/-- RANGE_SWITCH_HIGH (R309): a high-channel sample of `x` amperes whose magnitude exceeds 0.8 × L; `first` on sample 0 of a cycle, where a
change to low due from the cycle just ended does not take place and the two count once. -/
def execRangeSwitchHigh (point : Fin 2) (pair : Fin 4) (x : Word) (first : Bool) (s : State) : Host.Outcome State Fault Refusal :=
  let l := qW (s.getR (Reg.METn_I_RATIO point (2 * pair.val + 1)))
  if s.metOn point && s.autoRange point pair && s.inLow point pair && decide (8 * l < 10 * ((qW x).natAbs : Int)) then
    let mark (t : State) : State := t.modMet point (fun m => { m with toHigh := m.toHigh ||| BitVec.ofNat 4 (2 ^ pair.val) })
    if first && (s.met point).toLow.getLsbD pair then done (mark (s.setB (Reg.METn_STAT point) (8 + pair.val) false))
    else done (mark (s.rangeChange point pair false))
  else done s

/-- All nine accumulators take their words: fractions clear, FAST follows (R314, R315). -/
def State.energySet (s : State) (p : Nat) (words : Nat → Word) : State :=
  let s1 := (List.range 18).foldl (fun s k => s.setR (Reg.METn_EIMP_LO p + 4 * k) (words k)) s
  let s2 := (List.range 9).foldl (fun s q => s.setR (Reg.METn_FAST p q) (words (2 * q))) s1
  s2.modMet p (fun m => { m with frac := met0.frac })

/-- A write to E_CMD: in CONFIGURE only, CLR with its key; each command writes an entry (R315). -/
def State.energyOp (s : State) (p : Nat) (data : Word) : State :=
  if s.pw.mode ≠ .configure ∨ (bit data 0 = true ∧ fld data 8 8 ≠ 0xE5) then s.refuse (Pg.METn p)
  else
    let s1 := if bit data 0 then (s.energySet p (fun _ => 0)).logE 0 none (Pg.METn p) 0 [] else s
    if bit data 1 then
      (s1.energySet p (fun k => s.sramW (s.getF (Reg.METn_E_LOAD_SRC p) 0 18 + k))).logE 0 none (Pg.METn p) 0 []
    else s1

/-- ENERGY_CLR (R315). -/
def execEnergyClr (point : Fin 3) (key : BitVec 8) (s : State) : Host.Outcome State Fault Refusal :=
  hostCmd s (Pg.METn point) (fun s => s.energyOp point (w32 (1 + 2 ^ 8 * key.toNat)))
/-- ENERGY_LOAD (R315). -/
def execEnergyLoad (point : Fin 3) (s : State) : Host.Outcome State Fault Refusal :=
  hostCmd s (Pg.METn point) (fun s => s.energyOp point 2)

/-! ## Harmonics (R316, R317) -/

/-- √ of the sum of squares of lines in fixed point; each with a weight in halves. -/
def rssQ (l : List (Nat × Int)) : Int := qsqrt ((l.map (fun e => (e.1 : Int) * qmul e.2 e.2)).foldl (· + ·) 0 / 2)

/-- The group, or subgroup, of order `h` on bins at 1/W of the fundamental (R316). -/
def harmGroup (b : Nat → Int) (w : Nat) (sub : Bool) (h : Nat) : Int :=
  if sub then rssQ [(2, b (h * w - 1)), (2, b (h * w)), (2, b (h * w + 1))]
  else rssQ ((1, b (h * w - w / 2)) :: (1, b (h * w + w / 2)) :: (List.range (w - 1)).map (fun i => (2, b (h * w + i + 1 - w / 2))))

/-- Total distortion over orders 2 to 63, 0 when order 1 is 0. -/
def distortion (l : Nat → Int) : Int := qdiv (rssQ ((List.range 62).map (fun k => (2, l (k + 2))))) (l 1)

/-- A word of Main SRAM takes a computed quantity. -/
def State.sramNear (s : State) (i : Nat) (v : Int) : State := let (w, s1) := s.nearQ v; s1.setSramW i w

/-- The buffer words of channel `c` of a window: THD and lines, THDG and groups (R317). -/
def State.harmChan (s : State) (base c : Nat) (b : Nat → Int) (w : Nat) (sub : Bool) : State :=
  let line (h : Nat) : Int := b (h * w)
  let grp := harmGroup b w sub
  let s1 := (s.sramNear (base + 16 + 64 * c) (distortion line)).sramNear (base + 528 + 64 * c) (distortion grp)
  (List.range 63).foldl (fun s k =>
    (s.sramNear (base + 16 + 64 * c + k + 1) (line (k + 1))).sramNear (base + 528 + 64 * c + k + 1) (grp (k + 1))) s1

/-- HARMONIC_WINDOW (R316, R317): the end of a W-cycle window: `start` its plant time in ns, `freq` the mean frequency, and per channel the
magnitudes of the DFT bins in primary RMS. -/
def execHarmonicWindow (point : Fin 3) (start : BitVec 64) (freq : Word) (bins : List (List Word)) (s : State) :
    Host.Outcome State Fault Refusal :=
  let w := s.metW point
  if s.metOn point && s.getB (Reg.METn_CFG point) 5 && !s.harmOff point && decide (w ≤ (s.met point).winCycles) then
    let base := s.getF (Reg.METn_HARM_BASE point) 0 18
    let sub := s.getB (Reg.METn_CFG point) 6
    let s1 := (List.range 8).foldl (fun s c => s.harmChan base c (fun m => qW ((bins.getD c []).getD m 0)) w sub) s
    let s2 := s1.setMemWords (sramBase + 4 * base) ([s.sramW base + 2, w32 (start.toNat % 1000000000), w32 (start.toNat / 1000000000),
      w32 w, finWord freq] ++ List.replicate 11 0)
    done (((s2.incMod (Reg.METn_HARM_SEQ point)).irq (Pg.METn point) 0).modMet point (fun m => { m with winCycles := m.winCycles - w }))
  else done s
where
  finWord (w : Word) : Word := if fNonFinite w then 0 else w

/-! ## Synchrophasors (R318) -/

/-- NS of report `n` of a second: n × 10^9 / PH_RATE, to the nearest nanosecond. -/
def reportNs (n rate : Nat) : Nat := (2 * n * 1000000000 + rate) / (2 * rate)

/-- PHASOR_REPORT (R318): the estimate of report `n`, the last one due. -/
def execPhasorReport (point : Fin 3) (n : BitVec 7) (p : PhasorIn) (s : State) : Host.Outcome State Fault Refusal :=
  let rate := s.getF (Reg.METn_PH_RATE point) 0 8
  if s.metOn point && decide (n.toNat < rate) then
    let ns := reportNs n.toNat rate
    let sec := if ns ≤ s.ns then s.sec else s.sec + (2 ^ 48 - 1)
    let (rocof, s0) := match (s.met point).prevFreq with
      | none => s.takeFree
      | some f => s.nearQ ((qW p.freq - qW f) * (rate : Int))
    let put (t : State) (r : Nat → Nat) (l : List Word) : State := (List.range 4).foldl (fun t k => t.setR (r k) (l.getD k 0)) t
    let s1 := put (put (put (put s0 (Reg.METn_PH_VMAG point) p.vmag) (Reg.METn_PH_VANG point) p.vang) (Reg.METn_PH_IMAG point) p.imag)
      (Reg.METn_PH_IANG point) p.iang
    let s2 := (((s1.setR (Reg.METn_PH_NS point) (w32 ns)).setR (Reg.METn_PH_SEC_LO point) (w32 sec)).setR (Reg.METn_PH_FREQ point)
      p.freq).setR (Reg.METn_PH_ROCOF point) rocof
    let s3 := (s2.setB (Reg.METn_STAT point) 4 (s.getB Reg.TIME_SERVO_STAT 8)).irq (Pg.METn point) 1
    done (s3.modMet point (fun m => { m with prevFreq := some p.freq }))
  else done s

/-! ## Power quality (R319–R322) -/

/-- PQ evaluates: enabled, on a point that is enabled (R319). -/
def State.pqOn (s : State) : Bool :=
  s.awake && !s.idle Pg.PQ && s.getB Reg.PQ_CFG 0 && s.metOn (s.getF Reg.PQ_CFG 1 2)

/-- PQ.STAT (R328). -/
def State.pqStat (s : State) : Word :=
  w32 (b2n s.pq.dip.isSome + 2 * b2n s.pq.swell.isSome + 4 * b2n s.pq.intr.isSome + 8 * b2n s.pq.flag)

/-- A write to PQ.CFG: in CONFIGURE only; POINT 3 or a point without channels is refused; disabling ends what is in progress (R319). -/
def State.pqCfgOp (s : State) (data : Word) : State :=
  let p := fld data 1 2
  if s.pw.mode ≠ .configure ∨ p = 3 ∨ s.metExists p = false then s.refuse Pg.PQ
  else
    let s1 := s.setR Reg.PQ_CFG (data &&& 7)
    if bit data 0 then s1 else { s1 with pq.dip := none, pq.swell := none, pq.intr := none, pq.flag := false }

/-- A threshold register: in CONFIGURE only, within its range (R328). -/
def State.pqThOp (s : State) (off : Nat) (data : Word) : State :=
  let ok := match off with
    | 0x48 => fposFin data
    | 0x4C => inRangeW data 0x41200000 0x42C60000
    | 0x50 => inRangeW data 0x42CA0000 0x43480000
    | 0x54 => inRangeW data 0x3F800000 0x41200000
    | _ => inRangeW data 0 0x41200000
  if s.pw.mode ≠ .configure ∨ ok = false then s.refuse Pg.PQ else s.setR (pageBase Pg.PQ + off) data

/-- Urms of channel `k` in percent of U_DIN from the RMS of x (R306, R319). -/
def State.urmsQ (s : State) (k : Nat) (x : Word) : Int :=
  qdiv (100 * qmul (s.vScale (s.getF Reg.PQ_CFG 1 2) k) (qW x)) (qW (s.getR Reg.PQ_U_DIN))

/-- A record of an event that ends at plant time `now` (R321): type 1 dip, 2 swell, 3 interruption. -/
def State.pqRecord (s : State) (typ : Nat) (e : PqEvent) (now : Nat) : State :=
  let s0 := ((s.incSat (match typ with
    | 1 => Reg.PQ_DIP_CNT
    | 2 => Reg.PQ_SWELL_CNT
    | _ => Reg.PQ_INT_CNT)).logE 0 (some 0) Pg.PQ 0 [])
  let wr := s.getF Reg.PQ_EV_WR 0 8
  if 16 ≤ (wr + 256 - s.getF Reg.PQ_EV_RD 0 8) % 256 then (s0.incSat Reg.PQ_EV_OVF_CNT).irq Pg.PQ 2
  else
    let i := wr % 16
    let (dur, s1) := s0.pickNat (now - e.start) 1000
    let (ext, s2) := s1.pickNat (100 * (qW e.ext).toNat) (2 ^ trajBits)
    let info := typ + 4 * e.ch + 16 * b2n (decide (typ = 3)) + 2 ^ 16 * min ext 0xFFFF
    let s3 := (((s2.setR (Reg.PQ_EV_INFO i) (w32 info)).setR (Reg.PQ_EV_START_NS i) (w32 (e.start % 1000000000))).setR
      (Reg.PQ_EV_START_SEC_LO i) (w32 (e.start / 1000000000))).setR (Reg.PQ_EV_DURATION i) (w32 (min dur 0xFFFFFFFF))
    (((s3.setR Reg.PQ_EV_WR (w32 ((wr + 1) % 256))).blockEv Pg.PQ)).irq Pg.PQ 0

/-- The lowest, or highest, of the three channels: its value and number; the lower number of equal ones. -/
def extremeOf (high : Bool) (u : List Word) : Word × Nat :=
  let better (a b : Word × Nat) : Word × Nat := if (if high then fltW a.1 b.1 else fltW b.1 a.1) then b else a
  ((u.zip (List.range 3)).drop 1).foldl better (u.getD 0 0, 0)

/-- The extreme of an event so far and of this window. -/
def PqEvent.with_ (e : PqEvent) (high : Bool) (x : Word × Nat) : PqEvent :=
  if (if high then fltW e.ext x.1 else fltW x.1 e.ext) then { e with ext := x.1, ch := x.2 } else e

/-- One detector at a refresh: the event after it, and the event that ended (R320). -/
def pqDetect (ev : Option PqEvent) (high starts ends : Bool) (x : Word × Nat) (now : Nat) : Option PqEvent × Option PqEvent :=
  match ev with
  | none => (if starts then some ⟨now, x.1, x.2⟩ else none, none)
  | some e => let e1 := e.with_ high x; if ends then (none, some e1) else (some e1, none)

/-- PQ_REFRESH (R319, R320): a half-cycle refresh: `now` the plant time at the end of the window, and the RMS of x of the three channels. -/
def execPqRefresh (now : BitVec 64) (u0 u1 u2 : Word) (s : State) : Host.Outcome State Fault Refusal :=
  if s.pqOn then
    let s1 := ((s.setNear (Reg.PQ_URMS_H 0) (s.urmsQ 0 u0)).setNear (Reg.PQ_URMS_H 1) (s.urmsQ 1 u1)).setNear (Reg.PQ_URMS_H 2) (s.urmsQ 2 u2)
    let u := (List.range 3).map (fun k => s1.getR (Reg.PQ_URMS_H k))
    let q := u.map qW
    let h := qW (s.getR Reg.PQ_HYST)
    let sag := qW (s.getR Reg.PQ_SAG_TH)
    let sw := qW (s.getR Reg.PQ_SWELL_TH)
    let it := qW (s.getR Reg.PQ_INT_TH)
    let lo := extremeOf false u
    let d := pqDetect s.pq.dip false (q.any (fun x => decide (x < sag))) (q.all (fun x => decide (sag + h ≤ x))) lo now.toNat
    let w := pqDetect s.pq.swell true (q.any (fun x => decide (sw < x))) (q.all (fun x => decide (x ≤ sw - h))) (extremeOf true u) now.toNat
    let i := pqDetect s.pq.intr false (q.all (fun x => decide (x < it))) (q.any (fun x => decide (it + h ≤ x))) lo now.toNat
    let begun := (s.pq.dip.isNone && d.1.isSome) || (s.pq.swell.isNone && w.1.isSome) || (s.pq.intr.isNone && i.1.isSome)
    let s2 := { s1 with pq.dip := d.1, pq.swell := w.1, pq.intr := i.1,
                        pq.flag := s.pq.flag || d.1.isSome || w.1.isSome || i.1.isSome }
    let s3 := s2.irqIf begun Pg.PQ 1
    let rec_ (t : State) (typ : Nat) (e : Option PqEvent) : State := match e with
      | none => t
      | some e => t.pqRecord typ e now.toNat
    done (rec_ (rec_ (rec_ s3 1 d.2) 2 w.2) 3 i.2)
  else done s

/-- PQ_AGGREGATE (R322): the end of a W-cycle window: the RMS of x of the three channels over it. -/
def execPqAggregate (u0 u1 u2 : Word) (s : State) : Host.Outcome State Fault Refusal :=
  if s.pqOn then
    let s1 := ((s.setNear (Reg.PQ_U_AGG 0) (s.urmsQ 0 u0)).setNear (Reg.PQ_U_AGG 1) (s.urmsQ 1 u1)).setNear (Reg.PQ_U_AGG 2) (s.urmsQ 2 u2)
    let s2 := ((s1.setR Reg.PQ_AGG_FLAG (w32 (b2n s.pq.flag))).incMod Reg.PQ_AGG_CNT).irq Pg.PQ 3
    done { s2 with pq.flag := s.pq.dip.isSome || s.pq.swell.isSome || s.pq.intr.isSome }
  else done s

/-- PQ_FREQ10 (R322): ten seconds of plant time have passed: whole cycles over their total duration. With no whole cycle the spec states
no result: a free value. -/
def execPqFreq10 (s : State) : Host.Outcome State Fault Refusal :=
  if s.pqOn then
    let s1 := if s.pq.count10 = 0 then let (w, t) := s.takeFree; t.setR Reg.PQ_FREQ10 w
      else s.setNear Reg.PQ_FREQ10 (qRat (s.pq.count10 * 8000000000) (max 1 s.pq.len10))
    done { s1 with pq.from10 := s.timeNs / 10000000000 * 10000000000, pq.count10 := 0, pq.len10 := 0 }
  else done s

/-- A write to EV_RD: refused where it would move past EV_WR or leave more than 16 records (R321). -/
def State.evRdOp (s : State) (data : Word) : State :=
  let rd := s.getF Reg.PQ_EV_RD 0 8
  let held := (s.getF Reg.PQ_EV_WR 0 8 + 256 - rd) % 256
  let moved := (fld data 0 8 + 256 - rd) % 256
  if held < moved ∨ 16 < held - moved then s.refuse Pg.PQ else s.setR Reg.PQ_EV_RD (data &&& 0xFF)

/-- EV_RD_WRITE (R321). -/
def execEvRdWrite (data : Word) (s : State) : Host.Outcome State Fault Refusal := hostCmd s Pg.PQ (fun s => s.evRdOp data)

end Sys2Proof.Machine
end

