-- ==== Sys2Proof/Machine/Idm.lean ====
section
/-! DEFINITION. Identity buses (R392–R397, R404). -/
namespace Sys2Proof.Machine

/-- Buses that work in the role: in the Cell role 0 and 1 (R392). -/
def State.idmBus (s : State) (b : Nat) : Bool := decide (s.pw.role ≠ .cell) || decide (b < 2)
/-- Bus of an item: of a module its ring port, of a record slot as REC_CFG names it. -/
def State.idmBusOf (s : State) (i : Nat) : Nat := if i < 16 then i / 2 else s.getF (Reg.IDM_REC_CFG (i - 16)) 0 3
/-- The slot is read. -/
def State.recEn (s : State) (r : Nat) : Bool := s.getB (Reg.IDM_REC_CFG r) 24

/-- A scan starts: every module and every enabled record is read (R393). -/
def State.idmScanOp (s : State) : State :=
  let items := (List.range 32).filter (fun i => s.idmBus (s.idmBusOf i) && (decide (i < 16) || s.recEn (i - 16)))
  { s with idm.todo := items, idm.scan := decide (items ≠ []) }

/-- IDM_SCAN (R393). -/
def execIdmScan (s : State) : Host.Outcome State Fault Refusal := hostCmd s Pg.IDM State.idmScanOp

/-- IDM.STAT (R404). -/
def State.idmStat (s : State) : Word := putBit (s.getR Reg.IDM_STAT) 0 s.idm.scan

/-- Byte offset of module `n`'s copy in Main SRAM, and of record `r`'s. -/
def State.modAt (s : State) (n : Nat) : Nat := sramBase + 8 * s.getF Reg.IDM_MOD_BASE 0 18 + 128 * n
def State.recAt (s : State) (r : Nat) : Nat := sramBase + 8 * s.getF Reg.IDM_REC_BASE 0 18 + 96 * r

/-- A module's presence: a change sets MODULE and writes an entry (R394). -/
def State.modPresent (s : State) (n : Nat) (on : Bool) : State :=
  if s.getB (Reg.IDM_MOD_STAT n) 0 = on then s
  else (if on then s.setB (Reg.IDM_MOD_STAT n) 0 true else s.setR (Reg.IDM_MOD_STAT n) 0).irqLog 0 0 Pg.IDM 0 []

/-- Alarm or warning flags of the bytes A2h 112–117, which are bytes 10–15 of the copy (PRESUMED: SFF-8472): temperature, supply,
transmit, receive. -/
def ddmFlags (d : List Byte) : Nat :=
  let b (k : Nat) : Nat := (d.getD (10 + k) 0).toNat ||| (d.getD (14 + k) 0).toNat
  b2n (decide (b 0 / 64 ≠ 0)) + 2 * b2n (decide (b 0 / 16 % 4 ≠ 0)) + 4 * b2n (decide (b 0 % 4 ≠ 0)) + 8 * b2n (decide (b 1 / 64 ≠ 0))

/-- The diagnostic bytes of a module are copied, where it has them (R393, R394). -/
def State.modDiag (s : State) (n : Nat) (d : List Byte) : State :=
  let on := s.getB (Reg.IDM_MOD_STAT n) 2
  let bytes := if on then padTo 16 d else List.replicate 16 0
  (s.setMemBytes (s.modAt n + 96) bytes).setF (Reg.IDM_MOD_STAT n) 4 4 (if on then ddmFlags bytes else 0)

/-- Sum of bytes modulo 256. -/
def byteSum (bs : List Byte) : Byte := bs.foldl (· + ·) 0

/-- A module was read (R394). -/
def State.modRead (s : State) (n : Nat) (a0 d : List Byte) : State :=
  let a := padTo 96 a0
  let bad := decide (byteSum (a.take 63) ≠ a.getD 63 0) || decide (byteSum ((a.drop 64).take 31) ≠ a.getD 95 0)
  let opt := a.getD 92 0
  let s1 := (s.modPresent n true).setMemBytes (s.modAt n) a
  let s2 := s1.setR (Reg.IDM_MOD_STAT n) (w32 (1 + 2 * b2n bad + 4 * b2n (opt.getLsbD 6) + 8 * b2n (opt.getLsbD 6 && opt.getLsbD 4)))
  s2.modDiag n d

/-- Word at byte `o` of a record. -/
def recWord (b : List Byte) (o : Nat) : Word := w32 (leNat ((b.drop o).take 4))

/-- A record of a current or voltage sensor is written to its point whole, or not at all (R396): none where a value lies outside the
ranges of R306. -/
def State.recApply (s : State) (r : Nat) (b : List Byte) : Option State :=
  let cfg := s.getR (Reg.IDM_REC_CFG r)
  let p := fld cfg 16 2
  let ch := fld cfg 18 3
  let gain (k : Nat) : Word := recWord b (0xC + 4 * k)
  let ph (k : Nat) : Word := recWord b (0x2C + 4 * k)
  let ok (k : Nat) : Bool := inRangeW (gain k) 0x3F000000 0x40000000 && inRangeW (ph k) 0xC0A00000 0x40A00000
  let ratio := recWord b 8
  if bit cfg 21 then
    if fposFin ratio && ok 0 then
      some ((((s.setR (Reg.METn_V_RATIO p ch) ratio).setR (Reg.METn_V_GAIN p ch) (gain 0)).setR (Reg.METn_V_PHASE p ch) (ph 0)))
    else none
  else if fposFin ratio && (List.range 8).all ok then
    some (((List.range 8).foldl (fun s k => (s.setR (Reg.METn_I_GAIN p (8 * ch + k)) (gain k)).setR (Reg.METn_I_PHASE p (8 * ch + k)) (ph k))
      (s.setR (Reg.METn_I_RATIO p ch) ratio)).rangeJudge p)
  else none

/-- SERIAL of a record. -/
def recSerial (b : List Byte) : List Byte := (b.drop 0x4C).take 16

/-- The RESULT of a record that acknowledged, and the state after it (R395, R396). -/
def State.recJudge (s : State) (r : Nat) (b : List Byte) : Nat × State :=
  let cfg := s.getR (Reg.IDM_REC_CFG r)
  let typ := (b.getD 5 0).toNat
  if recWord b 0 ≠ 0x44524E48 ∨ b.getD 4 0 ≠ 1 then (5, s)
  else if recWord b 0x5C ≠ crc32 (b.take 0x5C) then (6, s)
  else if ¬ (typ = 3 ∨ typ = 1 + b2n (bit cfg 21)) then (7, s)
  else
    let s1 := match SMap.find r s.idm.serial with
      | some old => if old = recSerial b then s else s.irqLog 0 1 Pg.IDM 0 []
      | none => s
    if typ = 3 ∨ bit cfg 25 = false then (2, s1)
    else if s.pw.mode ≠ .configure then (3, s1)
    else match s1.recApply r b with
      | none => (8, s1)
      | some s2 =>
        -- a point idle in the role ignores the write (R18)
        let s3 := if s.idle (Pg.METn (fld cfg 16 2)) then s1 else s2
        (1, { s3 with idm.serial := SMap.insert r (recSerial b) s3.idm.serial }.blockEv Pg.IDM)

/-- RESULT and the count of reads of slot `r`. -/
def State.recResult (s : State) (r code : Nat) : State :=
  s.setR (Reg.IDM_REC_STAT r) (w32 (code + 2 ^ 8 * ((s.getF (Reg.IDM_REC_STAT r) 8 8 + 1) % 256)))

/-- A record was read, or gave no acknowledge. -/
def State.recRead (s : State) (r : Nat) (d : Option (List Byte)) : State :=
  match d with
  | none => ({ s with idm.answers := s.idm.answers &&& ~~~((1 : BitVec 16) <<< r) }).recResult r 4
  | some b0 =>
    let b := padTo 96 b0
    let s1 := { s with idm.answers := s.idm.answers ||| (1 <<< r) }.setMemBytes (s.recAt r) b
    let (code, s2) := s1.recJudge r b
    s2.recResult r code

/-- An item is done; the scan ends with the last one. -/
def State.idmDone (s : State) (p : Nat → Bool) : State :=
  let rest := s.idm.todo.filter (fun i => !p i)
  { s with idm.todo := rest, idm.scan := s.idm.scan && decide (rest ≠ []) }

/-- A bus that answers in a scan is stuck no longer (R397). -/
def State.busFreed (s : State) (b : Nat) : State := if s.idm.scan then s.setB Reg.IDM_STAT (8 + b) false else s

/-- A bus stays stuck: counted, and its modules and records give no acknowledge (R397). -/
def State.busStuck (s : State) (b : Nat) : State :=
  let s1 := (((s.setB Reg.IDM_STAT (8 + b) true).incSat Reg.IDM_BUS_ERR_CNT).irq Pg.IDM 2)
  let s2 := (List.range 16).foldl (fun s n => if n / 2 = b then s.modPresent n false else s) s1
  (List.range 16).foldl (fun s r => if s.recEn r ∧ s.idmBusOf (16 + r) = b then s.recRead r none else s) s2

/-- IDM_READ_DONE (R394–R397): a read under way ends. -/
def execIdmReadDone (r : IdmRead) (s : State) : Host.Outcome State Fault Refusal :=
  if !s.awake then done s
  else match r with
    | .module n d =>
      if n.val ∈ s.idm.todo then
        done ((match d with
          | some (a0, dg) => (s.busFreed (s.idmBusOf n)).modRead n a0 dg
          | none => s.modPresent n false).idmDone (fun i => decide (i = n.val)))
      else done s
    | .record k d =>
      if 16 + k.val ∈ s.idm.todo then
        done (((if d.isSome then s.busFreed (s.idmBusOf (16 + k)) else s).recRead k d).idmDone (fun i => decide (i = 16 + k.val)))
      else done s
    | .stuck b =>
      if s.idmBus b then done ((s.busStuck b).idmDone (fun i => decide (s.idmBusOf i = b.val))) else done s

/-- IDM_POLL (R393): every POLL seconds: presence, and the diagnostics of the modules present; what appears or goes is read. -/
def execIdmPoll (modules : List (Option (List Byte))) (records : BitVec 16) (s : State) : Host.Outcome State Fault Refusal :=
  if !s.awake || !s.clk.gen || decide (s.getF Reg.IDM_CFG 8 8 = 0) then done s
  else
    let one (t : State) (n : Nat) : State :=
      if !s.idmBus (n / 2) || s.getB Reg.IDM_STAT (8 + n / 2) then t
      else match (modules.getD n none) with
        | some d =>
          let fresh := !s.getB (Reg.IDM_MOD_STAT n) 0
          let t1 := (t.modPresent n true).modDiag n d
          if fresh && !decide (n ∈ t1.idm.todo) then { t1 with idm.todo := t1.idm.todo ++ [n] } else t1
        | none => t.modPresent n false
    let rec1 (t : State) (r : Nat) : State :=
      let b := s.idmBusOf (16 + r)
      if !s.recEn r || !s.idmBus b || s.getB Reg.IDM_STAT (8 + b) || records.getLsbD r == s.idm.answers.getLsbD r then t
      else if 16 + r ∈ t.idm.todo then t else { t with idm.todo := t.idm.todo ++ [16 + r] }
    done ((List.range 16).foldl rec1 ((List.range 16).foldl one s))

/-- A write to MOD_BASE or REC_BASE: in CONFIGURE, with `n` bytes within Main SRAM (R394). -/
def State.idmBaseOp (s : State) (a n : Nat) (data : Word) : State :=
  if s.pw.mode ≠ .configure ∨ 0x100000 < 8 * fld data 0 18 + n then s.refuse Pg.IDM else s.setR a (data &&& 0x3FFFF)

/-- A write to REC_CFG[r] (R404). -/
def State.recCfgOp (s : State) (r : Nat) (v : Word) : State :=
  let ad := fld v 8 7
  if (bit v 21 = true ∧ 4 ≤ fld v 18 3) ∨ fld v 16 2 = 3 ∨ ad < 8 ∨ 0x77 < ad ∨ ad = 0x50 ∨ ad = 0x51 ∨ ad = 0x70 ∨
      s.idmBus (fld v 0 3) = false then s.refuse Pg.IDM
  else s.setR (Reg.IDM_REC_CFG r) v

end Sys2Proof.Machine
end

