-- ==== Sys2Proof/Machine/Islands.lean ====
section
/-! DEFINITION. The commands of the drive islands (spec/10_drive_islands.md). -/
namespace Sys2Proof.Machine

/-- The interlock drops a rising command (R194): neither command reaches its island, a conducting partner turns off, and the pair is
held. A partner whose command rose on the same edge tick was never sent. -/
def State.shootBlock (s : State) (n : Nat) : State :=
  let o := partner n
  let g := n / 2
  let same := (s.isl o).out && decide ((s.isl o).seqAt = s.clk.tick)
  let s1 := if same then s.modR (Reg.ISLn_SWITCH_CNT o) (fun w => w - 1) else s
  let s2 := ((s1.turnOff o).modIsl o (fun i => { i with cmd := false })).modIsl n (fun i => { i with cmd := false })
  let s3 := ((s2.setB Reg.ISLC_ILK_STAT g true).setB Reg.ISLC_ILK_STAT (8 + g) true).incSat Reg.ISLC_ILK_CNT
  ({ s3 with ilkE0 := SMap.set 0 g 0 s3.ilkE0 }).irqLog 2 1 Pg.ISLC 0
    [(1, g), (1, b2n (s.islSwin (2 * g))), (1, b2n (s.islSwin (2 * g + 1))), (3, s.clk.tick - s.clk.e0)]

/-- A rising command of island `n` (R190, R191, R194). -/
def State.islRise (s : State) (n : Nat) : State :=
  if !s.islLevel n || (s.isl n).level then s
  else
    let s1 := s.modIsl n (fun i => { i with level := true })
    if s1.ilkHeld (n / 2) then s1
    else if s1.getB Reg.ISLC_ILK_CFG (n / 2) && (s1.isl (partner n)).level then s1.shootBlock n
    else
      let s2 := s1.modIsl n (fun i => { i with cmd := true })
      if s2.islIgnores n then s2 else s2.turnOn n

/-- ISLAND_COMMAND_RISE (R189–R191, R194): of a SWIN-sourced island, its ball turns on. -/
def execIslandCommandRise (isl : Fin 8) (s : State) : Host.Outcome State Fault Refusal :=
  if !s.awake then done s
  else done ((if s.islSwin isl then s.modIsl isl (fun i => { i with swin := true }) else s).islRise isl)

/-- A falling command of island `n`; on the tick of a block the turn-off is soft (R190, R191). -/
def State.islFall (s : State) (n : Nat) : State :=
  if s.islLevel n || !(s.isl n).level then s
  else
    let s1 := s.modIsl n (fun i => { i with level := false, cmd := false })
    if s1.islBlock then s1.softStart n else s1.turnOff n

/-- ISLAND_COMMAND_FALL (R189–R191): of a SWIN-sourced island that no hold forces off, its ball turns off. -/
def execIslandCommandFall (isl : Fin 8) (s : State) : Host.Outcome State Fault Refusal :=
  if !s.awake then done s
  else done ((if s.islSwin isl && !s.islGated isl then s.modIsl isl (fun i => { i with swin := false }) else s).islFall isl)

/-- ISLAND_BLOCK (R190): a conducting island turns off softly while the block is in force. -/
def execIslandBlock (isl : Fin 8) (s : State) : Host.Outcome State Fault Refusal :=
  if s.islBlock then done (s.softStart isl) else done s

/-- The gate is below VEE + 2.0 V after a turn-off: GATE_OFF sets and the Miller clamp closes (R193). -/
def State.gateLow (s : State) (n : Nat) : State :=
  ({ s with cell.gateTick := s.clk.tick }).modIsl n (fun i => { i with gateOff := true, clamp := s.getB (Reg.ISLn_CTRL n) 5 })

/-- SOFT_TURN_OFF_END (R192): the gate is low, or SOFT_MAX has elapsed. -/
def execSoftTurnOffEnd (isl : Fin 8) (gateLow : Bool) (s : State) : Host.Outcome State Fault Refusal :=
  match (s.isl isl).soft with
  | none => done s
  | some t =>
    let s1 := if gateLow then s else s.advanceTo (t + 160 * s.getF (Reg.ISLn_SOFT_CFG isl) 8 8)
    let s2 := s1.modIsl isl (fun i => { i with soft := none })
    done (if gateLow then s2.gateLow isl else s2)

/-- GATE_OFF (R193). -/
def execGateOff (isl : Fin 8) (s : State) : Host.Outcome State Fault Refusal :=
  let i := s.isl isl
  if i.out || i.soft.isSome || i.gateOff || !i.linkOk then done s else done (s.gateLow isl)

/-- ILK_HOLD_EXPIRE (R194): with HOLD = 1, from the second E0 after the block. -/
def execIlkHoldExpire (pair : Fin 4) (s : State) : Host.Outcome State Fault Refusal :=
  if s.ilkHeld pair && s.getB Reg.ISLC_ILK_CFG (8 + pair) && decide (2 ≤ SMap.get 0 pair s.ilkE0) then
    done (s.setB Reg.ISLC_ILK_STAT pair false)
  else done s

/-- An ILK_CLR write: a pair is released while neither command is high, and the record of its block clears; a hold of HOLD = 1 runs to
its E0 (R194). -/
def State.ilkClrOp (s : State) (mask : BitVec 4) : State :=
  (List.range 4).foldl (fun s g =>
    if mask.getLsbD g && !(s.isl (2 * g)).level && !(s.isl (2 * g + 1)).level then
      let s1 := s.setB Reg.ISLC_ILK_STAT (8 + g) false
      if s.getB Reg.ISLC_ILK_CFG (8 + g) then s1 else s1.setB Reg.ISLC_ILK_STAT g false
    else s) s

/-- ILK_CLR (R194). -/
def execIlkClr (mask : BitVec 4) (s : State) : Host.Outcome State Fault Refusal := hostCmd s Pg.ISLC (fun s => s.ilkClrOp mask)

/-! ## Faults -/

/-- Island `n` is a follower of the first fault, with type `t` (R199). -/
def State.follower (s : State) (n t : Nat) : State :=
  (s.setB Reg.ISLC_FAULT_FOLLOW n true).logE 2 (some 0) Pg.ISLC 0 [(1, n), (1, t), (1, s.getF Reg.ISLC_FAULT_FIRST 0 3)]

/-- The scope rule: every other conducting island turns off softly and is held (R198). -/
def State.scopeOff (s : State) (n : Nat) : State :=
  if s.getB Reg.ISLC_FAULT_CFG 0 then
    (List.range 8).foldl (fun s m =>
      if m ≠ n && (s.isl m).out then ((s.softStart m).modIsl m (fun i => { i with scope := true })).follower m 0 else s) s
  else s

/-- The record of a fault: the first since FAULT_CLR, a follower within the window, or neither (R199). -/
def State.captureFault (s : State) (n t : Nat) : State :=
  let tick := s.clk.tick - s.clk.e0
  let pcnt := s.getR Reg.TIME_PERIOD_CNT
  let s1 := (s.setR (Reg.ISLn_FAULT_TICK n) (w32 (tick % 2 ^ 18))).setR (Reg.ISLn_FAULT_PCNT n) pcnt
  match s1.faultAt with
  | none =>
    let s2 := ((s1.setR Reg.ISLC_FAULT_FIRST (w32 (n + 16 * t + 256))).setR Reg.ISLC_FAULT_TICK (w32 (tick % 2 ^ 18))).setR
      Reg.ISLC_FAULT_PCNT pcnt
    let s3 := ({ s2 with faultAt := some s.clk.tick }).blockEv Pg.ISLC
    (s3.logE 2 (some 0) Pg.ISLC 0 [(1, n), (1, t), (4, pcnt.toNat), (3, tick)]).scopeOff n
  | some a => if s.clk.tick ≤ a + 1600 * max 1 (s.getF Reg.ISLC_FAULT_CFG 8 8) then s1.follower n t else s1

/-- A fault of type `t` at island `n`: soft turn-off, the counts and interrupts, the latch, the partner held off, and SAFE (R192, R195–
R200). An island in soft turn-off ignores it; one already latched keeps its TYPE. -/
def State.islFault (s : State) (n t : Nat) : State :=
  let i := s.isl n
  if i.soft.isSome then s
  else
    let cnt := if t = 1 ∨ t = 2 then some (Reg.ISLn_DSAT_CNT n) else if t = 3 then some (Reg.ISLn_HARD_CNT n)
      else if t = 5 ∨ t = 6 then some (Reg.ISLn_UVLO_CNT n) else none
    let s1 := match cnt with
      | none => s
      | some a => s.incSat a
    let own := if t = 1 ∨ t = 2 then some 0 else if t = 3 then some 1 else if t = 5 ∨ t = 6 then some 2 else none
    let s2 := match own with
      | none => s1
      | some b => s1.irq (Pg.ISLn n) b
    let s3 := ((s2.irq Pg.ISLC 0).irqIf (decide (t = 5 ∨ t = 6)) Pg.ISLC 2).incSat Reg.ISLC_FAULT_CNT
    if i.fault then s3
    else
      let s4 := ((s3.softStart n).modIsl n (fun i => { i with fault := true, typ := t })).blockEv (Pg.ISLn n)
      let s5 := ((s4.softStart (partner n)).captureFault n t).cellFault (0x40 + 8 * n + t)
      if t ≠ 4 && s5.getB Reg.ISLC_FAULT_CFG 1 && (decide (s5.pw.mode = .armed) || decide (s5.pw.mode = .run)) then
        s5.enterSafe SafeCause.ctrlFault
      else s5

/-- ISLAND_LINK_TIMEOUT (R187): the island itself has had no valid frame for 200 ns. -/
def execIslandLinkTimeout (isl : Fin 8) (s : State) : Host.Outcome State Fault Refusal :=
  if (s.isl isl).fault && decide ((s.isl isl).typ = 4) then done s else done (s.islFault isl 4)

/-- LINK_REPORT_TIMEOUT (R187): no valid report for 300 ns. -/
def execLinkReportTimeout (isl : Fin 8) (s : State) : Host.Outcome State Fault Refusal :=
  if !s.awake || !(s.isl isl).linkOk then done s
  else
    let s1 := ((s.modIsl isl (fun i => { i with linkOk := false })).setB Reg.ISLC_LINK_STAT (8 + isl) true).incSat (Reg.ISLn_LINK_CNT isl)
    let s2 := (s1.irq Pg.ISLC 3).irqLog 2 3 (Pg.ISLn isl) 0 []
    if s2.islEn isl && (decide (s2.pw.mode = .armed) || decide (s2.pw.mode = .run)) then done (s2.enterSafe SafeCause.ctrlFault) else done s2

/-- ISLAND_LINK_RETURN (R187). -/
def execIslandLinkReturn (isl : Fin 8) (s : State) : Host.Outcome State Fault Refusal :=
  if !s.awake then done s else done (s.modIsl isl (fun i => { i with linkOk := true }))

def State.dsatEn (s : State) (n : Nat) : Bool := s.getB (Reg.ISLn_DSAT_CFG n) 24

/-- BLANKING_END (R195): not before the timer's tolerance lets it, 5 % and 20 ns below BLANK × 100 ns. An armed island starts soft
turn-off, TYPE 2. -/
def execBlankingEnd (isl : Fin 8) (s : State) : Host.Outcome State Fault Refusal :=
  let i := s.isl isl
  if !i.out || !i.blank then done s
  else
    let s1 := (s.advanceTo (i.seqAt + (152 * s.getF (Reg.ISLn_DSAT_CFG isl) 16 6 - 32))).modIsl isl (fun i => { i with blank := false })
    if i.armed && s.dsatEn isl then done (s1.islFault isl 2) else done s1

/-- BLANK_ARM (R195): the comparator asserts, or ends its assertion, while blanking runs. -/
def execBlankArm (isl : Fin 8) (asserted : Bool) (s : State) : Host.Outcome State Fault Refusal :=
  let i := s.isl isl
  if !i.out || !i.blank || !s.dsatEn isl || i.armed == asserted then done s
  else
    let s1 := s.modIsl isl (fun i => { i with armed := asserted })
    if asserted then done ((s1.incSat (Reg.ISLn_BLANK_ARM_CNT isl)).irq (Pg.ISLn isl) 6) else done s1

/-- DESAT_DETECT (R195): an assertion after blanking has persisted 50 ns. -/
def execDesatDetect (isl : Fin 8) (s : State) : Host.Outcome State Fault Refusal :=
  let i := s.isl isl
  if !i.out || i.blank || !s.dsatEn isl then done s else done (s.islFault isl 1)

/-- HARD_FAULT (R196). -/
def execHardFault (isl : Fin 8) (s : State) : Host.Outcome State Fault Refusal :=
  if !(s.isl isl).out || !s.getB (Reg.ISLn_CTRL isl) 6 then done s else done (s.islFault isl 3)

/-- The cause of the latched fault is absent (R197): the link is up, the supply good, the last NTC sample not below TRIP; a desaturation
or hard fault is gone once the switch is off. -/
def State.causeAbsent (s : State) (n : Nat) : Bool :=
  let i := s.isl n
  match i.typ with
  | 4 => i.linkOk
  | 5 => i.vddGood
  | 6 => i.veeGood
  | 7 => decide (s.getF (Reg.ISLn_NTC_LIM n) 16 10 ≤ s.getF (Reg.ISLn_NTC_RAW n) 0 10)
  | _ => !i.out

/-- A FAULT_CLR write (R197). -/
def State.islFaultClrOp (s : State) (n : Nat) : State :=
  if s.causeAbsent n && !(s.isl n).level && (s.isl n).soft.isNone then s.modIsl n (fun i => { i with fault := false, typ := 0 })
  else s.refuse (Pg.ISLn n)

/-- ISL_FAULT_CLR (R197). -/
def execIslFaultClr (isl : Fin 8) (s : State) : Host.Outcome State Fault Refusal := hostCmd s (Pg.ISLn isl) (fun s => s.islFaultClrOp isl)

/-- An ISLC.FAULT_CLR write (R199): the first-fault record and the scope hold clear, and capture is re-armed. -/
def State.islcFaultClrOp (s : State) : State :=
  let s1 := { (s.setR Reg.ISLC_FAULT_FIRST 0).setR Reg.ISLC_FAULT_FOLLOW 0 with faultAt := none }
  (List.range 8).foldl (fun s n => s.modIsl n (fun i => { i with scope := false })) s1

/-- ISLC_FAULT_CLR (R199). -/
def execIslcFaultClr (s : State) : Host.Outcome State Fault Refusal := hostCmd s Pg.ISLC State.islcFaultClrOp

/-- UVLO_ENTRY (R200): a supply enters undervoltage; the VEE check is off with code 0. -/
def execUvloEntry (isl : Fin 8) (vee : Bool) (s : State) : Host.Outcome State Fault Refusal :=
  if vee && decide (s.getF (Reg.ISLn_UVLO_CFG isl) 8 2 = 0) then done s
  else
    let s1 := s.modIsl isl (fun i => if vee then { i with veeGood := false } else { i with vddGood := false })
    done (s1.islFault isl (if vee then 6 else 5))

/-- SUPPLY_GOOD (R200): out of undervoltage for 100 µs. -/
def execSupplyGood (isl : Fin 8) (vee : Bool) (s : State) : Host.Outcome State Fault Refusal :=
  done (s.modIsl isl (fun i => if vee then { i with veeGood := true } else { i with vddGood := true }))

/-- NTC_CONVERSION (R201): the conversion of each millisecond against its two limits, 0 disabling either. -/
def execNtcConversion (isl : Fin 8) (raw : BitVec 10) (s : State) : Host.Outcome State Fault Refusal :=
  if !s.awake || !(s.isl isl).linkOk then done s
  else
    let lim := s.getR (Reg.ISLn_NTC_LIM isl)
    let s1 := s.setR (Reg.ISLn_NTC_RAW isl) (w32 raw.toNat)
    let s2 := if raw.toNat < fld lim 0 10 then (s1.irq (Pg.ISLn isl) 4).irq Pg.ISLC 4 else s1
    if raw.toNat < fld lim 16 10 then
      let act := s2.getB (Reg.ISLn_CTRL isl) 4
      let s3 := ((s2.incSat (Reg.ISLn_NTC_EVT_CNT isl)).irq Pg.ISLC 4).irqLog (if act then 2 else 1) 5 (Pg.ISLn isl) 0 []
      if act && !(s3.isl isl).fault then done (s3.islFault isl 7) else done s3
    else done s2

/-- A STAT_CLR write (R204). -/
def State.islStatClrOp (s : State) (n : Nat) : State :=
  [Reg.ISLn_DSAT_CNT n, Reg.ISLn_HARD_CNT n, Reg.ISLn_UVLO_CNT n, Reg.ISLn_LINK_CNT n, Reg.ISLn_BLANK_ARM_CNT n,
   Reg.ISLn_NTC_EVT_CNT n].foldl (fun s a => s.setR a 0) s

/-- ISL_STAT_CLR (R204). -/
def execIslStatClr (isl : Fin 8) (s : State) : Host.Outcome State Fault Refusal := hostCmd s (Pg.ISLn isl) (fun s => s.islStatClrOp isl)

/-- HARD level above the desaturation level: 6.0 V + 0.5 V × HARD_TH against 3.0 V + 0.25 V × TH (R196). -/
def hardAbove (hardTh th : Nat) : Bool := decide (th < 12 + 2 * hardTh)

/-- A write to CTRL (R189, R190, R204): refused where it changes bits 6:1 outside CONFIGURE; EN = 0 turns a conducting island off
softly. -/
def State.islCtrlOp (s : State) (n : Nat) (data : Word) : State :=
  let old := s.getR (Reg.ISLn_CTRL n)
  let v := data &&& (if s.pw.role = .cell then 0x75 else 0x77)
  if s.pw.mode ≠ .configure ∧ (v ^^^ old) &&& 0x76 ≠ 0 then s.refuse (Pg.ISLn n)
  else
    let s1 := s.setR (Reg.ISLn_CTRL n) v
    if bit v 0 then s1 else s1.softStart n

/-- ISL_CTRL_WRITE (R190, R204). -/
def execIslCtrlWrite (isl : Fin 8) (data : Word) (s : State) : Host.Outcome State Fault Refusal :=
  hostCmd s (Pg.ISLn isl) (fun s => s.islCtrlOp isl data)

/-- Host writes to the settings of an island: ranges and modes of R191, R192, R195, R196, R201 and R204. -/
def State.islRegOp (s : State) (n off : Nat) (data : Word) : State :=
  let f (lo len : Nat) := fld data lo len
  let cfg := decide (s.pw.mode = .configure)
  let ok := match off with
    | 0x48 => cfg
    | 0x4C => cfg && decide (f 0 7 ≤ 100 ∧ f 8 7 ≤ 100 ∧ f 16 7 ≤ 100)
    | 0x50 => cfg && decide (f 0 6 ≤ 39 ∧ f 8 6 ≤ 39 ∧ f 16 6 ≤ 39)
    | 0x54 => cfg && decide (f 0 7 ≤ 100 ∧ f 8 7 ≤ 100 ∧ f 16 7 ≤ 100)
    | 0x58 => decide (10 ≤ f 8 8 ∧ f 8 8 ≤ 100)
    | 0x5C => decide (f 0 5 ≤ 28 ∧ 2 ≤ f 16 6 ∧ f 16 6 ≤ 50) && hardAbove (s.getF (Reg.ISLn_HARD_CFG n) 0 5) (f 0 5)
    | 0x60 => decide (f 0 5 ≤ 18) && hardAbove (f 0 5) (s.getF (Reg.ISLn_DSAT_CFG n) 0 5)
    | 0x6C => decide (f 16 10 ≤ f 0 10)
    | _ => true
  let mask : Word := match off with
    | 0x48 => 0x1F1F1F
    | 0x4C => 0x7F7F7F
    | 0x50 => 0x3F3F3F
    | 0x54 => 0x7F7F7F
    | 0x58 => 0xFF07
    | 0x5C => 0x13F031F
    | 0x60 => 0x1F
    | 0x64 => 0x303
    | _ => 0x3FF03FF
  if ok then s.setR (pageBase (Pg.ISLn n) + off) (data &&& mask) else s.refuse (Pg.ISLn n)

/-- ISLC.ILK_CFG and PRECHARGE: in CONFIGURE only (R194, R203). -/
def State.islcCfgOp (s : State) (a : Nat) (data : Word) : State :=
  if s.pw.mode = .configure then s.setR a (data &&& (if a = Reg.ISLC_ILK_CFG then 0xF0F else 0xFF)) else s.refuse Pg.ISLC

end Sys2Proof.Machine
end

