-- ==== Sys2Proof/Machine/GridMath.lean ====
section
/-! DEFINITION. Angles of the policy machines (spec/08): turns held exactly, degrees and radians as binary32. -/
namespace Sys2Proof.Machine

/-- 2π as the device holds it (Sump word 2). -/
abbrev twoPiW : Word := 0x40C90FDB

/-- A measured word as the device can hold it: never a NaN or an infinity (R80). -/
def finW (w : Word) : Word := if fNonFinite w then 0 else w

/-- An angle in [0, 2π); anything else is +0.0. -/
def angW (w : Word) : Word := if fleW 0 w && fltW w twoPiW then w else 0

/-- Fraction bits of an angle held in turns. -/
abbrev turnBits : Nat := 200

/-- A binary32 angle in radians as turns, in fixed point: × 1/2π held to 64 bits. -/
def turnsOf (w : Word) : Int := fixOf turnBits w * (invTwoPi : Nat) / 2 ^ 66

/-- Turns wrapped into (−1/2, 1/2]. -/
def wrapTurns (t : Int) : Int :=
  let m := t % 2 ^ 200
  if 2 ^ 199 < m then m - 2 ^ 200 else m

/-- Turns as degrees in binary32. -/
def degOfTurns (t : Int) : Word := fOfRat (t * 360) (2 ^ 200)

/-- Degrees in binary32 as turns. -/
def turnsOfDeg (w : Word) : Int := fixOf turnBits w / 360

/-- Turns as radians in binary32. -/
def radOfTurns (t : Int) : Word := fOfRat (t * 2 ^ 66) (invTwoPi * 2 ^ 200)

/-- WRAP(x, 2π) of R82. -/
def wrapAng (w : Word) : Word := (fwrap (fdec w) (fdec twoPiW) 0).w

/-- THETA advanced by OMEGA × T_S (R150, R153). -/
def advanceAng (theta omega ts : Word) : Word := wrapAng (faddW theta (fmulW omega ts).w).w

/-- Exact mean of a list of words, rounded once; 0 for none. -/
def meanW (l : List Word) : Word :=
  if l = [] then 0 else fOfRat ((l.map (fixOf 149)).foldl (· + ·) 0) (l.length * 2 ^ 149)

end Sys2Proof.Machine
end

