-- ==== Sys2Proof/Machine/Samples.lean ====
section
/-! DEFINITION. The period's samples as SYNC takes them (R142). -/
namespace Sys2Proof.Machine

/-- Phase `k` of a source register: the sinc2 value of a modulator channel, or the code of a converter channel (R142). -/
def State.phaseSample (s : State) (src k : Nat) : Int :=
  let b := s.getF src (8 * k) 8
  if b.testBit 7 then (s.lvCode (b % 32) : Nat) else sint (s.getR (Reg.METC_LV (b % 32)))

end Sys2Proof.Machine
end

