-- ==== Sys2Proof/Machine/Sync.lean ====
section
/-! DEFINITION. SYNC: the grid angle, grid-forming operation, coasting and phase jumps (R142–R153, R164). The observer's and the
phase-locked loop's outputs come with the E0 (`SyncIn`). -/
namespace Sys2Proof.Machine

/-- |V+| is at or above COAST_LEVEL + COAST_HYST (R146, R151, R152). -/
def State.vGood (s : State) (vp : Word) : Bool := fleW (faddW (s.getR Reg.SYNC_COAST_LEVEL) (s.getR Reg.SYNC_COAST_HYST)).w vp

/-- |V+| is below COAST_LEVEL (R150). -/
def State.vLow (s : State) (vp : Word) : Bool := fltW vp (s.getR Reg.SYNC_COAST_LEVEL)

/-- The FLL frequency held within 40 Hz to 70 Hz (R146). -/
def fllHz (w : Word) : Word := fclampW (finW w) 0x42200000 0x428C0000

/-- The FLL frequency rests on a limit (R146). -/
def fllAtLimit (w : Word) : Bool := let f := fllHz w; decide (f = 0x42200000 ∨ f = 0x428C0000)

/-- The angular frequency of a frequency in Hz. -/
def omegaOf (hz : Word) : Word := (fmulW twoPiW hz).w

/-- The frequency of an angular frequency. -/
def hzOf (om : Word) : Word := (fdivW om twoPiW).w

/-- A state change of SYNC counts as a block event (R164). -/
def State.syncMove (s : State) (st : Nat) : State := ({ s with sync.st := st }).blockEv Pg.SYNC

/-- THETA and OMEGA take values: words 8 to 11 and their copies (R93, R164). -/
def State.setTheta (s : State) (theta omega : Word) : State :=
  ((((s.setSump 8 theta).setSump 9 (Config.sinOf theta)).setSump 10 (Config.cosOf theta)).setSump 11 omega)

/-- IDLE (R147). -/
def State.syncIdle (s : State) : State :=
  let s1 := if s.sync.st = 0 then s else s.syncMove 0
  let s2 := { s1 with sync.clamp := false, sync.fClamp := false, sync.lockCnt := 0, sync.settle := 0, sync.coast := 0, sync.past := [] }
  let s3 := ((s2.setSump 8 0).setSump 9 0).setSump 10 0x3F800000 |>.setSump 11 (omegaOf (s.getR Reg.SYNC_F_NOM))
  (List.range 6).foldl (fun s k => s.setSump (12 + k) 0) s3

/-- Entry to TRACKING from ACQUIRE (R146). -/
def State.syncLock (s : State) : State := ({ s with sync.lockCnt := 0 }.syncMove 2).irq Pg.SYNC 0

/-- TRACKING returns to ACQUIRE (R146). -/
def State.syncUnlock (s : State) : State := ({ s with sync.lockCnt := 0 }.syncMove 1).irqLog 2 4 Pg.SYNC 0 []

/-- Entry to COASTING: OMEGA takes the mean of the COAST_AVG E0s before, the angle coasts, CLAMP returns to 0 (R150). -/
def State.coastEnter (s : State) : State :=
  let om := meanW ((s.sync.past.take (max 1 (s.getF Reg.SYNC_COAST_AVG 0 9))).map (·.omega))
  let om1 := if s.sync.past = [] then s.sumpW 11 else om
  let s1 := { s with sync.clamp := false, sync.settle := 0, sync.coast := 0, sync.lockCnt := 0 }
  let s2 := (s1.setTheta (advanceAng (s.sumpW 8) om1 s.tS) om1).setR Reg.SYNC_FREQ (hzOf om1)
  ((s2.syncMove 3).incSat Reg.SYNC_COAST_CNT).irqLog 1 1 Pg.SYNC 0 []

/-- Entry to LOST (R151). -/
def State.syncLost (s : State) : State := ((s.syncMove 5).incSat Reg.SYNC_LOSS_CNT).irqLog 2 3 Pg.SYNC 0 []

/-- LOST ends: THETA := θobs, ACQUIRE (R151). -/
def State.lostReturn (s : State) : State :=
  ({ s with sync.settle := 0, sync.lockCnt := 0 }.setTheta s.sync.thetaObs (s.sumpW 11)).syncMove 1

/-- One E0 of the slew (R153), from the angle `theta` before it: the step is at most PHASE_SLEW × T_S. OMEGA is the FLL's. -/
def State.slewStep (s : State) (theta : Word) : State :=
  let om := omegaOf (s.getR Reg.SYNC_FREQ)
  let pred := advanceAng theta om s.tS
  let err := wrapTurns (turnsOf s.sync.thetaObs - turnsOf pred)
  -- degrees per ms × T_S in ms, as turns
  let lim := turnsOfDeg (s.getR Reg.SYNC_PHASE_SLEW) * s.period / 1600000
  let th1 := if (err.natAbs : Int) ≤ lim then s.sync.thetaObs
    else wrapAng (faddW pred (radOfTurns (if err < 0 then -lim else lim))).w
  let rem := wrapTurns (turnsOf s.sync.thetaObs - turnsOf th1)
  let s1 := s.setTheta th1 om
  let s2 := if (rem.natAbs : Int) < turnsOfDeg (s.getR Reg.SYNC_SLEW_REL) then { s1 with sync.clamp := false } else s1
  if th1 = s.sync.thetaObs then s2.syncMove 2 else s2

/-- The slew reaches θobs: TRACKING (R153). -/
def State.slewDone (s : State) : State := ({ s with sync.lockCnt := 0 }).syncMove 2

/-- The measurement of a phase jump at the return of the voltage, `theta` the angle before this E0 (R152). -/
def State.jumpMeasure (s : State) (theta : Word) : State :=
  let pred := advanceAng theta (s.sumpW 11) s.tS
  let jt := wrapTurns (turnsOf s.sync.thetaObs - turnsOf pred)
  let j := degOfTurns jt
  let n := s.sync.coast
  let s1 := { s with sync.settle := 0, sync.lockCnt := 0, sync.coast := 0 }
  let s2 := ((s1.setR Reg.SYNC_JUMP_LAST j).setR Reg.SYNC_COAST_LAST (w32 n)).irqLog 0 2 Pg.SYNC 0
    [(4, j.toNat), (4, n), (4, (s.getR Reg.SYNC_VP_MAG).toNat)]
  let om := omegaOf (s.getR Reg.SYNC_FREQ)
  if fleW (fabsW j) (s.getR Reg.SYNC_JUMP_SNAP) then (s2.setTheta s.sync.thetaObs om).syncMove 2
  else
    let s3 := s2.incSat Reg.SYNC_JUMP_CNT
    if s.sync.gfm then (s3.setTheta s.sync.thetaObs om).syncMove 2
    else ({ s3 with sync.clamp := true }.syncMove 4).slewStep theta

/-- The conditions of the transitions that have commands of their own (R146, R151–R153). -/
def State.lockReady (s : State) : Bool :=
  decide (s.sync.st = 1) && decide (max 1 (s.getF Reg.SYNC_LOCK_N 0 16) ≤ s.sync.lockCnt) && !s.sync.fClamp
def State.unlockReady (s : State) : Bool := decide (s.sync.st = 2) && decide (max 1 (s.getF Reg.SYNC_LOCK_N 0 16) ≤ s.sync.lockCnt)
def State.returnReady (s : State) : Bool := decide (max 1 (s.getF Reg.SYNC_RET_SETTLE 0 8) ≤ s.sync.settle)
/-- The coast has lasted longer than COAST_MAX ms (R151). -/
def State.coastOver (s : State) : Bool := decide (s.getF Reg.SYNC_COAST_MAX 0 16 * 1600000 < s.sync.coast * s.period)

/-- ACQUIRE at an E0 (R146). -/
def State.acquireE0 (s : State) (i : SyncIn) : State :=
  let good := fleW (fabsW (finW i.vpq)) (s.getR Reg.SYNC_LOCK_TOL) && s.vGood (finW i.vp) && !s.sync.fClamp
  let s1 := ({ s with sync.lockCnt := if good then s.sync.lockCnt + 1 else 0 }).setTheta (angW i.theta) (finW i.omega)
  if s1.lockReady then s1.syncLock else s1

/-- TRACKING at an E0 (R146, R150). -/
def State.trackingE0 (s : State) (i : SyncIn) : State :=
  if s.vLow (finW i.vp) then s.coastEnter
  else
    let five := (fmulW 0x40A00000 (s.getR Reg.SYNC_LOCK_TOL)).w
    let bad := fltW five (fabsW (finW i.vpq))
    let s1 := ({ s with sync.lockCnt := if bad then s.sync.lockCnt + 1 else 0 }).setTheta (angW i.theta) (finW i.omega)
    if s1.unlockReady then s1.syncUnlock else s1

/-- THETA coasts for one period (R150). -/
def State.coastOn (s : State) : State := s.setTheta (advanceAng (s.sumpW 8) (s.sumpW 11) s.tS) (s.sumpW 11)

/-- COASTING at an E0: a completed return comes before the end of COAST_MAX (R151, R152). -/
def State.coastingE0 (s : State) (i : SyncIn) : State :=
  let s1 := { s with sync.coast := s.sync.coast + 1, sync.settle := if s.vGood (finW i.vp) then s.sync.settle + 1 else 0 }
  if s1.returnReady then s1.jumpMeasure (s.sumpW 8)
  else if s1.coastOver then s1.coastOn.syncLost
  else s1.coastOn

/-- LOST at an E0 (R151). -/
def State.lostE0 (s : State) (i : SyncIn) : State :=
  let s1 := ({ s with sync.settle := if s.vGood (finW i.vp) then s.sync.settle + 1 else 0 }).coastOn
  if s1.returnReady then s1.lostReturn else s1

/-- Words 22 and 23 in grid-forming operation (R148), with the powers of this E0. -/
def State.gridForm (s : State) : State :=
  let w0 := (fmulW twoPiW (s.getR Reg.SYNC_F_NOM)).w
  let pset := s.sumpW (24 + s.getF Reg.SYNC_GF_CFG 8 4)
  let dp := (fsubW pset (s.sumpW 16)).w
  let om := s.sumpW 23
  let wref := if s.getB Reg.SYNC_GF_CFG 1 then s.sumpW 11 else w0
  let raw :=
    if s.getB Reg.SYNC_GF_CFG 0 then
      let damp := (fdivW (fmulW (s.getR Reg.SYNC_GF_D) (fsubW om wref).w).w w0).w
      let num := (fmulW (fmulW s.tS w0).w (fsubW dp damp).w).w
      (faddW om (fdivW num (fmulW 0x40000000 (s.getR Reg.SYNC_GF_H)).w).w).w
    else (fmulW w0 (faddW 0x3F800000 (fmulW (s.getR Reg.SYNC_GF_DROOP) dp).w).w).w
  let lo := (fmulW twoPiW 0x42200000).w
  let hi := (fmulW twoPiW 0x428C0000).w
  let om1 := fclampW raw lo hi
  let s1 := { s with sync.gfClamp := decide (om1 = lo ∨ om1 = hi) }
  (s1.setSump 22 (wrapAng (faddW (s.sumpW 22) (fmulW om1 s.tS).w).w)).setSump 23 om1

/-- Words 22 and 23 at an E0 (R147, R148): `was` says whether grid-forming was in force before. -/
def State.gfWords (s : State) (was : Bool) : State :=
  if s.sync.gfm && was && decide (s.sync.st ≠ 0) then s.gridForm
  else { ((s.setSump 22 (s.sumpW 8)).setSump 23 (s.sumpW 11)) with sync.gfClamp := false }

/-- The copies of SYNC's words in its page (R164). -/
def State.syncCopies (s : State) : State :=
  (((s.setR Reg.SYNC_THETA_V (s.sumpW 8)).setR Reg.SYNC_OMEGA_V (s.sumpW 11)).setR Reg.SYNC_GF_THETA_V (s.sumpW 22)).setR
    Reg.SYNC_GF_OMEGA_V (s.sumpW 23)

/-- The observer's results appear: magnitudes, sequence voltages and, except in a coast, the frequency (R142, R150). -/
def State.syncObserve (s : State) (i : SyncIn) : State :=
  let s1 := { s with sync.thetaObs := angW i.thetaObs, sync.fClamp := fllAtLimit i.fll }
  let s2 := (((s1.setR Reg.SYNC_VP_MAG (finW i.vp)).setR Reg.SYNC_VN_MAG (finW i.vn)).setR Reg.SYNC_VPH_MIN (finW i.phMin)).setR
    Reg.SYNC_VPH_MAX (finW i.phMax)
  let s3 := if s.sync.st = 3 ∨ s.sync.st = 5 then s2 else s2.setR Reg.SYNC_FREQ (fllHz i.fll)
  (((s3.setSump 12 (finW i.vpd)).setSump 13 (finW i.vpq)).setSump 14 (finW i.vnd)).setSump 15 (finW i.vnq)

/-- P_MEAS and Q_MEAS from the phase samples a, b, c of voltages and currents: vα·iα + vβ·iβ and vβ·iα − vα·iβ with
α = (2a − b − c)/3, β = (b − c)/√3 (R142); exact, with 1/√3 to 60 bits, and rounded once. -/
def powerWords (v i : Int × Int × Int) (vs is : Word) : Word × Word :=
  let va := 2 * v.1 - v.2.1 - v.2.2
  let ia := 2 * i.1 - i.2.1 - i.2.2
  let vb := v.2.1 - v.2.2
  let ib := i.2.1 - i.2.2
  let k := fixOf 149 vs * fixOf 149 is
  let den := 2 ^ 298
  (fOfRat (k * (va * ia + 3 * vb * ib)) (9 * den),
   fOfRat (k * (vb * ia - va * ib) * 665639541039271462) (3 * 2 ^ 60 * den))

/-- Words 16 and 17 (R142). -/
def State.syncPower (s : State) : State :=
  let v := (s.phaseSample Reg.SYNC_VSRC 0, s.phaseSample Reg.SYNC_VSRC 1, s.phaseSample Reg.SYNC_VSRC 2)
  let i := (s.phaseSample Reg.SYNC_ISRC 0, s.phaseSample Reg.SYNC_ISRC 1, s.phaseSample Reg.SYNC_ISRC 2)
  let (p, q) := powerWords v i (s.getR Reg.SYNC_V_SCALE) (s.getR Reg.SYNC_I_SCALE)
  (s.setSump 16 p).setSump 17 q

/-- The state machine at an E0 (R146, R150–R153). -/
def State.syncMachine (s : State) (i : SyncIn) : State :=
  match s.sync.st with
  | 1 => s.acquireE0 i
  | 2 => s.trackingE0 i
  | 3 => s.coastingE0 i
  | 4 => if s.vLow (finW i.vp) then s.coastEnter else s.slewStep (s.sumpW 8)
  | 5 => s.lostE0 i
  | _ => s

/-- This E0 joins the past (R150, R157, R159). -/
def State.syncRemember (s : State) : State :=
  { s with sync.past := (⟨s.sumpW 11, s.sync.thetaObs, s.getR Reg.SYNC_VP_MAG, s.sumpW 17⟩ :: s.sync.past).take 1024 }

/-- SYNC at E0 (R142–R153). -/
def State.syncE0 (s : State) (i : SyncIn) : State :=
  let was := s.sync.gfm
  let s0 := { s with sync.gfm := s.getB Reg.SYNC_CFG 1 }
  if !s.getB Reg.SYNC_CFG 0 || !s.getB Reg.SYNC_VSRC 24 then (s0.syncIdle.gfWords was).syncCopies
  else
    let s1 := if s0.sync.st = 0 then { s0 with sync.lockCnt := 0 }.syncMove 1 else s0
    (((s1.syncObserve i).syncPower.syncMachine i).gfWords was).syncCopies

/-! ## The transitions as commands -/

/-- SYNC_LOCK (R146). -/
def execSyncLock (s : State) : Host.Outcome State Fault Refusal := if s.lockReady then done s.syncLock else done s
/-- SYNC_UNLOCK (R146). -/
def execSyncUnlock (s : State) : Host.Outcome State Fault Refusal := if s.unlockReady then done s.syncUnlock else done s
/-- SYNC_LOST (R151). -/
def execSyncLost (s : State) : Host.Outcome State Fault Refusal :=
  if s.sync.st = 3 && s.coastOver && !s.returnReady then done s.syncLost else done s
/-- LOST_RETURN (R151). -/
def execLostReturn (s : State) : Host.Outcome State Fault Refusal :=
  if s.sync.st = 5 && s.returnReady then done s.lostReturn.syncCopies else done s
/-- JUMP_MEASURE (R152). -/
def execJumpMeasure (s : State) : Host.Outcome State Fault Refusal :=
  if s.sync.st = 3 && s.returnReady then done (s.jumpMeasure (s.sumpW 8)).syncCopies else done s
/-- SLEW_DONE (R153). -/
def execSlewDone (s : State) : Host.Outcome State Fault Refusal :=
  if s.sync.st = 4 && decide (s.sumpW 8 = s.sync.thetaObs) then done s.slewDone else done s

/-! ## Register writes (R148, R164) -/

/-- CFG.MODE changes in CONFIGURE and ARMED only (R148). -/
def State.syncCfgOp (s : State) (data : Word) : State :=
  if bit data 1 != s.getB Reg.SYNC_CFG 1 && !(decide (s.pw.mode = .configure ∨ s.pw.mode = .armed)) then s.refuse Pg.SYNC
  else s.setR Reg.SYNC_CFG (data &&& 3)

/-- SYNC_MODE_WRITE (R148): a write of CFG with EN kept. -/
def execSyncModeWrite (gridForming : Bool) (s : State) : Host.Outcome State Fault Refusal :=
  hostCmd s Pg.SYNC (fun s => s.syncCfgOp (putBit (s.getR Reg.SYNC_CFG) 1 gridForming))

/-- Ranges of the SYNC page (R164). -/
def syncRangeOk (off : Nat) (v : Word) : Bool :=
  let inR := fun lo hi => !fNonFinite v && fleW lo v && fleW v hi
  match off with
  | 0x048 | 0x04C => [0, 8, 16].all (fun lo => !(bit v (lo + 7)) || decide (fld v lo 5 ≤ 15))
  | 0x050 | 0x054 => !fNonFinite v && !(feq (fdec v) (fdec 0)).getD true
  | 0x058 => inR 0x42200000 0x428C0000
  | 0x05C => inR 0x3DCCCCCD 0x40800000
  | 0x060 => fposFin v
  | 0x064 | 0x068 | 0x06C => !fNonFinite v
  | 0x070 => decide (fld v 0 16 ≠ 0)
  | 0x074 => inR 0x3CA3D70A 0x3F000000
  | 0x078 => inR 0 0x3E4CCCCD
  | 0x07C => decide (1 ≤ fld v 0 16 ∧ fld v 0 16 ≤ 10000)
  | 0x080 => decide (1 ≤ fld v 0 9 ∧ fld v 0 9 ≤ 256)
  | 0x084 => decide (fld v 0 8 ≠ 0)
  | 0x088 => inR 0 0x43340000
  | 0x08C => fltW 0 v && fleW v 0x43340000
  | 0x090 => inR 0 0x41F00000
  | 0x098 => inR 0 0x3E4CCCCD
  | 0x09C => inR 0x3DCCCCCD 0x41A00000
  | 0x0A0 => inR 0 0x43480000
  | _ => true

/-- SYNC.STAT (R164). -/
def State.syncStat (s : State) : Word :=
  let y := s.sync
  w32 (min 255 y.settle * 256 + b2n y.gfClamp * 128 + b2n y.fClamp * 64 + b2n y.clamp * 32 + b2n y.gfm * 16 + b2n (y.st = 2) * 8 + y.st)

end Sys2Proof.Machine
end

