-- ==== Sys2Proof/Machine/Ride.lean ====
section
/-! DEFINITION. RIDE: the ride-through sequencer (R154–R158, R165), and the flags word. -/
namespace Sys2Proof.Machine

/-- RIDE acts (R154). -/
def State.rideActs (s : State) : Bool := decide (s.pw.mode = .run) && s.getB Reg.RIDE_CFG 0

/-- Timer index `k` as its point register: LV_PT, HV_PT, UF_PT, OF_PT. -/
def pointReg (k : Nat) : Nat :=
  if k < 8 then Reg.RIDE_LV_PT k else if k < 16 then Reg.RIDE_HV_PT (k - 8) else if k < 20 then Reg.RIDE_UF_PT (k - 16)
  else Reg.RIDE_OF_PT (k - 20)

/-- TRIP_SRC and the point index of timer `k` (R165). -/
def pointSrc (k : Nat) : Nat × Nat :=
  if k < 8 then (1, k) else if k < 16 then (2, k - 8) else if k < 20 then (3, k - 16) else (4, k - 20)

/-- The condition of point `k`: voltage against LEVEL × 0.0001 pu, frequency OMEGA / 2π against LEVEL × 0.01 Hz (R155). -/
def State.pointRuns (s : State) (k : Nat) : Bool :=
  let lv := s.getF (pointReg k) 16 16
  let cmp := fun (w : Word) (scale : Int) => fixOf 149 w * scale - lv * 2 ^ 149
  if lv = 0 then false
  else if k < 8 then decide (cmp (s.getR Reg.SYNC_VPH_MIN) 10000 < 0)
  else if k < 16 then decide (0 < cmp (s.getR Reg.SYNC_VPH_MAX) 10000)
  else if k < 20 then decide (cmp (hzOf (s.sumpW 11)) 100 < 0)
  else decide (0 < cmp (hzOf (s.sumpW 11)) 100)

/-- Timer `k`, in periods. -/
def State.rideTimer (s : State) (k : Nat) : Nat := SMap.get 0 k s.ride.timers

/-- Timer `k` at an E0: it counts, clears, or, for a frequency point in a coast, is held (R155). -/
def State.timerE0 (s : State) (k : Nat) : State :=
  if decide (16 ≤ k) && decide (s.sync.st = 3) then s
  else { s with ride.timers := SMap.set 0 k (if s.pointRuns k then s.rideTimer k + 1 else 0) s.ride.timers }

/-- `n` periods exceed `ms` milliseconds (R155). -/
def State.exceedsMs (s : State) (n ms : Nat) : Bool := decide (ms * 1600000 < n * s.period)

/-- Point `k` fires (R155). -/
def State.pointFires (s : State) (k : Nat) : Bool :=
  decide (s.rideTimer k ≠ 0) && decide (s.getF (pointReg k) 0 16 ≠ 0xFFFF) && s.exceedsMs (s.rideTimer k) (s.getF (pointReg k) 0 16)

/-- The recovery profile, where REC_PROF names one (R158). -/
def State.recProf (s : State) : Option Nat :=
  let h := s.getR Reg.RIDE_REC_PROF
  if s.validFor h 3 then some (hIndex h) else none

/-- A transition of RIDE: counted and logged (R156, R165). -/
def State.rideMove (s : State) (sub cls : Nat) (irqBit : Option Nat) : State :=
  (({ s with ride.sub := sub, ride.exitCnt := 0 }).blockEv Pg.RIDE).logE cls irqBit Pg.RIDE 0 []

/-- Entry to TRIP_REQUEST with its source and point (R156). -/
def State.rideTrip (s : State) (src point : Nat) : State :=
  let s1 := { s with ride.src := src, ride.point := point }
  ((s1.incSat Reg.RIDE_TRIPREQ_CNT).irq Pg.RIDE 1).rideMove 4 3 (some 1)

/-- Entry to SUPPORT or CESSATION from NORMAL or RECOVERY: FSTOP of the recovery profile (R158). -/
def State.rideStop (s : State) : State :=
  match s.recProf with
  | none => s
  | some n =>
    ((s.setR (Reg.PROF_PS_FS_TARGET n) (s.getR Reg.RIDE_REC_START)).setR (Reg.PROF_PS_FS_RATE n) (s.getR Reg.RIDE_REC_FS_RATE)).fstopPend n

/-- One limit the sequencer commits, taken where it is positive and finite (R119, R158). -/
def State.rideLimit (s : State) (a : Nat) (v : Word) : State := if fposFin v then s.setR a v else s

/-- Entry to RECOVERY: TARGET := 1.0 with the recovery limits, and RESUME (R158). -/
def State.rideResume (s : State) : State :=
  match s.recProf with
  | none => s
  | some n =>
    let s1 := s.setR (Reg.PROF_PS_TARGET n) (fclampW 0x3F800000 (s.getR (Reg.PROF_PS_LIM_LO n)) (s.getR (Reg.PROF_PS_LIM_HI n)))
    let s2 := ((s1.rideLimit (Reg.PROF_PS_RATE n) (s.getR Reg.RIDE_REC_RATE)).rideLimit (Reg.PROF_PS_ACCEL n)
      (s.getR Reg.RIDE_REC_ACCEL)).rideLimit (Reg.PROF_PS_JERK n) (s.getR Reg.RIDE_REC_JERK)
    s2.profQueue n 6

/-- What is latched at entry to SUPPORT from NORMAL (R157): `hv` says that the entry was for a high voltage. -/
def State.rideLatch (s : State) (hv : Bool) : State :=
  let past := s.sync.past.take (max 1 (s.getF Reg.RIDE_PRE_T 0 9))
  let vpre := meanW (past.map (·.vp))
  let q := match s.sync.past with
    | [] => 0
    | g :: _ => g.q
  (({ s with ride.hv := hv }).setR Reg.RIDE_V_PRE vpre).setR Reg.RIDE_IQ_PRE (fdivW q vpre).w

/-- Leave NORMAL or RECOVERY for SUPPORT, or for CESSATION when its condition holds (R156–R158). -/
def State.rideEnter (s : State) (cess : Bool) : State :=
  let fromNormal := decide (s.ride.sub = 0)
  let hv := fltW (s.getR Reg.RIDE_HV_ENTER) (s.getR Reg.SYNC_VPH_MAX)
  let s1 := if fromNormal then s.rideLatch hv else s
  let s2 := s1.rideStop
  if cess then s2.rideMove 2 0 none
  else
    let s3 := { s2 with ride.supportAt := s.getR Reg.TIME_PERIOD_CNT }
    let s4 := if fromNormal then (s3.incSat Reg.RIDE_SUPPORT_CNT).irq Pg.RIDE 0 else s3
    s4.rideMove 1 0 (if fromNormal then some 0 else none)

/-- Entry to RECOVERY (R156, R158, R165). -/
def State.rideRecover (s : State) : State :=
  ((s.setR Reg.RIDE_FAULT_PERIODS (s.getR Reg.TIME_PERIOD_CNT - s.ride.supportAt)).rideResume).rideMove 3 0 none

/-- The first firing point, SYNC LOST, or CTRL_REQ.TRIP, as TRIP_SRC and point index (R156). -/
def State.tripCause (s : State) : Option (Nat × Nat) :=
  match (List.range 24).find? s.pointFires with
  | some k => some (pointSrc k)
  | none => if s.sync.st = 5 then some (5, 0) else if (s.sumpW 49).getLsbD 0 then some (6, 0) else none

/-- The exit condition of SUPPORT (R156). -/
def State.exitGood (s : State) : Bool :=
  fleW (s.getR Reg.RIDE_LV_EXIT) (s.getR Reg.SYNC_VPH_MIN) && fleW (s.getR Reg.SYNC_VPH_MAX) (s.getR Reg.RIDE_HV_EXIT)

/-- EXIT_T consecutive good E0s have passed in SUPPORT (R156). -/
def State.recoveryReady (s : State) : Bool := decide (s.ride.sub = 1) && decide (max 1 (s.getF Reg.RIDE_EXIT_T 0 16) ≤ s.ride.exitCnt)

/-- The first matching row of the table of R156. -/
def State.rideTransition (s : State) : State :=
  let sub := s.ride.sub
  let vmin := s.getR Reg.SYNC_VPH_MIN
  let cess := s.getB Reg.RIDE_CFG 1 && fltW vmin (s.getR Reg.RIDE_CESS_ENTER)
  let enter := fltW vmin (s.getR Reg.RIDE_LV_ENTER) || fltW (s.getR Reg.RIDE_HV_ENTER) (s.getR Reg.SYNC_VPH_MAX)
  if sub = 4 then s
  else match s.tripCause with
    | some (src, pt) => s.rideTrip src pt
    | none =>
      if (sub = 1 ∨ sub = 3) && cess then (if sub = 3 then s.rideEnter true else s.rideMove 2 0 none)
      else if sub = 2 && fleW (s.getR Reg.RIDE_CESS_EXIT) vmin then
        { (s.rideMove 1 0 none) with ride.supportAt := s.getR Reg.TIME_PERIOD_CNT }
      else if (sub = 0 ∨ sub = 3) && enter then s.rideEnter cess
      else if s.recoveryReady then s.rideRecover
      else if sub = 3 && (match s.recProf with | none => true | some n => decide ((s.prof n).st = 1)) then s.rideMove 0 0 none
      else s

/-- Words 18 and 19 of the sub-state, reduced while CLAMP = 1 (R153, R157). -/
def State.rideWords (s : State) : State :=
  let imax := s.getR Reg.RIDE_I_MAX
  let iq := s.getR Reg.RIDE_IQ_PRE
  let lim := match s.ride.sub with
    | 0 => imax
    | 1 => s.getR Reg.RIDE_I_SUP
    | 3 => imax
    | _ => 0
  let lim1 := if s.sync.clamp then (fenc (fmin (fdec lim) (fdec (s.getR Reg.RIDE_I_RIDE)))).w else lim
  let neg := fun w => (fenc (fneg (fdec w))).w
  let dv := (fsubW (s.getR Reg.RIDE_V_PRE) (s.getR Reg.SYNC_VP_MAG)).w
  let k := s.getR Reg.RIDE_K_FACTOR
  let (sup, s1) := s.pick2 (fmaW k dv iq).w (faddW iq (fmulW k dv).w).w
  let (q, s2) := match s.ride.sub with
    | 1 => (fclampW sup (neg lim1) lim1, s1)
    | 3 => (fclampW iq (neg lim1) lim1, s)
    | _ => (0, s)
  ((s2.setSump 18 q).setSump 19 lim1)

/-- The copies of RIDE's words in its page (R165). -/
def State.rideCopies (s : State) : State := (s.setR Reg.RIDE_IQ_RIDE_V (s.sumpW 18)).setR Reg.RIDE_I_LIM_V (s.sumpW 19)

/-- Word 6: 0 outside RUN (R144, R154). -/
def State.rideSubWord (s : State) : State := s.setSump 6 (w32 s.ride.sub)

/-- On entry to RUN the recovery profile stands at 1.0, SETTLED (R154). -/
def State.rideRunEntry (s : State) : State :=
  match s.recProf with
  | none => s
  | some n => (s.setProf n { s.prof n with st := 1, ended := false }).setYva n 0x3F800000 0 0

/-- RIDE at E0 (R154–R158). -/
def State.rideE0 (s : State) : State :=
  let run := decide (s.pw.mode = .run)
  let s0 := if run && !s.ride.wasRun then s.rideRunEntry else s
  let s1 := { s0 with ride.wasRun := run }
  if !s1.rideActs then
    let s2 := { s1 with ride.sub := 0, ride.timers := [], ride.exitCnt := 0, ride.hv := false }
    (((s2.setSump 6 0).setSump 18 0).setSump 19 (s1.getR Reg.RIDE_I_MAX)).rideCopies
  else
    let s2 := (List.range 24).foldl State.timerE0 s1
    let s3 := { s2 with ride.exitCnt := if s2.ride.sub = 1 && s2.exitGood then s2.ride.exitCnt + 1 else 0 }
    s3.rideTransition.rideSubWord.rideWords.rideCopies

/-- RIDE_POINT_FIRE (R155): a curve point has fired; timers are numbered as in `pointReg`. -/
def execRidePointFire (point : Fin 24) (s : State) : Host.Outcome State Fault Refusal :=
  if s.rideActs && decide (s.ride.sub ≠ 4) && s.pointFires point then
    let k := pointSrc point
    done (s.rideTrip k.1 k.2).rideSubWord.rideWords.rideCopies
  else done s

/-- RIDE_RECOVERY (R156). -/
def execRideRecovery (s : State) : Host.Outcome State Fault Refusal :=
  if s.rideActs && s.recoveryReady then done s.rideRecover.rideSubWord.rideWords.rideCopies else done s

/-! ## Registers (R154, R158, R165) -/

/-- Ranges of the RIDE page (R165). -/
def State.rideRangeOk (s : State) (off : Nat) (v : Word) : Bool :=
  let inR := fun lo hi => !fNonFinite v && fleW lo v && fleW v hi
  let one : Word := 0x3F800000
  let two : Word := 0x40000000
  match off with
  | 0x048 => inR 0 one && fleW v (s.getR Reg.RIDE_LV_EXIT) && fltW (s.getR Reg.RIDE_CESS_ENTER) v
  | 0x04C => !fNonFinite v && fleW (s.getR Reg.RIDE_LV_ENTER) v
  | 0x050 => inR one two && fleW (s.getR Reg.RIDE_HV_EXIT) v
  | 0x054 => !fNonFinite v && fleW v (s.getR Reg.RIDE_HV_ENTER)
  | 0x058 => !fNonFinite v && fltW v (s.getR Reg.RIDE_LV_ENTER) && fleW v (s.getR Reg.RIDE_CESS_EXIT)
  | 0x05C => !fNonFinite v && fleW (s.getR Reg.RIDE_CESS_ENTER) v
  | 0x060 => decide (fld v 0 16 ≠ 0)
  | 0x064 => inR 0 0x41200000
  | 0x068 => decide (1 ≤ fld v 0 9 ∧ fld v 0 9 ≤ 256)
  | 0x06C | 0x070 | 0x074 => inR 0 two
  | 0x07C => inR 0 one
  | 0x080 | 0x084 | 0x088 | 0x08C => !fNonFinite v
  | _ =>
    if 0x100 ≤ off then decide (fld v 16 16 = 0 ∨ (4000 ≤ fld v 16 16 ∧ fld v 16 16 ≤ 7000)) else true

/-- A host write to RIDE: 0x048 to 0x08C and the points in CONFIGURE and ARMED only (R154); REC_PROF names an owned profile or null
(R158). -/
def State.rideWriteOp (s : State) (off : Nat) (data : Word) : State :=
  let a := pageBase Pg.RIDE + off
  if off = 0x040 then s.setR a (data &&& 7)
  else if !(decide (s.pw.mode = .configure ∨ s.pw.mode = .armed)) then s.refuse Pg.RIDE
  else if off = 0x078 then
    if data = 0 then s.setR a 0
    else if !s.validFor data 3 then s.stale data a
    else if s.getB (Reg.PROF_PS_CFG (hIndex data)) 0 then s.setR a data else s.refuse Pg.RIDE
  else if s.rideRangeOk off data then
    s.setR a (data &&& (if off = 0x060 then 0xFFFF else if off = 0x068 then 0x1FF else 0xFFFFFFFF))
  else s.refuse Pg.RIDE

/-- RIDE.STAT (R165). -/
def State.rideStat (s : State) : Word :=
  w32 (s.ride.point * 256 + s.ride.src * 16 + b2n s.ride.hv * 8 + s.ride.sub)

/-- The ride request line to the Guard (R163). -/
def State.rideReqLineNow (s : State) : Bool := decide (s.ride.sub = 4)

end Sys2Proof.Machine
end

