-- ==== Sys2Proof/Machine/Isld.lean ====
section
/-! DEFINITION. ISLD: islanding detection (R159–R163, R166), and Sump word 7. -/
namespace Sys2Proof.Machine

/-- The detectors are held while a ride-through is under way (R161). -/
def State.isldBlocked (s : State) : Bool := s.getB Reg.ISLD_CFG 5 && decide (s.sumpW 6 ≠ 0)

/-- Injection is suspended (R160). -/
def State.isldInert (s : State) : Bool :=
  s.sync.gfm || decide (s.sync.st ≠ 2) || (s.sumpW 49).getLsbD 1 || s.isldBlocked

/-- The frequency OMEGA / 2π `k` E0s ago, in Hz; `k` counts from 1. -/
def State.pastHz (s : State) (k : Nat) : Option Word := (s.sync.past[k - 1]?).map (fun g => hzOf g.omega)

/-- Frequency now, in Hz. -/
def State.hzNow (s : State) : Word := hzOf (s.sumpW 11)

/-- ROCOF over its window, where the window is filled (R159). -/
def State.rocof (s : State) : Option Word :=
  let w := s.getF Reg.ISLD_ROCOF_WIN 0 11
  (s.pastHz w).map (fun f0 => (fdivW (fsubW s.hzNow f0).w (fmulW (fi2f (w32 w)) s.tS).w).w)

/-- The vector shift in degrees: wrap(θobs(n) − θobs(n − VS_WIN) − ω̄ × VS_WIN × T_S), ω̄ the mean OMEGA over the 256 E0s ending VS_WIN
E0s earlier (R159). -/
def State.vectorShift (s : State) : Option Word :=
  let w := s.getF Reg.ISLD_VS_WIN 0 8
  let back := (s.sync.past.drop (w - 1)).take 256
  if back.length < 256 then none
  else
    match s.sync.past[w - 1]? with
    | none => none
    | some g =>
      let om := meanW (back.map (·.omega))
      let adv := turnsOf (fmulW (fmulW om (fi2f (w32 w))).w s.tS).w
      some (degOfTurns (wrapTurns (turnsOf s.sync.thetaObs - turnsOf g.thetaObs - adv)))

/-- Deviation of the frequency from F_NOM (R159). -/
def State.freqDev (s : State) : Word := (fsubW s.hzNow (s.getR Reg.SYNC_F_NOM)).w

/-- A decision of method `m` (1 to 4): the first latches REQ and SRC and counts; a later one is logged only (R161). -/
def State.isldDecide (s : State) (m : Nat) : State :=
  let s1 := { s with isld.decided := s.isld.decided ||| (1 <<< (m - 1)) }
  if s.isld.req then s1.logE 2 none Pg.ISLD 0 []
  else
    let s2 := { s1 with isld.req := true, isld.src := m }
    ((s2.incSat Reg.ISLD_DET_CNT).blockEv Pg.ISLD).irqLog 2 0 Pg.ISLD 0 []

/-- The decision condition of method `m` holds (R159). -/
def State.isldDue (s : State) (m : Nat) : Bool :=
  match m with
  | 1 => s.getB Reg.ISLD_CFG 0 && !s.isldBlocked && decide (s.isld.rocofT ≠ 0) && s.exceedsMs s.isld.rocofT (s.getF Reg.ISLD_ROCOF_T 0 16)
  | 2 => s.getB Reg.ISLD_CFG 1 && !s.isldBlocked && (match s.vectorShift with
      | none => false
      | some v => fltW (s.getR Reg.ISLD_VS_TH) (fabsW v))
  | 3 => decide (s.getF Reg.ISLD_CFG 2 2 ≠ 0) && !s.isldBlocked && decide (s.isld.afT ≠ 0) && s.exceedsMs s.isld.afT (s.getF Reg.ISLD_AF_T 0 16)
  | 4 => s.getB Reg.ISLD_CFG 4 && s.gooseIsld
  | _ => false

/-- A decision is taken when its condition comes to hold; the record of it falls when the condition does (R161). -/
def State.isldJudge (s : State) (m : Nat) : State :=
  if s.isldDue m then (if s.isld.decided.getLsbD (m - 1) then s else s.isldDecide m)
  else if s.isldBlocked && decide (m ≠ 4) then s
  else { s with isld.decided := s.isld.decided &&& ~~~((1 : BitVec 4) <<< (m - 1)) }

/-- The timers of an E0; held while blocked (R159, R161). -/
def State.isldTimers (s : State) : State :=
  let s1 := match s.rocof with
    | some v => s.setR Reg.ISLD_ROCOF_V v
    | none => s
  let s2 := match s.vectorShift with
    | some v => s1.setR Reg.ISLD_VS_V v
    | none => s1
  if s.isldBlocked then s2
  else
    let r := s.getB Reg.ISLD_CFG 0 && (match s.rocof with
      | some v => fltW (s.getR Reg.ISLD_ROCOF_TH) (fabsW v)
      | none => false)
    let a := decide (s.getF Reg.ISLD_CFG 2 2 ≠ 0) && fltW (s.getR Reg.ISLD_AF_TH) (fabsW s.freqDev)
    { s2 with isld.rocofT := if r then s.isld.rocofT + 1 else 0, isld.afT := if a then s.isld.afT + 1 else 0 }

/-- Words 20 and 21 of the active injection (R160). -/
def State.isldInject (s : State) : State :=
  let neg := fun w => (fenc (fneg (fdec w))).w
  let sel := s.getF Reg.ISLD_CFG 2 2
  let s0 := { s with isld.inert := s.isldInert }
  if s.isldInert then (s0.setSump 20 0).setSump 21 0
  else if sel = 1 then
    let kf := s.getR Reg.ISLD_KF
    let (raw, s1) := s0.pick2 (fmaW kf s.freqDev (s.getR Reg.ISLD_CF0)).w (faddW (s.getR Reg.ISLD_CF0) (fmulW kf s.freqDev).w).w
    (s1.setSump 20 (fclampW raw (neg (s.getR Reg.ISLD_DF_MAX)) (s.getR Reg.ISLD_DF_MAX))).setSump 21 0
  else if sel = 2 then
    let per := max 2 (s.getF Reg.ISLD_QV_PER 0 24)
    let amp := s.getR Reg.ISLD_QV_AMP
    (s0.setSump 20 0).setSump 21 (if (s.getR Reg.TIME_PERIOD_CNT).toNat % per < per / 2 then amp else neg amp)
  else (s0.setSump 20 0).setSump 21 0

/-- The copies of ISLD's words in its page (R166). -/
def State.isldCopies (s : State) : State := (s.setR Reg.ISLD_DF_V (s.sumpW 20)).setR Reg.ISLD_DQ_V (s.sumpW 21)

/-- ISLD at E0: only in RUN (R159). -/
def State.isldE0 (s : State) : State :=
  if s.pw.mode ≠ .run then
    ((({ s with isld.rocofT := 0, isld.afT := 0, isld.decided := 0, isld.inert := false }).setSump 20 0).setSump 21 0).isldCopies
  else
    ([1, 2, 3, 4].foldl State.isldJudge s.isldTimers).isldInject.isldCopies

/-- Word 7, the flags of the three machines (R144). -/
def State.flagsWord (s : State) : Word :=
  w32 (b2n (s.sync.st = 2) + b2n (s.sync.st = 3) * 2 + b2n (s.sync.st = 4) * 4 + b2n (s.sync.st = 5) * 8 + b2n s.sync.gfm * 16 +
    b2n s.sync.clamp * 32 + b2n (s.ride.sub = 2) * 64 + b2n (s.getB Reg.RIDE_CFG 2) * 128 + b2n s.ride.hv * 256 + b2n s.isld.req * 512 +
    b2n s.isld.inert * 1024)

/-- SYNC, RIDE and ISLD at E0, in order, and the flags they give (R143). -/
def State.policyE0 (s : State) (i : SyncIn) : State :=
  let s1 := ((s.syncE0 i).rideE0).isldE0
  let s2 := s1.setSump 7 s1.flagsWord
  if s2.sync.st = 0 then s2 else s2.syncRemember

/-- ISLD_DECISION (R161): method `m` + 1 has reached its decision. -/
def execIsldDecision (method : Fin 4) (s : State) : Host.Outcome State Fault Refusal :=
  if s.pw.mode = .run && s.isldDue (method.val + 1) && !s.isld.decided.getLsbD method then
    let s1 := s.isldDecide (method.val + 1)
    done (s1.setSump 7 s1.flagsWord).guardReqs
  else done s

/-- ISLD.CLR clears REQ outside RUN, and is refused in RUN (R161). -/
def State.isldClrOp (s : State) : State :=
  if s.pw.mode = .run then s.refuse Pg.ISLD else { s with isld.req := false, isld.src := 0 }.guardReqs

/-- ISLD_CLR (R161). -/
def execIsldClr (s : State) : Host.Outcome State Fault Refusal := hostCmd s Pg.ISLD State.isldClrOp

/-- Ranges of the ISLD page (R166). -/
def isldRangeOk (off : Nat) (v : Word) : Bool :=
  let inR := fun lo hi => !fNonFinite v && fleW lo v && fleW v hi
  match off with
  | 0x048 => inR 0x3D4CCCCD 0x41200000
  | 0x04C => decide (16 ≤ fld v 0 11 ∧ fld v 0 11 ≤ 1024)
  | 0x050 => decide (fld v 0 16 ≤ 1700)
  | 0x054 => inR 0x40000000 0x42700000
  | 0x058 => decide (fld v 0 8 ≠ 0)
  | 0x05C => inR 0 0x3F800000
  | 0x060 => inR 0xBF800000 0x3F800000
  | 0x064 => inR 0 0x40000000
  | 0x068 => inR 0 0x3E4CCCCD
  | 0x06C => decide (2 ≤ fld v 0 24 ∧ fld v 0 24 % 2 = 0)
  | 0x070 => inR 0x3D4CCCCD 0x40A00000
  | 0x074 => decide (fld v 0 16 ≤ 1800)
  | _ => true

/-- A host write to a setting of ISLD: in CONFIGURE and ARMED only, within its range (R159). -/
def State.isldWriteOp (s : State) (off : Nat) (data mask : Word) : State :=
  if (s.pw.mode = .configure ∨ s.pw.mode = .armed) && isldRangeOk off data then s.setR (pageBase Pg.ISLD + off) (data &&& mask)
  else s.refuse Pg.ISLD

/-- ISLD.STAT (R166). -/
def State.isldStat (s : State) : Word := w32 (s.isld.src * 16 + b2n s.isld.inert * 2 + b2n s.isld.req)

end Sys2Proof.Machine
end

