-- ==== Sys2Proof/Machine/Lanes.lean ====
section
/-! DEFINITION. The commands of the Wiled lanes (spec/12_wiled_lanes.md). -/
namespace Sys2Proof.Machine

/-- A recognised TRIP (R234, R266): not the second copy of a pair; counted and reported; a Cell forwards it outbound and enters SAFE. -/
def State.tripMarker (s : State) (n : Nat) : State :=
  let again := (s.lane n).tripAt.any (fun t => decide (s.clk.tick ≤ t + 16 + 7))
  let s1 := s.modLane n (fun l => { l with tripAt := some s.clk.tick })
  if again then s1
  else
    let s2 := (s1.incSat (Reg.LANEn_TRIP_RX_CNT n)).irq (Pg.LANEn n) 3
    if s.pw.role = .cell && decide (s.servingLane = n) then (s2.lineTrip (2 - n)).enterSafe SafeCause.wellhead else s2

/-- TRIP_MARKER_RECEIVED (R234). -/
def execTripMarkerReceived (lane : Fin 16) (s : State) : Host.Outcome State Fault Refusal :=
  if s.laneUsed lane && isData lane && (s.lane lane).sync then done (s.tripMarker lane) else done s

/-- CODE_VIOLATION (R233, R236, R238): counted; on a data lane 16 within 65,536 UI end SYNC. -/
def execCodeViolation (lane : Fin 16) (s : State) : Host.Outcome State Fault Refusal :=
  if !s.laneUsed lane || decide (s.laneMode lane ≠ 1) then done s
  else
    let s1 := s.incSat (Reg.LANEn_CODE_ERR_CNT lane)
    if !isData lane then done s1
    else
      let now := s.clk.tick
      let recent := ((s.lane lane).viol.filter (fun t => decide (now < t + 16384))) ++ [now]
      let s2 := s1.modLane lane (fun l => { l with viol := recent, clean := now })
      if 16 ≤ recent.length then done (s2.syncLoss lane) else done s2

/-- CDR_LOCK (R235). -/
def execCdrLock (lane : Fin 16) (s : State) : Host.Outcome State Fault Refusal :=
  if !s.laneUsed lane || decide (s.laneMode lane = 0) || (s.lane lane).cdr then done s
  else done (s.modLane lane (fun l => { l with cdr := true, clean := s.clk.tick, viol := [] }))

/-- CDR_LOCK_LOSS (R235, R236). -/
def execCdrLockLoss (lane : Fin 16) (s : State) : Host.Outcome State Fault Refusal :=
  if (s.lane lane).cdr then done (s.cdrLoss lane) else done s

/-- LANE_SYNC (R236): 4,096 UI, 1,024 edge ticks, without a violation after CDR_LOCK. -/
def execLaneSync (lane : Fin 16) (s : State) : Host.Outcome State Fault Refusal :=
  let l := s.lane lane
  if !isData lane || !l.cdr || l.sync || decide (s.laneMode lane ≠ 1) then done s
  else done ((s.advanceTo (l.clean + 1024)).modLane lane (fun l => { l with sync := true, viol := [] }))

/-- The checks of FOM against FOM_LIM (R241), and the lowest FOM of the lane (R414). -/
def State.fomChecks (s : State) (n fom : Nat) : State :=
  let lim := s.getR (Reg.LANEn_FOM_LIM n)
  let warn := fld lim 0 8
  let failN := max 1 (fld lim 16 4)
  let l := s.lane n
  let s1 := if fom < warn && !l.fomWarn then (s.modLane n (fun l => { l with fomWarn := true })).irqLog 1 1 (Pg.LANEn n) 0 []
    else if warn + 8 ≤ fom then s.modLane n (fun l => { l with fomWarn := false }) else s
  let fr := if fom < fld lim 8 8 then min 16 (l.failRun + 1) else 0
  let ok := if warn ≤ fom then min 4 (l.okRun + 1) else 0
  let s2 := s1.modLane n (fun l => { l with failRun := fr, okRun := ok })
  if failN ≤ fr && !l.fomFail then (s2.modLane n (fun l => { l with fomFail := true })).irqLog 2 2 (Pg.LANEn n) 0 []
  else if 4 ≤ ok then s2.modLane n (fun l => { l with fomFail := false }) else s2

/-- EYE_SWEEP_END (R240, R241): the counts of open steps in the four directions. -/
def execEyeSweepEnd (lane : Fin 16) (early late up down : Fin 33) (s : State) : Host.Outcome State Fault Refusal :=
  if !s.laneUsed lane || decide (s.laneMode lane ≠ 1) || s.getB (Reg.LANEn_CTRL lane) 6 then done s
  else
    let h := early.val + late.val
    let v := up.val + down.val
    let fom := min 255 (4 * min h v)
    let n := s.getF (Reg.LANEn_FOM lane) 24 8
    let s1 := s.setR (Reg.LANEn_FOM lane) (w32 (fom + 2 ^ 8 * h + 2 ^ 16 * v + 2 ^ 24 * ((n + 1) % 256)))
    let s2 := s1.modLane lane (fun l => { l with fomFrom := l.sweepAt, sweepAt := s.clk.tick })
    let s3 := s2.modR (Reg.TEST_LANE_MIN lane) (fun w => if fom < w.toNat then w32 fom else w)
    done (s3.fomChecks lane fom)

/-- A write to EYE_CMD: only with EYE_MAN = 1; START measures the point (R240). -/
def State.eyeCmdOp (s : State) (n : Nat) (data : Word) : State :=
  if !s.getB (Reg.LANEn_CTRL n) 6 then s.refuse (Pg.LANEn n)
  else
    let s1 := s.setR (Reg.LANEn_EYE_CMD n) (data &&& 0x3F3F)
    if bit data 16 then (s1.setR (Reg.LANEn_EYE_RES n) 0).modLane n (fun l => { l with eyeAt := some s.clk.tick }) else s1

/-- EYE_POINT_START (R240): EYE_CMD written with START = 1. -/
def execEyePointStart (lane : Fin 16) (data : Word) (s : State) : Host.Outcome State Fault Refusal :=
  hostCmd s (Pg.LANEn lane) (fun s => s.eyeCmdOp lane (data ||| 0x10000))

/-- EYE_POINT_DONE (R240): after 65,536 UI, 10.24 µs; the point is open when the samplers never disagreed. -/
def execEyePointDone (lane : Fin 16) (disagree : BitVec 17) (s : State) : Host.Outcome State Fault Refusal :=
  match (s.lane lane).eyeAt with
  | none => done s
  | some t =>
    let d := disagree.toNat
    done (((s.advanceTo (t + 16384)).modLane lane (fun l => { l with eyeAt := none })).setR (Reg.LANEn_EYE_RES lane)
      (w32 (1 + 2 * b2n (decide (d = 0)) + 2 ^ 16 * min d 65535)))

/-! ## Adaptation -/

/-- A receiver parameter of RX_EQ: 0 CTLE, 1–3 DFE1–3 (R242). -/
def eqField (w : Word) (p : Nat) : Int := if p = 0 then fld w 0 3 else signedFld w (8 * p) 6
/-- RX_EQ with a parameter replaced. -/
def eqPut (w : Word) (p : Nat) (v : Int) : Word :=
  if p = 0 then putFld w 0 3 v.toNat else putFld w (8 * p) 6 (v % 64).toNat
/-- The parameter stays within its range (R242). -/
def eqInside (p : Nat) (v : Int) : Bool := if p = 0 then decide (0 ≤ v ∧ v ≤ 7) else decide (-32 ≤ v ∧ v ≤ 31)

/-- Does parameter `p` take part in the rotation of lane `n` (R242, R243)? -/
def State.parUsed (s : State) (n p : Nat) : Bool :=
  if p = 0 then s.getB (Reg.LANEn_ADAPT_CFG n) 16
  else if p ≤ 3 then s.getB (Reg.LANEn_ADAPT_CFG n) 16 && isData n
  else s.getB (Reg.LANEn_ADAPT_CFG n) 17

/-- The next parameter of the rotation after `p`, among `k` more (R243). -/
def State.nextPar (s : State) (n p : Nat) : Nat → Option Nat
  | 0 => none
  | k + 1 => let q := (p + 1) % 7; if s.parUsed n q then some q else State.nextPar s n q k

/-- The device at the far end of a Wellhead's port `p`: position 0, port 0, or from a B end the last position, port 1 (R248). -/
def State.farOfPort (s : State) (p : Nat) : Nat × Nat :=
  if s.pw.role = .standby then (s.slots p - 1, 1)
  else match s.tailRing p with
    | some m => (s.slots m - 1, 1)
    | none => (0, 0)

/-- The tune request of lane `n` for its far transmitter: one step of tap `tap` (R244). The far transmitter of a Cell's lane is the
neighbour on that port, or the Wellhead beyond position 0. -/
def State.tuneWord (s : State) (n tap : Nat) (up : Bool) : BitVec 16 :=
  let pos := s.getF Reg.CELL_POSITION 0 7
  let (target, port) :=
    if s.pw.role = .cell then
      if n < 2 then (if pos = 0 then (127, 0) else (pos - 1, 1)) else (pos + 1, 0)
    else s.farOfPort (n / 2)
  BitVec.ofNat 16 (target % 128 * 2 ^ 8 + n % 2 * 2 ^ 7 + tap * 2 ^ 4 + (if up then 1 else 2) * 2 ^ 2 + port * 2)

/-- A trial is undone: the parameter returns, or the far transmitter is asked for the opposite step (R243). -/
def State.trialRevert (s : State) (n : Nat) : State :=
  let l := s.lane n
  if l.par ≤ 3 then s.setR (Reg.LANEn_RX_EQ n) l.eqBefore
  else s.modLane n (fun l => { l with tuneReq := some (s.tuneWord n (l.par - 4) (l.dirs.getLsbD l.par)) })

/-- A new trial: the next parameter, in the direction opposite to its last one (R243). Direction bit 1 is downward. -/
def State.trialStart (s : State) (n fom : Nat) : State :=
  match s.nextPar n (s.lane n).par 7 with
  | none => s
  | some p =>
    let s1 := s.modLane n (fun l => { l with par := p, dirs := l.dirs ^^^ (1 <<< p) })
    let down := (s1.lane n).dirs.getLsbD p
    let start (t : State) : State :=
      t.modLane n (fun l => { l with trial := true, trialAt := s.clk.tick, fomBefore := fom, eqBefore := s.getR (Reg.LANEn_RX_EQ n) })
    if p ≤ 3 then
      let eq := s.getR (Reg.LANEn_RX_EQ n)
      let v := eqField eq p + (if down then -1 else 1)
      if eqInside p v then start (s1.setR (Reg.LANEn_RX_EQ n) (eqPut eq p v)) else s1
    else start (s1.modLane n (fun l => { l with tuneReq := some (s.tuneWord n (p - 4) (!down)) }))

/-- One decision of the adaptation machine (R243). -/
def State.adaptStep (s : State) (n : Nat) : State :=
  let l := s.lane n
  let fom := s.getF (Reg.LANEn_FOM n) 0 8
  let s0 := s.modLane n (fun l => { l with adPeriods := 0 })
  if fom < s.getF (Reg.LANEn_FOM_LIM n) 0 8 then
    let s1 := if l.trial then s0.trialRevert n else s0
    (s1.setR (Reg.LANEn_RX_EQ n) (s1.getR (Reg.LANEn_EQ_BEST n))).modLane n (fun l => { l with trial := false, suspended := true })
  else
    let s1 := s0.modLane n (fun l => { l with suspended := false })
    if l.trial then
      if l.fomFrom < l.trialAt then s1
      else if l.fomBefore + s.getF (Reg.LANEn_ADAPT_CFG n) 8 4 ≤ fom then
        let s2 := s1.modLane n (fun l => { l with trial := false, kept := (l.kept + 1) % 2 ^ 16 })
        if l.fomBest < fom then
          (s2.setR (Reg.LANEn_EQ_BEST n) (s2.getR (Reg.LANEn_RX_EQ n))).modLane n (fun l => { l with fomBest := fom })
        else s2
      else (s1.trialRevert n).modLane n (fun l => { l with trial := false })
    else s1.trialStart n fom

/-- Periods of the interval under way: longer for a trial on the far transmitter (R243). -/
def State.adaptInterval (s : State) (n : Nat) : Nat :=
  let cfg := s.getR (Reg.LANEn_ADAPT_CFG n)
  let l := s.lane n
  fld cfg 0 8 + (if l.trial && decide (4 ≤ l.par) then max 3 (fld cfg 12 4) else 0)

/-- ADAPT_DECISION (R243): at the E0 that ends an interval. -/
def execAdaptDecision (lane : Fin 16) (s : State) : Host.Outcome State Fault Refusal :=
  if s.laneUsed lane && s.getB (Reg.LANEn_CTRL lane) 4 && !s.getB (Reg.LANEn_CTRL lane) 6 &&
      decide (s.adaptInterval lane ≤ (s.lane lane).adPeriods) then done (s.adaptStep lane)
  else done s

/-- TX_FFE after one step of a tap; none where it would leave the ranges of R242. -/
def ffeStep (w : Word) (tap : Nat) (up : Bool) : Option Word :=
  let lo := if tap = 0 then 0 else if tap = 1 then 8 else 16
  let len := if tap = 1 then 4 else 3
  let v := fld w lo len
  if up && decide (v + 1 = 2 ^ len) || !up && decide (v = 0) then none
  else
    let w1 := putFld w lo len (if up then v + 1 else v - 1)
    let sum := fld w1 0 3 + fld w1 8 4 + fld w1 16 3
    if 63 - sum < 32 then none else some (putFld w1 24 6 (63 - sum))

/-- A command of the tune word acts on TX_FFE (R244). -/
def State.tuneApply (s : State) (n : Nat) (c : BitVec 16) : State :=
  let act := c.toNat / 4 % 4
  let tap := c.toNat / 16 % 8
  if act = 0 ∨ act = 3 then s
  else
    let w := s.getR (Reg.LANEn_TX_FFE n)
    let r := if tap = 3 then some (0x3F000000 : Word) else if tap ≤ 2 then ffeStep w tap (decide (act = 1)) else none
    match r with
    | none => s.setF (Reg.LANEn_TUNE_STAT n) 24 8 (satInc 8 (s.getF (Reg.LANEn_TUNE_STAT n) 24 8))
    | some v =>
      let k := s.getF (Reg.LANEn_TUNE_STAT n) 16 8
      (((s.setR (Reg.LANEn_TX_FFE n) v).setF (Reg.LANEn_TUNE_STAT n) 0 16 c.toNat).setF (Reg.LANEn_TUNE_STAT n) 16 8 (k + 1)).irq
        (Pg.LANEn n) 6

/-- TUNE_COMMAND_APPLY (R244): at the E0 after a command naming the lane came; only with TUNE_EN = 1. -/
def execTuneCommandApply (lane : Fin 16) (s : State) : Host.Outcome State Fault Refusal :=
  match (s.lane lane).tuneCmd with
  | none => done s
  | some c =>
    if !(s.lane lane).tuneDue then done s
    else
      let s1 := s.modLane lane (fun l => { l with tuneCmd := none, tuneDue := false })
      if s1.getB (Reg.LANEn_CTRL lane) 5 then done (s1.tuneApply lane c) else done s1

/-! ## Test patterns -/

/-- PRBS_LOCK (R245): 64 consecutive matching bits. -/
def execPrbsLock (lane : Fin 16) (s : State) : Host.Outcome State Fault Refusal :=
  if !s.laneUsed lane || !s.laneTest lane || (s.lane lane).prbsFrom.isSome then done s
  else done (s.modLane lane (fun l => { l with prbsFrom := some s.clk.tick, prbsRecent := [] }))

/-- PRBS_ERROR (R245): a checked bit in error; 64 within 1,024 UI clear LOCK. -/
def execPrbsError (lane : Fin 16) (s : State) : Host.Outcome State Fault Refusal :=
  if !s.laneTest lane || (s.lane lane).prbsFrom.isNone then done s
  else
    let now := s.clk.tick
    let recent := ((s.lane lane).prbsRecent.filter (fun t => decide (now < t + 256))) ++ [now]
    let s1 := s.modLane lane (fun l => { l with prbsErrs := min (2 ^ 48 - 1) (l.prbsErrs + 1), prbsRecent := recent })
    let s2 := if s1.getB (Reg.LANEn_PRBS_STAT lane) 1 then s1
      else (s1.setB (Reg.LANEn_PRBS_STAT lane) 1 true).irq (Pg.LANEn lane) 5
    if 64 ≤ recent.length then
      done (s2.modLane lane (fun l => { l with prbsFrom := none, prbsBits := s2.prbsBits lane, prbsRecent := [] }))
    else done s2

/-- `k` transmitted bits are inverted; refused outside TEST and LOOPBACK (R245). -/
def State.prbsInjOp (s : State) (n k : Nat) : State :=
  if s.laneTest n then s.setR (Reg.LANEn_PRBS_INJ_CNT n) (w32 (satAdd 32 (s.getR (Reg.LANEn_PRBS_INJ_CNT n)).toNat k))
  else s.refuse (Pg.LANEn n)

/-- PRBS_INJECT_SINGLE (R245). -/
def execPrbsInjectSingle (lane : Fin 16) (s : State) : Host.Outcome State Fault Refusal :=
  hostCmd s (Pg.LANEn lane) (fun s => s.prbsInjOp lane 1)

/-- PRBS_INJECT_BURST (R245): LEN bits, 0 taken as 1. -/
def execPrbsInjectBurst (lane : Fin 16) (len : BitVec 8) (s : State) : Host.Outcome State Fault Refusal :=
  hostCmd s (Pg.LANEn lane) (fun s => s.prbsInjOp lane (max 1 len.toNat))

/-! ## Registers -/

/-- A write to CTRL: on an owned lane no change of MODE, TX_POL or RX_POL (R226). -/
def State.laneCtrlOp (s : State) (n : Nat) (data : Word) : State :=
  if (s.lane n).owned && decide ((data ^^^ s.getR (Reg.LANEn_CTRL n)) &&& 0xF ≠ 0) then s.refuse (Pg.LANEn n)
  else (s.laneModeSet n (fld data 0 2)).setR (Reg.LANEn_CTRL n) (data &&& 0x7F)

/-- LANE_CTRL_WRITE (R226). -/
def execLaneCtrlWrite (lane : Fin 16) (data : Word) (s : State) : Host.Outcome State Fault Refusal :=
  hostCmd s (Pg.LANEn lane) (fun s => s.laneCtrlOp lane data)

/-- CLEAR bit 0 (R247): the counters at 0x070–0x088 and TUNE_STAT[31:16]. -/
def State.laneClearOp (s : State) (n : Nat) : State :=
  let s1 := [Reg.LANEn_CODE_ERR_CNT n, Reg.LANEn_TSTART_CNT n, Reg.LANEn_TRIP_RX_CNT n, Reg.LANEn_SYNC_LOSS_CNT n,
    Reg.LANEn_MARK_CNT n, Reg.LANEn_MARK_MISS_CNT n].foldl (fun s a => s.setR a 0) s
  ((s1.lineCatch n).modLane n (fun l => { l with tx := { l.tx with stuffed := 0 } })).setF (Reg.LANEn_TUNE_STAT n) 16 16 0

/-- LANE_CLEAR_COUNTERS (R247). -/
def execLaneClearCounters (lane : Fin 16) (s : State) : Host.Outcome State Fault Refusal :=
  hostCmd s (Pg.LANEn lane) (fun s => s.laneClearOp lane)

/-- CLEAR bit 1 (R247): the PRBS counters and PRBS_STAT[1]. -/
def State.laneClearPrbsOp (s : State) (n : Nat) : State :=
  let s1 := s.modLane n (fun l => { l with prbsBits := 0, prbsErrs := 0, prbsFrom := l.prbsFrom.map (fun _ => s.clk.tick) })
  (s1.setB (Reg.LANEn_PRBS_STAT n) 1 false).setR (Reg.LANEn_PRBS_INJ_CNT n) 0

/-- LANE_CLEAR_PRBS (R247). -/
def execLaneClearPrbs (lane : Fin 16) (s : State) : Host.Outcome State Fault Refusal :=
  hostCmd s (Pg.LANEn lane) (fun s => s.laneClearPrbsOp lane)

/-- Host writes to the other registers of a lane (R241, R242, R244, R247); values are taken by the lane at the next E0. -/
def State.laneRegOp (s : State) (n off : Nat) (data : Word) : State :=
  let l := s.lane n
  let p := Pg.LANEn n
  match off with
  | 0x4C =>
    let sum := fld data 0 3 + fld data 8 4 + fld data 16 3
    if (l.owned && s.getB (Reg.LANEn_CTRL n) 5) || decide (63 - sum < 32) then s.refuse p
    else s.setR (Reg.LANEn_TX_FFE n) (putFld (data &&& 0x70F07) 24 6 (63 - sum))
  | 0x50 =>
    if s.getB (Reg.LANEn_CTRL n) 4 || (!isData n && decide (data &&& 0x3F3F3F00 ≠ 0)) then s.refuse p
    else s.setR (Reg.LANEn_RX_EQ n) (data &&& 0x3F3F3F07)
  | 0x58 => if fld data 0 8 < 32 then s.refuse p else s.setR (Reg.LANEn_ADAPT_CFG n) (data &&& 0x3FFFF)
  | 0x64 => if fld data 0 8 ≤ fld data 8 8 then s.refuse p else s.setR (Reg.LANEn_FOM_LIM n) (data &&& 0xFFFFF)
  | 0x68 => s.eyeCmdOp n data
  | _ => s

end Sys2Proof.Machine
end

