-- ==== Sys2Proof/Machine/Guard.lean ====
section
/-! DEFINITION. The Guard's decisions, safety inputs and seal sessions (spec/16_guard_domain.md). Writes to Guard registers take
effect here when they reach the Guard. -/
namespace Sys2Proof.Machine

/-! ## Decisions -/

/-- The first function recorded fired on this Guard tick: FIRST_FN then names the lower code (R337). -/
def State.firstThisTick (s : State) : Bool :=
  decide (s.getR Reg.GRD_FIRST_NS = w32 s.ns) && decide (s.getR Reg.GRD_FIRST_SEC_LO = w32 s.sec)

/-- The newest entry of the log is a decision of this Guard tick, not yet stored by the Keeper. -/
def State.decisionThisTick (s : State) : Option PEntry :=
  s.kp.pq.getLast?.filter (fun e =>
    decide (e.take 8 = leBytes 8 s.timeNs) && decide ((e.drop 12).take 3 = leBytes 2 (3 * 4096) ++ leBytes 1 Pg.GRD))

/-- The entry of a decision, with its functions as a mask. Functions that fire on one Guard tick share one entry, which names them all
(R337). -/
def State.logDecision (s : State) (mask : Word) : State :=
  match s.decisionThisTick with
  | none => s.irqLog 3 0 Pg.GRD 0 [(4, mask.toNat)]
  | some e =>
    let d := leBytes 4 (w32 (leNat ((e.drop 16).take 4)) ||| mask).toNat
    let at_ := sramBase + 4 * s.getF Reg.LOG_VOL_BASE 0 18 + 32 * ((s.getF Reg.LOG_VOL_WR 0 13 + 8191) % 4096) + 20
    { ((s.irq Pg.GRD 0).setMemBytes at_ d) with kp.pq := s.kp.pq.dropLast ++ [e.take 16 ++ d ++ e.drop 20] }

/-- The Guard decides on the functions of `mask` (bit f for code f): block line, GTRIP masks (but not of an ESTOP, which waits),
latches, first record, count, interrupt, entry and SAFE (R337). -/
def State.guardDecide (s : State) (mask : Word) (point : Nat) : State :=
  let first := (List.range 26).find? (fun f => bit mask f)
  match first with
  | none => s
  | some f =>
    let rel := (List.range 26).foldl (fun acc g => if bit mask g && decide (g ≠ 21) then acc ||| BitVec.ofNat 4 (s.fnMask g) else acc)
      s.grd.released
    let s1 := s.guardChange (fun s => { s with grd.released := rel })
    let s2 := (s1.modR Reg.GRD_TRIP_LATCH (· ||| mask)).modR Reg.GRD_TRIP_ACTIVE (· ||| mask)
    let later := s2.getB Reg.GRD_FIRST_FN 15 && !(s2.firstThisTick && decide (f < s2.getF Reg.GRD_FIRST_FN 0 5))
    let s3 := if later then s2
      else ((s2.setR Reg.GRD_FIRST_FN (w32 (f + point * 256 + 0x8000))).setR Reg.GRD_FIRST_NS (w32 s.ns)).setR
        Reg.GRD_FIRST_SEC_LO (w32 s.sec)
    let s4 := ((s3.incSat Reg.GRD_TRIP_CNT).blockEv Pg.GRD).logDecision mask
    s4.enterSafe SafeCause.guard

/-- Function `f` fires, where the Guard runs and the function is armed in the last mode reported (R333, R337). -/
def State.guardFire (s : State) (f point : Nat) : State :=
  if s.grd.inReset || !fnArmed f s.grd.modeRep then s else s.guardDecide (w32 (2 ^ f)) point

/-- KIND in force: 7 acts only in the Cell role, 8–15 act as 0 (GCURVE.STG_CFG). -/
def State.stageKind (s : State) (k : Nat) : Nat :=
  let v := fld (s.stgCfg k) 0 4
  if v = 7 then (if s.pw.role = .cell then 7 else 0) else if 8 ≤ v then 0 else v

/-- Is the point one that can fire (R334): stage on, LEVEL not 0, TIME not 0xFFFF? -/
def State.pointLive (s : State) (st pt : Nat) : Bool :=
  s.guardOk && decide (s.stageKind st ≠ 0) && decide (fld (s.gPoint (8 * st + pt)) 16 16 ≠ 0) &&
    decide (fld (s.gPoint (8 * st + pt)) 0 16 ≠ 0xFFFF)

/-- GCURVE_POINT_FIRE (R334, R337): the point's timer exceeded TIME. Its start set POINT_RUN (R354). In the Cell role a stage-0
decision also latches FAULT code 0x84 (R350). -/
def execGcurvePointFire (stage : Fin 16) (point : Fin 8) (s : State) : Host.Outcome State Fault Refusal :=
  if !s.pointLive stage point || s.grd.inReset || !fnArmed stage s.grd.modeRep then done s
  else
    let s1 := s.modR (Reg.GCURVE_STG_STAT stage) (fun w => putBit (putBit w point true) (8 + point) true)
    let s2 := ((s1.irq Pg.GCURVE 0).blockEv Pg.GCURVE).guardFire stage point
    done (if s.pw.role = .cell && decide (stage.val = 0) then s2.cellFault 0x84 else s2)

/-- The tick since which a request line has been held (R335). -/
def State.guardReqSince (s : State) (r : Nat) : Option Nat :=
  match r with
  | 0 => s.grd.reqRide
  | 1 => s.grd.reqIsld
  | _ => s.grd.reqTt

/-- GUARD_REQUEST_FIRE (R335): the request has been held for its REQ_DELAY. -/
def execGuardRequestFire (req : Fin 3) (s : State) : Host.Outcome State Fault Refusal :=
  if !s.guardOk || !s.guardReq req then done s
  else
    let delay := fld (s.profW (0x80 + 4 * req.val)) 0 8
    let s1 := s.advanceTo ((s.guardReqSince req).getD s.clk.tick + delay * tickMs)
    done (s1.guardFire (16 + req.val) 0)

/-- HEARTBEAT_TIMEOUT (R333, R336): function 19, while HB_CFG.EN = 1. -/
def execHeartbeatTimeout (s : State) : Host.Outcome State Fault Refusal :=
  if !s.guardOk || decide (s.pw.role = .cell) || !bit (s.profW 0x8C) 16 || !fnArmed 19 s.grd.modeRep then done s
  else done ((s.irq Pg.GRD 2).guardFire 19 0)

/-- GUARD_MEAS_LOST (R332, R333): function 20, on an enabled channel. -/
def execGuardMeasLost (channel : Fin 4) (s : State) : Host.Outcome State Fault Refusal :=
  if !s.guardOk || !s.getB (Reg.METC_MDAT_CFG 0) (8 * channel.val) then done s else done (s.guardFire 20 0)

/-- GTRIP_READBACK_FAULT (R330): the ball disagrees with its command for 50 µs, while RB_EN of that output is 1. -/
def execGtripReadbackFault (ball : Fin 4) (s : State) : Host.Outcome State Fault Refusal :=
  if !s.guardOk || !bit (s.profW 0x98) (8 + ball.val) || s.grd.stuckBalls.getLsbD ball.val then done s
  else
    let s1 := { s with grd.stuckBalls := s.grd.stuckBalls ||| (1 <<< ball.val) }
    done (((s1.incSat Reg.GRD_GTRIP_FLT_CNT).irq Pg.GRD 1).guardFire 25 0)

/-- A safety input fault: count, interrupt, function 24 (R343). -/
def State.safetyFault (s : State) (b : Nat) : State :=
  let s1 := ((s.setB Reg.GSAFE_FAULT b true).incSat Reg.GSAFE_FAULT_CNT).irq Pg.GSAFE 1
  s1.guardFire 24 0

/-- TP_READBACK_FAULT (R344). -/
def execTpReadbackFault (s : State) : Host.Outcome State Fault Refusal :=
  if !s.guardOk || decide (s.pw.role = .cell) then done s
  else done (({ s with grd.tpBad := true }).safetyFault 24)

/-- TRIP_RESET with a key: accepted in SAFE or CONFIGURE with no cause active and no safety fault; otherwise refused (R338). -/
def State.tripResetOp (s : State) (key : Nat) : State :=
  if key = 0x47 && (s.pw.mode = .safe || s.pw.mode = .configure) && decide (s.getR Reg.GRD_TRIP_ACTIVE = 0) &&
      decide (s.getR Reg.GSAFE_FAULT = 0) then
    let s1 := s.guardChange (fun s => { s with grd.released := 0 })
    let s2 := ({ s1 with grd.estop := none }).setR Reg.GRD_TRIP_LATCH 0
    let s3 := (s2.setR Reg.GRD_FIRST_FN 0)
    let s4 := (List.range 16).foldl (fun s k => s.setF (Reg.GCURVE_STG_STAT k) 0 16 0) s3
    s4.logE 3 none Pg.GRD 0 []
  else s.refuse Pg.GRD

/-- TRIP_RESET (R338): the write reaches the Guard. -/
def execTripReset (key : BitVec 8) (s : State) : Host.Outcome State Fault Refusal :=
  if s.grd.inReset then done s else hostCmd s Pg.GRD (fun s => s.tripResetOp key.toNat)

/-! ## Safety inputs -/

/-- TEST_PULSE (R341): the output falls or rises while TP_EN = 1; its readback agrees again. -/
def execTestPulse (gtp level : Bool) (s : State) : Host.Outcome State Fault Refusal :=
  if !s.guardOk || decide (s.pw.role = .cell) || !bit (s.profW 0x2E0) 3 then done s
  else
    let rise := if level then some s.clk.tick else none
    if gtp then done { s with grd.gtpLow1 := !level, grd.gtpRise1 := rise <|> s.grd.gtpRise1, grd.tpBad := false }
    else done { s with grd.gtpLow0 := !level, grd.gtpRise0 := rise <|> s.grd.gtpRise0, grd.tpBad := false }

/-- The source of a channel is in its pulse: GTP0 for A, GTP1 for B (R341). -/
def State.pulseLow (s : State) (chB : Bool) : Bool := if chB then s.grd.gtpLow1 else s.grd.gtpLow0

/-- The channel is not evaluated: from the falling edge of its pulse until 100 µs after the rising edge (R342). -/
def State.pulseWindow (s : State) (chB : Bool) : Bool :=
  s.pulseLow chB || ((if chB then s.grd.gtpRise1 else s.grd.gtpRise0).any (fun t => decide (s.clk.tick < t + 100 * tickUs)))

/-- Note what the two channels of an input show for the clearing of its fault (R343): open together, then closed together. -/
def State.proof (s : State) (i : Nat) : State :=
  let a := s.getB Reg.GSAFE_STAT (8 + i)
  let b := s.getB Reg.GSAFE_STAT (16 + i)
  if !a && !b then { s with grd.provedOpen := s.grd.provedOpen ||| (1 <<< i), grd.provedClosed := s.grd.provedClosed &&& ~~~((1 : BitVec 3) <<< i) }
  else if a && b && s.grd.provedOpen.getLsbD i then { s with grd.provedClosed := s.grd.provedClosed ||| (1 <<< i) }
  else s

/-- The evaluated level of a channel changes; an input that ceases to be healthy is a demand (R342). -/
def State.inputChange (s : State) (i : Nat) (chB closed : Bool) : State :=
  let was := s.inputHealthy i
  let s1 := (s.setB Reg.GSAFE_STAT ((if chB then 16 else 8) + i) closed)
  let now := s1.inputHealthy i
  let s2 := (s1.setB Reg.GSAFE_STAT i (s1.safetyEn i && now)).proof i
  if !s2.safetyEn i then s2
  else if now then s2.setB Reg.GRD_TRIP_ACTIVE (21 + i) false
  else if was then
    let s3 := ((s2.incSat Reg.GSAFE_DEMAND_CNT).irq Pg.GSAFE 0).blockEv Pg.GSAFE
    let s4 := s3.guardFire (21 + i) 0
    if i = 0 && s4.getB Reg.GRD_TRIP_LATCH 21 then { s4 with grd.estop := some s.clk.tick } else s4
  else s2

/-- SAFETY_INPUT_CHANGE (R342, R343): a filtered change of one channel. High during its source's pulse is a cross-short; within the
blind window it is not evaluated. The Cell role does not evaluate these inputs (R350). -/
def execSafetyInputChange (input : Fin 3) (channelB closed : Bool) (s : State) : Host.Outcome State Fault Refusal :=
  if s.grd.inReset || decide (s.pw.role = .cell) then done s
  else if closed && s.pulseLow channelB then
    if s.safetyEn input then
      done (({ s with grd.provedOpen := s.grd.provedOpen &&& ~~~((1 : BitVec 3) <<< input.val),
                      grd.provedClosed := s.grd.provedClosed &&& ~~~((1 : BitVec 3) <<< input.val) }).safetyFault ((if channelB then 16 else 8) + input.val))
    else done s
  else if s.pulseWindow channelB then done s
  else done (s.inputChange input channelB closed)

/-- ESTOP_DELAY_EXPIRE (R342): the mapped GTRIP outputs release. -/
def execEstopDelayExpire (s : State) : Host.Outcome State Fault Refusal :=
  match s.grd.estop with
  | none => done s
  | some t =>
    let s1 := s.advanceTo (t + fld (s.profW 0x2E8) 0 4 * tickMs)
    done (({ s1 with grd.estop := none }).guardChange (fun s => { s with grd.released := s.grd.released ||| BitVec.ofNat 4 (s.fnMask 21) }))

/-- DISCREPANCY (R343): the channels of an enabled input have differed for longer than DISC_T. -/
def execDiscrepancy (input : Fin 3) (s : State) : Host.Outcome State Fault Refusal :=
  if s.grd.inReset || !s.safetyEn input || s.getB Reg.GSAFE_STAT (8 + input.val) == s.getB Reg.GSAFE_STAT (16 + input.val) then done s
  else
    done (({ s with grd.provedOpen := s.grd.provedOpen &&& ~~~((1 : BitVec 3) <<< input.val),
                    grd.provedClosed := s.grd.provedClosed &&& ~~~((1 : BitVec 3) <<< input.val) }).safetyFault input.val)

/-- May GSAFE.FAULT_CLR clear what `data` asks (R343, R356)? -/
def State.faultClrOk (s : State) (data : Word) : Bool :=
  (List.range 3).all (fun i => !bit data i || s.grd.provedClosed.getLsbD i) && (!bit data 24 || !s.grd.tpBad)

/-- GSAFE.FAULT_CLR: per input, after both channels were seen open and then closed together; bit 24 when the readback agrees;
otherwise the write is refused (R343). -/
def State.faultClrOp (s : State) (data : Word) : State :=
  if s.faultClrOk data then
    let clr : Word := (data &&& 7) * 0x10101 ||| (data &&& 0x1000000)
    let s1 := s.modR Reg.GSAFE_FAULT (· &&& ~~~clr)
    if s1.getR Reg.GSAFE_FAULT = 0 then s1.setB Reg.GRD_TRIP_ACTIVE 24 false else s1
  else s.refuse Pg.GSAFE

/-- SAFETY_FAULT_CLR (R343). -/
def execSafetyFaultClr (data : Word) (s : State) : Host.Outcome State Fault Refusal :=
  if s.grd.inReset then done s else hostCmd s Pg.GSAFE (fun s => s.faultClrOp data)

/-! ## The seal -/

/-- SEAL_SWITCH_CHANGE (R347): a debounced change is counted and logged; while the control domain is off the entry waits for BOOT. -/
def execSealSwitchChange (pattern : BitVec 16) (s : State) : Host.Outcome State Fault Refusal :=
  let old := s.sealNow
  if s.pw.role = .cell || old = pattern.toNat then done s
  else
    let s1 := ({ s with kp.sealSeen := pattern }).setR Reg.GSEAL_SW_NOW (w32 pattern.toNat)
    let s2 := s1.incSat Reg.GSEAL_SW_CHG_CNT
    if s.awake then done (s2.irqLog 4 1 Pg.GSEAL 0 [(2, old), (2, pattern.toNat)])
    else
      let first := match s.kp.sealLater with
        | some (o, _) => o
        | none => BitVec.ofNat 16 old
      done { s2 with kp.sealLater := some (first, pattern) }

/-- A refused seal command: REFUSE takes the code, the nonce is renewed, interrupt and entry (R348, R355). -/
def State.sealRefuse (s : State) (code : Nat) : State :=
  let s1 := ({ s with grd.nonceIx := s.grd.nonceIx + 1 }).setR Reg.GSEAL_REFUSE (w32 code)
  let s2 := if code = 4 ∨ code = 8 ∨ code = 12 then s1.refuse Pg.GSEAL else s1
  s2.irqLog 4 2 Pg.GSEAL 0 []

/-- NEW_DIGEST as written (R348). -/
def State.newDigest (s : State) : BitVec 256 :=
  BitVec.ofNat 256 (leNat ((List.range 8).flatMap (fun k => leBytes 4 (s.getR (Reg.GSEAL_NEW_DIGEST k)).toNat)))

/-- AUTH as written: AUTH[0] carries bytes 0 to 3 of the MAC (R348). -/
def State.authBytes (s : State) : List Byte := (List.range 8).flatMap (fun k => leBytes 4 (s.getR (Reg.GSEAL_AUTH k)).toNat)

/-- The 53-byte message of the authorisation (R348). -/
def State.authMessage (s : State) (change : Bool) (slot : Nat) : List Byte :=
  (if change then [0x53, 0x43, 0x48, 0x47] else [0x53, 0x52, 0x53, 0x54]) ++ leBytes 8 Config.uid.toNat ++
    leBytes 8 s.nonce.toNat ++ leBytes 1 slot ++ leBytes 32 s.newDigest.toNat

/-- Is AUTH valid for the message (R348)? -/
def State.authValid (s : State) (change : Bool) (slot : Nat) : Bool :=
  decide (s.authBytes = hmacSha256 Config.deviceKey (s.authMessage change slot))

/-- Judge the authorisation last: 8 failures exhaust it, a wrong one counts, a right one opens the session (R348). -/
def State.sealAuth (s : State) (change : Bool) (slot : Nat) : State :=
  if 8 ≤ (s.getR Reg.GSEAL_AUTH_FAIL_CNT).toNat then s.sealRefuse 12
  else if s.authValid change slot then
    { s with grd.session := if change then 1 else 2, grd.sessionAt := s.clk.tick, grd.sessionDigest := s.newDigest, grd.staged := false }
  else (s.incSat Reg.GSEAL_AUTH_FAIL_CNT).sealRefuse 4

/-- GSEAL.CMD 1, OPEN_CHANGE, with its conditions in order (R348). -/
def State.openChangeOp (s : State) : State :=
  let fused := (s.activeSlot 48).isSome
  if s.grd.session ≠ 0 then s.sealRefuse 5
  else if s.pw.mode ≠ .configure then s.sealRefuse 1
  else if fused && decide (s.sealNow ≠ fld (s.profW 0x68) 16 16) then s.sealRefuse 2
  else if s.freeSlots 48 = 0 then s.sealRefuse 3
  else if fused && !s.grd.profileOk then s.sealRefuse 5
  else s.sealAuth true (48 - s.freeSlots 48)

/-- GSEAL.CMD 2, OPEN_RESTORE (R348). -/
def State.openRestoreOp (s : State) : State :=
  if s.grd.session ≠ 0 then s.sealRefuse 5
  else if s.pw.mode ≠ .configure then s.sealRefuse 1
  else match s.activeSlot 48 with
    | none => s.sealRefuse 9
    | some k => if s.newDigest ≠ (s.slot k).digest then s.sealRefuse 9 else s.sealAuth false k

/-- GSEAL.CMD 3, BURN (R349): the switches must equal the staged SEAL_PATTERN; the Guard asserts the block line and writes digest and
time into the next free slot. -/
def State.burnOp (s : State) : State :=
  if s.grd.session ≠ 1 ∨ !s.grd.staged then s.sealRefuse 5
  else if !s.kp.headerOk || !s.kp.vkeepOk then s.sealRefuse 10
  else if digestBV (sha256 (s.nvBytes 0x600 0x4F0)) ≠ s.grd.sessionDigest then s.sealRefuse 6
  else if s.sealNow ≠ fld (s.nvW (0x600 + 0x68)) 0 16 then s.sealRefuse 7
  else
    let k := 48 - s.freeSlots 48
    { s with grd.session := 3, grd.slots := SMap.set ⟨false, 0, 0⟩ k ⟨false, s.grd.sessionDigest, w32 s.sec⟩ s.grd.slots }

/-- GSEAL.CMD 4, ABORT (R349). -/
def State.abortOp (s : State) : State :=
  if s.grd.session = 1 ∨ s.grd.session = 2 then s.sealClose else s.sealRefuse 5

/-- A GSEAL.CMD write: a bad KEY is refused with code 8; other codes are ignored (R355). Not in the Cell role (R350). -/
def State.sealCmd (s : State) (cmd key : Nat) : State :=
  if s.pw.role = .cell || s.grd.inReset then s
  else if key ≠ 0x5E then s.sealRefuse 8
  else match cmd with
    | 1 => s.openChangeOp
    | 2 => s.openRestoreOp
    | 3 => s.burnOp
    | 4 => s.abortOp
    | _ => s

/-- OPEN_CHANGE (R348). -/
def execOpenChange (key : BitVec 8) (s : State) : Host.Outcome State Fault Refusal := hostCmd s Pg.GSEAL (fun s => s.sealCmd 1 key.toNat)
/-- OPEN_RESTORE (R348). -/
def execOpenRestore (key : BitVec 8) (s : State) : Host.Outcome State Fault Refusal := hostCmd s Pg.GSEAL (fun s => s.sealCmd 2 key.toNat)
/-- BURN (R349). -/
def execBurn (key : BitVec 8) (s : State) : Host.Outcome State Fault Refusal := hostCmd s Pg.GSEAL (fun s => s.sealCmd 3 key.toNat)
/-- SEAL_ABORT (R349). -/
def execSealAbort (key : BitVec 8) (s : State) : Host.Outcome State Fault Refusal := hostCmd s Pg.GSEAL (fun s => s.sealCmd 4 key.toNat)

/-- Copy the staged profile over the active one (R349). -/
def State.activateStaged (s : State) : State := s.setNvBytes 0x100 (s.nvBytes 0x600 0x4F0)

/-- The seal outcome is logged with slot, digest and time, and sets SEAL_DONE (R349). -/
def State.sealDone (s : State) (slot : Nat) : State :=
  let d := s.slot slot
  s.irqLog 4 0 Pg.GSEAL 0 ((1, slot) :: words256 d.digest ++ [(4, d.time.toNat)])

/-- BURN_DONE (R349): the fuse is burned last and the slot verified; the staged profile becomes active. A slot that does not verify is
spoiled (REFUSE 11). -/
def execBurnDone (verified : Bool) (s : State) : Host.Outcome State Fault Refusal :=
  if s.grd.session ≠ 3 then done s
  else
    let k := 48 - s.freeSlots 48 - 1
    if verified then
      let d := s.slot k
      let s1 := { s with grd.slots := SMap.set ⟨false, 0, 0⟩ k { d with fuse := true } s.grd.slots }
      let s2 := (s1.activateStaged.guardChange State.verifyProfile).sealClose
      done ((s2.blockEv Pg.GSEAL).sealDone k)
    else done (({ s with grd.session := 0, grd.staged := false }).sealRefuse 11)

/-- SEAL_SESSION_TIMEOUT (R349): 600 s after the session opened. -/
def execSealSessionTimeout (s : State) : Host.Outcome State Fault Refusal :=
  if s.grd.session = 1 ∨ s.grd.session = 2 then done (s.advanceTo (s.grd.sessionAt + 600 * tickS)).sealClose else done s

/-! ## Guard reset -/

/-- The Guard's registers take their reset values: pages GRD to GSAFE from offset 0x040, but the seal-switch registers, which follow the
balls (R347, R353–R356). -/
def State.guardRegsReset (s : State) : State :=
  { s with regs := s.regs.filter (fun e => !(decide (Pg.GRD ≤ e.1 / 4096) && decide (e.1 / 4096 ≤ Pg.GSAFE) && decide (0x40 ≤ e.1 % 4096)) ||
      decide (e.1 = Reg.GSEAL_SW_NOW)) }

/-- GUARD_RESET (R55, R56): block line asserted, GTRIP0–3 released; latches, sessions and Guard RAM are lost. -/
def execGuardReset (s : State) : Host.Outcome State Fault Refusal :=
  let s1 := s.guardRegsReset
  let g : GuardState :=
    { State.reset.grd with inReset := true, slots := s.grd.slots, nonceIx := s.grd.nonceIx + 1, modeRep := s.grd.modeRep }
  let s2 := { s1 with cell.digestOk := false, grd := g }
  done s2.pwmBlocks

/-- GUARD_RESET_RELEASE (R55, R56): the profile is reverified; the mode is learned at the next E0. -/
def execGuardResetRelease (s : State) : Host.Outcome State Fault Refusal :=
  if !s.grd.inReset then done s
  else done (({ s with grd.inReset := false, pw.guardLost := false }).verifyProfile)

end Sys2Proof.Machine
end

