-- ==== Sys2Proof/Machine/Loader.lean ====
section
/-! DEFINITION. The loader: the checks of R435 in their order, and what an accepted image of each type does (R42, R43, R89, R104–R107,
R136, R261, R345, R349). The checks are made when the loader completes. -/
namespace Sys2Proof.Machine

/-- How a load ends: result code, DETAIL, and the state the target is left in. -/
abbrev LoadEnd := Nat × Nat × State

/-- `n` bytes of the image at SRAM offset `src` from byte `o` of it. -/
def State.imgBytes (s : State) (src o n : Nat) : List Byte := s.memBytes (sramBase + src + o) n
/-- The little-endian field there. -/
def State.img (s : State) (src o n : Nat) : Nat := leNat (s.imgBytes src o n)
/-- `n` words of 4 bytes from byte `o`. -/
def State.imgWords (s : State) (src o n : Nat) : List Word := (List.range n).map (fun k => w32 (s.img src (o + 4 * k) 4))
/-- `n` strokes from byte `o`. -/
def State.imgStrokes (s : State) (src o n : Nat) : List (BitVec 64) :=
  (List.range n).map (fun k => BitVec.ofNat 64 (s.img src (o + 8 * k) 8))
/-- Bytes `o` to `o + n − 1` are all 0. -/
def State.imgZero (s : State) (src o n : Nat) : Bool := (s.imgBytes src o n).all (fun b => decide (b = 0))

/-- A size padded to a multiple of 8 bytes. -/
def pad8 (n : Nat) : Nat := (n + 7) / 8 * 8

/-! ## Header checks (R42, R435 steps 1 to 6) -/

/-- The image's ROLE goes with the latched role (R42). -/
def roleFits (r : Role) (b : Nat) : Bool :=
  decide (b = 2) || (decide (b = 0) && decide (r = .wellhead ∨ r = .standby)) || (decide (b = 1) && decide (r = .cell))

/-- First non-zero reserved header byte or FLAGS bit: FLAGS, the 36 bytes from 0x1C, and the HMAC field when FLAGS bit 0 = 0. -/
def State.badHeaderByte (s : State) (src : Nat) : Option Nat :=
  if 2 ≤ s.img src 0x0C 1 then some 0x0C
  else if s.img src 0x0D 1 ≠ 0 then some 0x0D
  else
    let n := if s.img src 0x0C 1 = 1 then 0x24 else 0x44
    ((s.imgBytes src 0x1C n).findIdx? (fun b => decide (b ≠ 0))).map (· + 0x1C)

/-- The bytes the CRC and the HMAC are computed over: all LENGTH bytes with both taken as 0. -/
def State.imgChecked (s : State) (src len : Nat) : List Byte :=
  s.imgBytes src 0 0x18 ++ List.replicate 4 0 ++ s.imgBytes src 0x1C 0x24 ++ List.replicate 32 0 ++ s.imgBytes src 0x60 (len - 0x60)

/-- Steps 1 to 6 of R435: the code and DETAIL of the first check that fails. -/
def State.headerFail (s : State) (src : Nat) : Option (Nat × Nat) :=
  let len := s.img src 8 4
  let ty := s.img src 4 1
  let mode := modeCode s.pw.mode
  let hmac := decide (s.img src 0x0C 1 = 1)
  if 0x100000 < src + 0x60 then some (0x05, 0)
  else if s.img src 0 4 ≠ 0x4E474457 then some (0x01, 0)
  else if ty = 0 ∨ 5 < ty then some (0x02, ty)
  else if s.img src 5 1 ≠ 1 then some (0x03, s.img src 5 1)
  else if !roleFits s.pw.role (s.img src 7 1) then some (0x04, s.img src 7 1)
  else if len % 8 ≠ 0 ∨ len < 0x60 ∨ 0x100000 < len ∨ 0x100000 < src + len then some (0x05, 0)
  else match s.badHeaderByte src with
    | some o => some (0x08, o)
    | none =>
      if crc32 (s.imgChecked src len) ≠ w32 (s.img src 0x18 4) then some (0x06, 0)
      else if (if hmac then decide (hmacSha256 Config.deviceKey (s.imgChecked src len) ≠ s.imgBytes src 0x40 32)
          else decide (ty = 5) || s.getB Reg.HOST_LOAD_CFG 0) then some (0x07, 0)
      else if mode < 2 ∨ 4 < mode ∨ (ty = 5 ∧ mode ≠ 2) then some (0x09, mode)
      else none

/-! ## Schedule images (R89, R91, R107) -/

/-- The body of a schedule image as a bank without channels; none where it breaks the table of R89. -/
def State.scheduleBody (s : State) (src len : Nat) : Option BankPlan :=
  let nMain := s.img src 0x60 2
  let linkAt := s.img src 0x62 2
  let nSlow := s.img src 0x64 2
  let nSlices := s.img src 0x66 2
  let div := s.img src 0x68 4
  let out := s.img src 0x6C 1
  let nDesc := s.img src 0x6E 2
  let at_ := 0x80 + pad8 (4 * nDesc)
  if len < 0x80 ∨ nMain = 0 ∨ 7168 < nMain ∨ nMain ≤ linkAt ∨ 1024 < nSlow ∨ div = 0 ∨ 65536 < div ∨ div < nSlices ∨ out = 0 ∨ out = 255 ∨
      63 < nDesc ∨ !s.imgZero src 0x6D 1 ∨ !s.imgZero src 0x70 16 ∨ len ≠ at_ + 8 * (nMain + nSlow) then none
  else
    let main := s.imgStrokes src at_ nMain
    let slow := s.imgStrokes src (at_ + 8 * nMain) nSlow
    if (main.dropLast).any strokeFin || !(main.getLast?.any strokeFin) || decide ((slow.filter strokeFin).length ≠ nSlices) then none
    else some { main := main, linkPos := linkAt + 1, slices := (splitSlices [] slow).filter (fun x => x.any strokeFin), slowDiv := div,
                outPhase := out, desc := (s.imgWords src 0x80 nDesc).map (· &&& 0xFFFFFF), unverified := false, segs := [] }

/-- The plan with every LIVE channel of the bank in force that is not marked for release (R107). -/
def State.carry (s : State) (p : BankPlan) : BankPlan :=
  match s.basePlan with
  | none => p
  | some b => b.segs.foldl (fun p g => p.link g.1 (s.chan g.1).desc.length) p

/-- A schedule image: staged, composed with the channels in force, or refused (R88, R107, R260). -/
def State.loadSchedule (s : State) (src len : Nat) : LoadEnd :=
  if s.pump.stagedBank then (0x10, 0, s)
  else match s.scheduleBody src len with
    | none => (0x05, 0, s)
    | some body =>
      let p := s.carry body
      let mark (reason stroke : Nat) : State := if p.segs = [] then s else s.setLinkFail reason stroke
      match (s.planDescFail p).or (s.planLimitFail p) with
      | some r => (r.code, r.detail, mark r.reason r.stroke)
      | none =>
        if (s.phaseConflict p.outPhase).isSome then (0x0D, p.outPhase, mark 0 0xFFFF)
        else (0, 0, (mark 0 0xFFFF).compose p)

/-! ## Channel images (R97, R104–R107, R113) -/

/-- The channel that CH_REPLACES of slot `n` names may be replaced: LIVE and not marked for release (R113). -/
def State.replaceOk (s : State) (n : Nat) : Bool :=
  let h := (s.chan n).replaces
  decide (h = 0) || (s.validFor h 1 && decide ((s.chan (hIndex h)).st = 3) && !(s.chan (hIndex h)).release)

/-- The first stroke at fault of a channel image, with its reason: FIN misplaced, a local word or descriptor outside the image, or a system
word written (R104, R105); main strokes come first. -/
def strokesFail (words slices : Nat) (main slow : List (BitVec 64)) : Option (Nat × Nat) :=
  match main.findIdx? (fun w => strokeFin w || (strokeFail words w).isSome) with
  | some k => some ((if strokeFin (main.getD k 0) then 7 else (strokeFail words (main.getD k 0)).getD 0), k)
  | none => match slow.findIdx? (fun w => (strokeFail words w).isSome) with
    | some k => some ((strokeFail words (slow.getD k 0)).getD 0, main.length + k)
    | none =>
      if slow.getLast?.any (fun w => !strokeFin w) then some (7, main.length + slow.length - 1)
      else if (slow.filter strokeFin).length ≠ slices then some (7, 0xFFFF)
      else none

/-- The slot as its image fills it, or the reason and stroke of LINK_FAIL with code 0x05 (R104, R105). An image without both words of the
following error sets ACTION to 0 at its acceptance (R114). -/
def State.channelBody (s : State) (src len n : Nat) : (Nat × Nat) ⊕ (ChanSlot × List Word) :=
  let words := s.img src 0x0E 2
  let nMain := s.img src 0x60 2
  let nSlow := s.img src 0x62 2
  let slices := s.img src 0x64 2
  let nDesc := s.img src 0x68 1
  let f (k : Nat) : Nat := s.img src (0x6A + 2 * k) 2
  let initAt := 0x80 + pad8 (4 * nDesc)
  let at_ := initAt + pad8 (4 * words)
  if len < 0x80 ∨ 7168 < nMain ∨ 1024 < nSlow ∨ (nSlow = 0 ∧ slices ≠ 0) ∨ 63 < nDesc ∨ 1 < s.img src 0x69 1 ∨ !s.imgZero src 0x78 8 ∨
      len ≠ at_ + 8 * (nMain + nSlow) then .inl (0, 0xFFFF)
  else if (List.range 7).any (fun k => decide (words ≤ f k ∧ f k ≠ 0xFFFF)) then .inl (8, 0xFFFF)
  else
    let main := s.imgStrokes src at_ nMain
    let slow := s.imgStrokes src (at_ + 8 * nMain) nSlow
    match strokesFail words slices main slow with
    | some r => .inl r
    | none =>
      .inr ({ s.chan n with auto := decide (s.img src 0x69 1 = 1), integW := f 0, autoW := f 1, outW := f 2, manW := f 3, modeW := f 4,
                            feRefW := f 5, feFbW := f 6, mainStrokes := main, slowStrokes := slow,
                            feAction := if f 5 = 0xFFFF ∨ f 6 = 0xFFFF then 0 else (s.chan n).feAction,
                            desc := (s.imgWords src 0x80 nDesc).map (· &&& 0xFFFFFF), sliceBase := s.img src 0x66 2,
                            cycles := max (s.img src 0x10 4) (cyclesOf main) }, s.imgWords src initAt words)

/-- The lowest-numbered free granules, `k` of them (R105). -/
def State.freeGranules (s : State) (k : Nat) : List Nat :=
  let taken := s.chans.flatMap (fun e => e.2.granules)
  ((List.range 256).filter (fun g => decide (16 ≤ g) && !taken.contains g)).take k

/-- Store the initial values of local words from word `w` on (R106). -/
def State.initWords (s : State) (c : ChanSlot) (w : Nat) : List Word → State
  | [] => s
  | v :: vs => State.initWords (s.setSump (c.place w) v) c (w + 1) vs

/-- A channel image for slot `n`: linked into the standby, or refused (R97, R106, R107, R113). -/
def State.loadChannel (s : State) (src len n : Nat) : LoadEnd :=
  match s.channelBody src len n with
  | .inl (reason, stroke) => (0x05, 0, s.setLinkFail reason stroke)
  | .inr (c0, init) =>
    let need := (init.length + 3) / 4
    let names (p : BankPlan) : Option Nat :=
      (c0.mainStrokes ++ c0.slowStrokes).findIdx? (namesBeyond c0.desc.length p.desc.length)
    match s.basePlan.bind names with
    | some k => (0x05, 0, s.setLinkFail 4 k)
    | none =>
      if c0.req - c0.used < need then (0x0B, 4 * (need - (c0.req - c0.used)), s.setLinkFail 0 0xFFFF)
      else match s.basePlan with
        | none => (0x0C, 0xFFFF, s.setLinkFail 9 0xFFFF)
        | some base =>
          let old := if c0.replaces = 0 then none else some (hIndex c0.replaces)
          let c := { c0 with granules := s.freeGranules need, used := c0.used + need, takesFrom := old, auto := c0.auto || !c0.hasManual,
                             st := 2 }
          let s1 := s.setChan n { c with st := 1 }
          let base1 := match old with
            | some k => base.without k
            | none => base
          let p := base1.link n c.desc.length
          match (s1.planDescFail p).or (s1.planLimitFail p) with
          | some r => (r.code, r.detail, s.setLinkFail r.reason r.stroke)
          | none =>
            let s2 := (s1.setLinkFail 0 0xFFFF).initWords c 0 init
            let s3 := (s2.compose p).chanMove n c
            (0, 0, match old with
              | some k => s3.modChan k (fun o => { o with release := true })
              | none => s3)

/-! ## Tables and ring plans -/

/-- A table image for table `k` (R136). -/
def State.loadTable (s : State) (src len k : Nat) : LoadEnd :=
  if s.tab.armed.getLsbD k || s.tab.busy.getLsbD k then (0x10, 0, s)
  else if len ≠ 0x1070 ∨ s.img src 0x60 2 ≠ 1024 ∨ s.img src 0x62 1 ≠ 1 ∨ 1 < s.img src 0x63 1 ∨ !s.imgZero src 0x64 12 then (0x05, 0, s)
  else
    let half := 1 - b2n (s.tab.active.getLsbD k)
    let s1 := s.setMemBytes (tableBase + 0x8000 * half + 0x1000 * k) (s.imgBytes src 0x70 4096)
    (0, 0, if s.img src 0x63 1 = 1 then { s1 with tab.armed := s1.tab.armed ||| ((1 : BitVec 8) <<< k) } else s1)

/-- Bytes as a sparse map from index `o`, zeros left out. -/
def bytesMap (o : Nat) : List Byte → SMap Byte
  | [] => []
  | b :: bs => if b = 0 then bytesMap (o + 1) bs else (o, b) :: bytesMap (o + 1) bs

/-- The plan changes RING_EN, a SLOTS or a TAIL of the plan in force (R261). -/
def State.planGeometry (s : State) (b : SMap Byte) : Bool :=
  decide (planByte b 1 ≠ planByte s.body 1) ||
    (List.range 8).any (fun n => decide (planSlots b n ≠ planSlots s.body n ∨ planByte b (9 + 8 * n) ≠ planByte s.body (9 + 8 * n)))

/-- The body breaks the table of R261, or a position's words reach beyond the output region. -/
def State.planBodyBad (s : State) (b : SMap Byte) : Bool :=
  let words := s.getF (Reg.PUMP_RES_LEN 7) 0 18
  decide (1 < planByte b 2 ∨ 6 < planByte b 3 ∨ planHalf b 6 ≠ 0) ||
    (List.range 8).any (fun n =>
      let tail := planByte b (9 + 8 * n)
      decide (tail % 4 = 3 ∨ tail / 4 % 4 ≠ 0 ∨ 128 ≤ tail ∨ 52 < planEchoN b n ∨ planFull b (12 + 8 * n) ≠ 0) ||
        (if planRing b n then decide (planSlots b n = 0 ∨ 96 < planSlots b n ∨ planHop b n < 36) else decide (planSlots b n ≠ 0))) ||
    decide (planFull b 0x78 ≠ 0 ∨ planFull b 0x7C ≠ 0) ||
    (List.range 768).any (fun i =>
      let w := planPos b i
      bit w 31 || (decide (fld w 0 16 ≠ 0xFFFF) && decide (words ≤ fld w 0 16 + 2)))

/-- OUT_PHASE of the bank in force and of the staged one. -/
def State.outPhases (s : State) : List Nat :=
  (if s.pump.inForce then [(s.lay s.pump.active).outPhase] else []) ++ (if s.pump.stagedBank then [(s.lay s.standby).outPhase] else [])

/-- A ring-plan image (R260, R261). -/
def State.loadPlan (s : State) (src len : Nat) : LoadEnd :=
  let b := bytesMap 0 (s.imgBytes src 0x60 0x3100)
  if len = 0x3160 ∧ (s.pw.mode = .armed ∨ s.pw.mode = .run) ∧ s.planGeometry b then (0x09, modeCode s.pw.mode, s)
  else if s.plan.staged then (0x10, 0, s)
  else if len ≠ 0x3160 ∨ s.planBodyBad b then (0x05, 0, s)
  else if planApply b < 2 ∨ (s.outPhases).any (fun o => !s.phasesFit b o) then (0x0D, planApply b, s)
  else (0, 0, { s with plan.staged := true, plan.next := b })

/-! ## Guard profiles (R336, R345, R349–R356) -/

/-- A 64-byte cell limit set at byte `o` of the image breaks R350. -/
def State.limitSetBad (s : State) (src o : Nat) : Bool :=
  decide (s.img src o 2 ≠ 0x4C53 ∨ s.img src (o + 2) 1 ≠ 1 ∨ 4 ≤ s.img src (o + 3) 1 ∨ s.img src (o + 8) 1 = 0 ∨ 16 < s.img src (o + 8) 1 ∨
    s.img src (o + 9) 1 / 2 % 8 ≠ 0) || !s.imgZero src (o + 0x0A) 2 || !s.imgZero src (o + 0x2C) 20

/-- A frequency stage of the image holds a point outside 40.00–70.00 Hz (R354). -/
def State.curveBad (s : State) (src k : Nat) : Bool :=
  let kind := s.img src (0xA0 + 4 * k) 4 % 16
  decide (kind = 4 ∨ kind = 5) && (List.range 8).any (fun p =>
    let lv := s.img src (0xE0 + 32 * k + 4 * p + 2) 2
    decide (lv ≠ 0 ∧ (lv < 4000 ∨ 7000 < lv)))

/-- The body of a Guard profile breaks its table, a register's range, or repeats the switch pattern (R336, R345). -/
def State.profileBad (s : State) (src : Nat) : Bool :=
  let w (o : Nat) : Word := w32 (s.img src o 4)
  let out (v lo hi : Nat) : Bool := decide (v < lo ∨ hi < v)
  decide (s.img src 0x68 2 = s.img src 0x6A 2) || !s.imgZero src 0x6D 3 || !s.imgZero src 0x9C 4 || !s.imgZero src 0x2EC 4 ||
    fltW (w 0x70) 0x3F000000 || fltW 0x41A00000 (w 0x70) || fNonFinite (w 0x70) ||
    out (fld (w 0x78) 0 5) 1 16 || out (fld (w 0x78) 8 4) 2 8 || out (fld (w 0x78) 16 5) 2 31 ||
    (List.range 3).any (fun k => decide (150 < fld (w (0x80 + 4 * k)) 0 8)) || out (fld (w 0x8C) 0 14) 100 10000 ||
    out (fld (w 0x2E0) 8 4) 1 10 || out (fld (w 0x2E4) 0 10) 5 500 || decide (8 < fld (w 0x2E8) 0 4) ||
    (List.range 16).any (fun k => s.curveBad src k) ||
    (List.range 8).any (fun k => (s.img src 0x6C 1).testBit k && s.limitSetBad src (0x2F0 + 64 * k))

/-- A Guard-profile image: accepted once in an open session whose NEW_DIGEST it has; a restore makes it active, a change stages it
(R349). -/
def State.loadProfile (s : State) (src len : Nat) : LoadEnd :=
  let img := s.imgBytes src 0 len
  if s.grd.staged then (0x10, 0, s)
  else if ¬(s.grd.session = 1 ∨ s.grd.session = 2) ∨ digestBV (sha256 img) ≠ s.grd.sessionDigest then (0x11, 0, s)
  else if len ≠ 0x4F0 ∨ s.profileBad src then (0x05, 0, s)
  else if s.grd.session = 1 then (0, 0, { (s.setNvBytes 0x600 img) with grd.staged := true })
  else (0, 0, (((s.setNvBytes 0x100 img).guardChange State.verifyProfile).sealClose).sealDone ((s.activeSlot 48).getD 0))

/-! ## The commands -/

/-- Steps 7 to 9 of R435, by TYPE. -/
def State.loadTarget (s : State) (src len ty : Nat) (t : Word) : LoadEnd :=
  match ty with
  | 1 => if t ≠ 0 then (0x0A, 0, s) else s.loadSchedule src len
  | 2 =>
    if !s.validFor t 1 then (0x0A, 0, s.staleRecord t Reg.HOST_LOAD_CMD)
    else if (s.chan (hIndex t)).st ≠ 1 ∨ !s.replaceOk (hIndex t) then (0x0A, 0, s)
    else s.loadChannel src len (hIndex t)
  | 3 => if 7 < t.toNat then (0x0A, 0, s) else s.loadTable src len t.toNat
  | 4 => if t ≠ 0 then (0x0A, 0, s) else s.loadPlan src len
  | _ => if t ≠ 0 then (0x0A, 0, s) else s.loadProfile src len

/-- All the checks of R435 on the image at `src` for target `t`. -/
def State.loadJudge (s : State) (src : Nat) (t : Word) : LoadEnd :=
  match s.headerFail src with
  | some (c, d) => (c, d, s)
  | none => s.loadTarget src (s.img src 8 4) (s.img src 4 1) t

/-- TYPE as the entry of the load names it: 0 where no header can be read. -/
def State.loadType (s : State) (src : Nat) : Nat := if 0x100000 < src + 0x60 then 0 else s.img src 4 1

/-- LOAD_CMD 0x01 starts a load, ignored while BUSY (R43). -/
def State.loadStartOp (s : State) : State :=
  if s.loaderBusy then s
  else ({ s with pw.load := some ((s.getR Reg.HOST_LOAD_SRC).toNat, s.getR Reg.HOST_LOAD_TARGET, s.clk.tick) }).setR Reg.HOST_LOAD_STAT 1

/-- The loader ends at once with a code of its own: an abort, or a host write into the image (R43, R435). -/
def State.loadEndWith (s : State) (code : Nat) : State :=
  match s.pw.load with
  | some (src, _, _) => ({ s with pw.load := none }).loadResult code 0 (s.loadType src)
  | none => match s.drainJob with
    | some _ => ({ s with drainJob := none }).loadResult code 0 0
    | none => s

/-- LOAD_CMD: 0x01 start, 0x02 abort, other values ignored (R43). -/
def State.loadCmdOp (s : State) (v : Nat) : State :=
  match v with
  | 1 => s.loadStartOp
  | 2 => s.loadEndWith 0x0F
  | _ => s

/-- LOAD_START (R43). -/
def execLoadStart (s : State) : Host.Outcome State Fault Refusal := hostCmd s Pg.HOST (fun s => s.loadCmdOp 1)

/-- LOAD_ABORT (R43). -/
def execLoadAbort (s : State) : Host.Outcome State Fault Refusal := hostCmd s Pg.HOST (fun s => s.loadCmdOp 2)

/-- The load in progress ends with the verdict of its checks (R43, R435). -/
def State.loadDone (s : State) (src : Nat) (t : Word) : State :=
  let r := s.loadJudge src t
  let s1 := { r.2.2 with pw.load := none }
  let s2 := if r.1 = 0 then s1.setR Reg.HOST_LOAD_TAG (w32 (s.img src 0x14 4)) else s1
  s2.loadResult r.1 r.2.1 (s.loadType src)

/-- LOAD_DONE (R43, R435). -/
def execLoadDone (s : State) : Host.Outcome State Fault Refusal :=
  match s.pw.load with
  | none => done s
  | some (src, t, _) => done (s.loadDone src t)

end Sys2Proof.Machine
end

