-- ==== Sys2Proof/Machine/Keeper.lean ====
section
/-! DEFINITION. The Keeper and the Cistern (spec/18_keeper_cistern.md). The store, the temperature and the harvest are measured:
operands of the wake. Bursts are judged at wakes. -/
namespace Sys2Proof.Machine

/-- A Keeper interrupt: the KEEP page's registers are kept by the Keeper, whatever the control domain does (R391). -/
def State.keepIrq (s : State) (b : Nat) : State := s.irq Pg.KEEP b

/-- A persistent entry of class `cls` about the Keeper: through the log when the control domain is powered, and otherwise by the
Keeper itself (R408). -/
def State.keepLog (s : State) (cls : Nat) (irqBit : Option Nat) : State :=
  if s.awake then s.logE cls irqBit Pg.KEEP 0 [] else s.keeperLog cls Pg.KEEP []

/-- Store measured last, in mV. -/
def State.store (s : State) : Nat := s.getF Reg.KEEP_STORE_V 0 13

/-- Is a measurement admitted (R381)? -/
def State.measOk (s : State) : Bool :=
  if s.kp.st = 1 then decide (s.getF Reg.KEEP_STORE_MEASURE 0 13 ≤ s.store) else s.kp.kpg

/-- May a burst become pending (R381)? -/
def State.txOk (s : State) : Bool :=
  if s.kp.st = 1 then decide (s.getF Reg.KEEP_STORE_TRANSMIT 0 13 ≤ s.store) else s.kp.kpg

/-- Make a burst of a type pending; one that falls due while another is pending merges, the higher TYPE kept (R381, R389). -/
def State.burstDue (s : State) (ty : Nat) : State :=
  if !s.txOk then s
  else match s.kp.burstPend with
    | some t => { s with kp.burstPend := some (max t ty) }
    | none => { s with kp.burstPend := some ty, kp.burstDenied := false }

/-- KPG and the Keeper's state follow the store (R380): KPG asserts at 3.60 V and negates below 3.00 V. -/
def State.kpgFollow (s : State) : State :=
  let v := s.store
  let k := if 3600 ≤ v then true else if v < 3000 then false else s.kp.kpg
  let s1 := if k = s.kp.kpg then s else ({ s with kp.kpg := k }).keepIrq 5
  match s1.kp.st with
  | 0 => if k then { s1 with kp.st := 1 } else s1
  | 1 => if v < 3000 then { s1 with kp.st := 2 } else s1
  | 2 => if k then { s1 with kp.st := 1 } else s1
  | _ => s1

/-- The 32-byte form of a stored persistent entry: HANDLE and DATA bytes 8–11 read 0 (R410). -/
def unpackPersistent (e : PEntry) : List Byte := e.take 16 ++ [0, 0, 0, 0] ++ (e.drop 16).take 8 ++ [0, 0, 0, 0]

/-- The k-th newest stored persistent entry, counting from 0 (R410). -/
def State.persistentBack (s : State) (k : Nat) : List Byte :=
  if k < s.kp.pCount then unpackPersistent (s.nvBytes (0x2000 + 24 * ((s.kp.pNext + 2048 - 1 - k) % 1024)) 24)
  else List.replicate 32 0

/-- KEEP.STAT as it reads (R391). -/
def State.keepStat (s : State) : Nat :=
  s.kp.st + 4 * b2n s.kp.kpg + 8 * b2n s.kp.cistConn + 16 * b2n (decide (s.getR Reg.KEEP_CHG_STAT &&& 0x13 ≠ 0)) +
    32 * b2n s.kp.rtcValid + 64 * b2n s.kp.vddioSrc + 128 * b2n (decide (s.getF Reg.KEEP_STORE_MEASURE 0 13 ≤ s.store)) +
    256 * b2n (decide (s.getF Reg.KEEP_STORE_TRANSMIT 0 13 ≤ s.store))

/-- The bytes 0x04 to 0x7B of a beacon frame (R389). -/
def State.beaconBody (s : State) (ty : Nat) : List Byte :=
  leBytes 2 0xD42D ++ leBytes 1 ty ++ leBytes 1 (s.getR Reg.KEEP_BURST_CNT).toNat ++ leBytes 8 Config.uid.toNat ++
    leBytes 4 (if s.kp.rtcValid then s.kp.rtcSec else 0) ++ leBytes 2 s.store ++ leBytes 2 s.keepStat ++
    leBytes 4 (s.kp.pNewest.getD 0).toNat ++ leBytes 4 0 ++ s.persistentBack 0 ++ s.persistentBack 1 ++ List.replicate 28 0

/-- A whole beacon frame of 128 bytes: preamble, body and CRC-32 (R389). -/
def State.beaconFrame (s : State) (ty : Nat) : List Byte :=
  [0x55, 0x55, 0x55, 0x55] ++ s.beaconBody ty ++ leBytes 4 (crc32 (s.beaconBody ty)).toNat

/-- The voltage drop a frame is expected to cost, in mV (R382). -/
def State.dvEst (s : State) : Nat := max (s.getF Reg.KEEP_BURST_DV 0 9) (s.getF Reg.KEEP_BURST_STAT 16 16)

/-- Start the pending burst (R389). -/
def State.burstStart (s : State) (ty : Nat) : State :=
  let n := s.getF Reg.KEEP_BEACON_CFG 4 4
  let s1 := { s with kp.burstPend := none, kp.burstDenied := false, kp.burstRun := some (ty, n, s.store), kp.burstCut := none,
                     kp.beacon := s.beaconFrame ty }
  s1.setB Reg.KEEP_BURST_STAT 8 false

/-- Judge the pending burst at a wake: V − n × DV_EST > STORE_MEASURE in SERVICE, KPG elsewhere; a denial counts once (R382). -/
def State.burstJudge (s : State) : State :=
  match s.kp.burstPend, s.kp.burstRun with
  | some ty, none =>
    let n := s.getF Reg.KEEP_BEACON_CFG 4 4
    let ok := if s.kp.st = 1 then decide (s.getF Reg.KEEP_STORE_MEASURE 0 13 + n * s.dvEst < s.store) else s.kp.kpg
    if ok then s.burstStart ty
    else if s.kp.burstDenied then s
    else ({ s with kp.burstDenied := true }).incSat Reg.KEEP_DENY_CNT
  | _, _ => s

/-- An aborted burst is pending again once the store exceeds STORE_TRANSMIT + 100 mV (R383). -/
def State.burstRetryDue (s : State) : State :=
  match s.kp.burstRetry with
  | none => s
  | some ty =>
    if s.getF Reg.KEEP_STORE_TRANSMIT 0 13 + 100 < s.store then
      let s1 := { s with kp.burstRetry := none, kp.burstPend := some (max ty (s.kp.burstPend.getD 0)), kp.burstDenied := false }
      s1.setB Reg.KEEP_BURST_STAT 9 false
    else s

/-- KEEPER_WAKE (R378, R380–R382): the regulators wake, the store is measured, KPG and the state follow, and pending bursts are
judged. A cell cut off is connected again once a source has raised VKEEP above 3.00 V (R379). -/
def execKeeperWake (store : BitVec 13) (temp : BitVec 16) (harvest : Word) (vddio : Bool) (s : State) :
    Host.Outcome State Fault Refusal :=
  let s1 := ((s.setR Reg.KEEP_STORE_V (w32 store.toNat)).setR Reg.KEEP_TEMP (w32 temp.toNat)).setR Reg.KEEP_HARVEST harvest
  let s2 := { s1 with kp.vddioSrc := vddio, kp.vkeepOk := decide (2000 ≤ store.toNat) }
  let s3 := if store.toNat < s2.getF Reg.KEEP_STORE_MEASURE 0 13 ∧ s2.getF Reg.KEEP_STORE_MEASURE 0 13 ≤ s.store then s2.keepIrq 0 else s2
  let s4 := if 3000 < store.toNat && !s3.kp.cistConn then
      ({ s3 with kp.cistConn := true }).setB Reg.KEEP_CHG_STAT 5 false else s3
  done s4.kpgFollow.burstRetryDue.burstJudge

/-- CHARGER_STAGE_CHANGE (R379): the charger's stage, shown in CHG_STAT; it does not charge a disconnected cell. -/
def execChargerStageChange (stage : ChargeStage) (s : State) : Host.Outcome State Fault Refusal :=
  if !s.kp.cistConn then done s
  else
    let v : Word := match stage with
      | .constantCurrent => 0x01
      | .constantVoltage => 0x02
      | .done => 0x04
      | .cold => 0x08
      | .trickle => 0x10
    done (s.setR Reg.KEEP_CHG_STAT v)

/-- CISTERN_CUTOFF (R379): below 2.90 V the cell is disconnected; the RTC, sensing and bursts stop and only the nonvolatile memory
keeps its contents. -/
def execCisternCutoff (s : State) : Host.Outcome State Fault Refusal :=
  done (({ s with kp.cistConn := false, kp.rtcValid := false, kp.burstPend := none, kp.burstRun := none, kp.burstRetry := none }).setR
    Reg.KEEP_CHG_STAT 0x20)

/-- Combine the two grid-return channels (R387). -/
def grCombine (sel : Nat) (a b : Bool) : Bool :=
  match sel with
  | 0 => a
  | 1 => b
  | 2 => a && b
  | _ => a || b

/-- Grid return confirmed (R388). -/
def State.gridReturn (s : State) : State :=
  let s1 := (s.setR Reg.KEEP_GR_STAT (s.getR Reg.KEEP_GR_STAT ||| 0x101)).incSat Reg.KEEP_GR_CNT
  let s2 := (s1.keepIrq 1).keepLog 8 (some 1)
  if s2.getB Reg.KEEP_BEACON_CFG 1 then s2.burstDue 3 else s2

/-- Grid loss confirmed (R388). -/
def State.gridLoss (s : State) : State :=
  ((s.setR Reg.KEEP_GR_STAT (s.getR Reg.KEEP_GR_STAT &&& ~~~0x101)).keepIrq 2).keepLog 8 (some 2)

/-- GRID_RETURN_SAMPLE (R387, R388): `a14` and `a15` are the comparators' results. Skipped samples neither break the run nor add. -/
def execGridReturnSample (a14 a15 : Bool) (s : State) : Host.Outcome State Fault Refusal :=
  if !s.getB Reg.KEEP_GR_CFG 0 then done s
  else if !s.measOk then done (s.incSat Reg.KEEP_SKIP_CNT)
  else
    let r := grCombine (s.getF Reg.KEEP_GR_CFG 1 2) a14 a15
    let present := s.getB Reg.KEEP_GR_STAT 0
    let run := if r = present then 0 else if s.kp.grCand = r then satInc 4 (s.getF Reg.KEEP_GR_STAT 4 4) else 1
    let s1 := (((({ s with kp.grCand := r }).setB Reg.KEEP_GR_STAT 1 a14).setB Reg.KEEP_GR_STAT 2 a15).setF Reg.KEEP_GR_STAT 4 4 run)
    if r ≠ present ∧ s.getF Reg.KEEP_GR_CFG 8 4 ≤ run then
      let s2 := s1.setF Reg.KEEP_GR_STAT 4 4 0
      done (if r then s2.gridReturn else s2.gridLoss)
    else done s1

/-- BURST_BROWNOUT_CHECK (R383): frame number `frame` (from 0) is in progress and completes; no further frame is sent. -/
def execBurstBrownoutCheck (store : BitVec 13) (frame : Fin 8) (s : State) : Host.Outcome State Fault Refusal :=
  match s.kp.burstRun with
  | none => done s
  | some (ty, _, _) =>
    let s1 := s.setR Reg.KEEP_STORE_V (w32 store.toNat)
    let limit := if s.kp.st = 1 then s.getF Reg.KEEP_STORE_BROWN 0 13 else 3000
    if store.toNat < limit ∧ s.kp.burstCut = none then
      let s2 := { s1 with kp.burstCut := some (frame.val + 1), kp.burstRetry := some ty }
      let s3 := (s2.setF Reg.KEEP_BURST_STAT 8 2 3).incSat Reg.KEEP_ABORT_CNT
      done ((s3.keepIrq 3).keepLog 8 (some 3))
    else done s1

/-- BURST_END (R382, R389): LAST_DV is the fall of the store over the frames sent, divided by their number, rounded up to 1 mV. -/
def execBurstEnd (store : BitVec 13) (s : State) : Host.Outcome State Fault Refusal :=
  match s.kp.burstRun with
  | none => done s
  | some (_, n, v0) =>
    let sent := min n (s.kp.burstCut.getD n)
    let dv := (v0 - store.toNat + sent - 1) / max 1 sent
    let s1 := { s with kp.burstRun := none, kp.burstCut := none }
    let s2 := ((s1.setR Reg.KEEP_STORE_V (w32 store.toNat)).setF Reg.KEEP_BURST_STAT 0 4 sent).setF Reg.KEEP_BURST_STAT 16 16 dv
    let s3 := if s.kp.burstCut.isNone then s2.incSat Reg.KEEP_BURST_CNT else s2
    let s4 := s3.setF (Hdr.EVENT_CNT Pg.KEEP) 16 16 (satAdd 16 (s3.getF (Hdr.EVENT_CNT Pg.KEEP) 16 16) sent)
    done (s4.keepIrq 4)

/-- BEACON_PERIOD_EXPIRE (R389). -/
def execBeaconPeriodExpire (s : State) : Host.Outcome State Fault Refusal :=
  if s.getB Reg.KEEP_BEACON_CFG 0 then done (s.burstDue 1) else done s

/-- BEACON_CMD.SEND makes a burst pending (R389). -/
def State.beaconSendOp (s : State) : State := s.burstDue 2

/-- BEACON_SEND (R389). -/
def execBeaconSend (s : State) : Host.Outcome State Fault Refusal := hostCmd s Pg.KEEP State.beaconSendOp

/-- RTC_SECOND (R384): at a whole second the RTC counts on; with RTC_SYNC and a trusted time it is loaded from plant time. -/
def execRtcSecond (s : State) : Host.Outcome State Fault Refusal :=
  if !s.kp.cistConn && !s.kp.vddioSrc then done s
  else if s.awake && s.getB Reg.KEEP_CTRL 1 && !s.getB Reg.TIME_SERVO_STAT 8 then
    done { s with kp.rtcSec := s.sec, kp.rtcFrac := s.ns * 32768 / 1000000000, kp.rtcValid := true }
  else done { s with kp.rtcSec := (s.kp.rtcSec + 1) % 2 ^ 48, kp.rtcFrac := 0 }

/-- WAKE_CLR releases KWAKE until the next grid return (R388). -/
def State.wakeClrOp (s : State) : State := s.setB Reg.KEEP_GR_STAT 8 false

/-- WAKE_CLR (R388). -/
def execWakeClr (s : State) : Host.Outcome State Fault Refusal := hostCmd s Pg.KEEP State.wakeClrOp

/-- KEEP.CLEAR clears the counters at 0x098–0x0A8 (R391). -/
def State.keepClearOp (s : State) : State :=
  ((((s.setR Reg.KEEP_BURST_CNT 0).setR Reg.KEEP_ABORT_CNT 0).setR Reg.KEEP_DENY_CNT 0).setR Reg.KEEP_SKIP_CNT 0).setR Reg.KEEP_GR_CNT 0

/-- KEEP_CLEAR (R391). -/
def execKeepClear (s : State) : Host.Outcome State Fault Refusal := hostCmd s Pg.KEEP State.keepClearOp

/-- KEEP.CTRL.TEST changes the Keeper's state, in CONFIGURE only (R380). -/
def State.keepTest (s : State) (on : Bool) : State :=
  if on then { s with kp.st := 3 }
  else if s.kp.st = 3 then { s with kp.st := if s.kp.kpg then 1 else 0 } else s

/-- KEEPER_RESET (R56, R380): the RTC is invalid, the Keeper is in START, and the reset shows in RESET_CAUSE[4] at the next BOOT. -/
def execKeeperReset (s : State) : Host.Outcome State Fault Refusal :=
  let s1 := { s with kp.rtcValid := false, kp.st := 0, kp.kpg := false, kp.burstPend := none, kp.burstRun := none,
                     kp.burstCut := none, kp.burstRetry := none, pw.causePending := s.pw.causePending ||| 16 }
  done s1

end Sys2Proof.Machine
end

