-- ==== Sys2Proof/Machine/Service.lean ====
section
/-! DEFINITION. The event log's commands, memory scrubbing, ageing and health (spec/20_service_life_log.md). -/
namespace Sys2Proof.Machine

/-- Store the oldest waiting persistent entry in the Keeper ring, or count it as failed (R408, R410). -/
def State.persistOne (s : State) (e : PEntry) (rest : List PEntry) : State :=
  let s1 := { s with kp.pq := rest }
  if s.kp.vkeepOk && s.kp.headerOk then
    let s2 := s1.setNvBytes (0x2000 + 24 * s.kp.pNext) e
    let s3 := { s2 with kp.pNext := (s.kp.pNext + 1) % 1024, kp.pCount := min 1024 (s.kp.pCount + 1),
                        kp.pNewest := some (w32 (leNat ((e.drop 8).take 4))) }
    if s.awake then (s3.incMod Reg.LOG_P_WR_CNT).blockEv Pg.LOG else s3
  else if s.awake then (s1.incSat Reg.LOG_P_FAIL_CNT).irq Pg.LOG 2 else s1

/-- LOG_PERSIST_WRITE (R408, R410). -/
def execLogPersistWrite (s : State) : Host.Outcome State Fault Refusal :=
  match s.kp.pq with
  | [] => done s
  | e :: rest => done (s.persistOne e rest)

/-- A write to VOL_RD: refused when it would pass VOL_WR (R409). -/
def State.volRdOp (s : State) (data : Word) : State :=
  let rd := s.getF Reg.LOG_VOL_RD 0 13
  let v := fld data 0 13
  if s.volHeld < (v + 8192 - rd) % 8192 then s.refuse Pg.LOG else s.setF Reg.LOG_VOL_RD 0 13 v

/-- VOL_RD_WRITE (R409). -/
def execVolRdWrite (data : Word) (s : State) : Host.Outcome State Fault Refusal := hostCmd s Pg.LOG (fun s => s.volRdOp data)

/-- LOG.CLEAR (R415). -/
def State.logClearOp (s : State) : State := (s.setR Reg.LOG_LOST_CNT 0).setR Reg.LOG_P_FAIL_CNT 0

/-- LOG_CLEAR (R415). -/
def execLogClear (s : State) : Host.Outcome State Fault Refusal := hostCmd s Pg.LOG State.logClearOp

/-- Host byte address of 64-bit word `p` of a scrub pass: Main SRAM, Schedule RAM, Table RAM, then the Sump (R411). -/
def scrubAddr (p : Nat) : Nat :=
  if p < 131072 then sramBase + 8 * p
  else if p < 147456 then schedBase + 8 * (p - 131072)
  else if p < 155648 then tableBase + 8 * (p - 147456)
  else 0x430000 + 8 * (p - 155648)

/-- Words of a scrub pass (R411). -/
abbrev scrubWords : Nat := 156160

/-- The scrubber moves on; a pass that ends is counted (R411, R416). -/
def State.scrubNext (s : State) : State :=
  let p := s.tst.scrubPos + 1
  if p = scrubWords then
    let s1 := { s with tst.scrubPos := 0 }
    ((s1.setF Reg.TEST_SCRUB_STAT 16 16 (s1.getF Reg.TEST_SCRUB_STAT 16 16 + 1)).setB Reg.TEST_SCRUB_STAT 0 false).blockEv Pg.TEST
  else ({ s with tst.scrubPos := p }).setB Reg.TEST_SCRUB_STAT 0 true

/-- A word corrected by the scrubber (R411). -/
def State.ceFound (s : State) (a : Nat) : State := ((s.incSat Reg.TEST_CE_CNT).setR Reg.TEST_CE_ADDR (w32 a)).irq Pg.TEST 0

/-- SCRUB_STEP (R411, R412): nothing while SCRUB_CFG.EN = 0. -/
def execScrubStep (ecc : Ecc) (s : State) : Host.Outcome State Fault Refusal :=
  if !s.awake || !s.getB Reg.TEST_SCRUB_CFG 0 then done s
  else
    let a := scrubAddr s.tst.scrubPos
    let s1 := match ecc with
      | .good => s
      | .single => s.ceFound a
      | .uncorrectable => s.ueFound a
    done s1.scrubNext

/-- Set an ageing flag once, with interrupt and entry (R413). -/
def State.ageFlag (s : State) (b : Nat) (c : Bool) : State :=
  if c && !s.getB Reg.TEST_AGE_STAT b then (s.setB Reg.TEST_AGE_STAT b true).irqLog 1 2 Pg.TEST 0 [] else s

/-- Judge the excursion counts against the thresholds of R413. -/
def State.ageJudge (s : State) : State :=
  let n := (s.getR Reg.TEST_SEC_105).toNat
  ((s.ageFlag 1 (decide (3240000 ≤ n))).ageFlag 2 (decide (3600000 ≤ n))).ageFlag 3 (decide (s.getR Reg.TEST_SEC_125 ≠ 0))

/-- TEMP_SAMPLE (R413): `tj` in 0.1 °C, signed. -/
def execTempSample (tj : BitVec 16) (s : State) : Host.Outcome State Fault Refusal :=
  if !s.awake then done s
  else
    let s1 := s.setR Reg.TEST_TJ (w32 tj.toNat)
    let s2 := if 1050 < tj.toInt then s1.incSat Reg.TEST_SEC_105 else s1
    let s3 := if 1250 < tj.toInt then s2.incSat Reg.TEST_SEC_125 else s2
    done s3.ageJudge

/-- AGEING_RECORD (R413): a class 9 entry with both counts. -/
def execAgeingRecord (s : State) : Host.Outcome State Fault Refusal :=
  if !s.awake then done s
  else done (s.logE 9 none Pg.TEST 0 [(4, (s.getR Reg.TEST_SEC_105).toNat), (4, (s.getR Reg.TEST_SEC_125).toNat)])

/-- AGE_CMD.LOAD: accepted in CONFIGURE only (R413). -/
def State.ageLoadOp (s : State) : State :=
  if s.pw.mode = .configure then
    ((s.setR Reg.TEST_SEC_105 (s.getR Reg.TEST_AGE_LOAD_105)).setR Reg.TEST_SEC_125 (s.getR Reg.TEST_AGE_LOAD_125)).ageJudge
  else s.refuse Pg.TEST

/-- AGE_LOAD (R413). -/
def execAgeLoad (s : State) : Host.Outcome State Fault Refusal := hostCmd s Pg.TEST State.ageLoadOp

/-- RO_MEASURE (R414): `drift` is the measured change of the ratio, signed ppm. -/
def execRoMeasure (drift : Word) (s : State) : Host.Outcome State Fault Refusal :=
  if !s.awake then done s
  else
    let s1 := s.setR Reg.TEST_RO_DRIFT drift
    if s.getF Reg.TEST_RO_LIM 0 16 < drift.toInt.natAbs then
      done ((s1.setB Reg.TEST_AGE_STAT 4 true).irqLog 1 3 Pg.TEST 0 [])
    else done s1

/-- TEST.CLEAR bit 0 (R416). -/
def State.testClearErrOp (s : State) : State :=
  (((s.setR Reg.TEST_CE_CNT 0).setR Reg.TEST_UE_CNT 0).setR Reg.TEST_CE_ADDR 0).setR Reg.TEST_UE_ADDR 0

/-- TEST.CLEAR bit 1 (R416). -/
def State.testClearLaneOp (s : State) : State :=
  (List.range 16).foldl (fun s k => s.setR (Reg.TEST_LANE_MIN k) 0xFF) s

/-- TEST_CLEAR_ERRORS (R416). -/
def execTestClearErrors (s : State) : Host.Outcome State Fault Refusal := hostCmd s Pg.TEST State.testClearErrOp

/-- TEST_CLEAR_LANE_MIN (R416). -/
def execTestClearLaneMin (s : State) : Host.Outcome State Fault Refusal := hostCmd s Pg.TEST State.testClearLaneOp

end Sys2Proof.Machine
end

