-- ==== Sys2Proof/Machine/Power.lean ====
section
/-! DEFINITION. Power, reset and BOOT (R1, R51–R56, R384, R386, R413). The end of BOOT is an E0 and stands in Epoch.lean. -/
namespace Sys2Proof.Machine

/-- The role that ROLE1:0 encode (R1). -/
def roleOf (balls : BitVec 2) : Role :=
  match balls.toNat with
  | 0 => .wellhead
  | 1 => .cell
  | 2 => .standby
  | _ => .test

/-- The registers that a reset of the control domain leaves: those the Guard and the Keeper keep, but their LOCK (R35, R56, R391), and the
log's sequence, which goes on (R408). -/
def keptReg (a : Nat) : Bool :=
  ((decide (Pg.GRD ≤ a / 4096 ∧ a / 4096 ≤ Pg.GSAFE) || decide (a / 4096 = Pg.KEEP)) && decide (a % 4096 ≠ 0x18)) ||
    decide (a = Reg.LOG_SEQ_NEXT)

/-- The Keeper's record shows ARMED, RUN or SAFE (R52). -/
def State.priorActive (s : State) : Bool := decide (s.kp.modeRec = .armed ∨ s.kp.modeRec = .run ∨ s.kp.modeRec = .safe)

/-- The control domain takes its reset values (R56): the Guard die, the Keeper, the role latch, the contents of Main SRAM, what the
islands report and the model's own fields stay; a seal session ends (R348, R349). -/
def State.controlReset (s : State) (m : Mode) (cause : BitVec 5) : State :=
  let s0 := s.sealClose
  let r := State.reset
  { r with
    pending := s0.pending, freeCtr := s0.freeCtr, grd := s0.grd, kp := s0.kp,
    clk := { r.clk with tick := s0.clk.tick },
    pw := { r.pw with mode := m, role := s0.pw.role, roleBalls := s0.pw.roleBalls, hostBank18 := s0.pw.hostBank18,
                      causePending := s0.pw.causePending ||| cause, cblock := decide (m = .dormant), prior := s0.priorActive },
    regs := SMap.keep (fun a _ => keptReg a) s0.regs,
    mem := SMap.keep (fun a _ => decide (a < 0x200000)) s0.mem,
    isls := (List.range 8).foldl (fun m n =>
      let i := s0.isl n
      SMap.set island0 n { island0 with vddGood := i.vddGood, veeGood := i.veeGood, linkOk := i.linkOk } m) [],
    tst := r.tst }

/-- In the Cell role LANE0 to LANE3 reset in SERVICE with adaptation and tuning (R226). -/
def State.cellLanes (s : State) : State :=
  if s.pw.role = .cell then
    (List.range 4).foldl (fun t k => (t.laneModeSet k 1).setR (Reg.LANEn_CTRL k) 0x31) s
  else s

/-- BOOT is entered: at the release of the internal reset, or at RESET_N or a software reset (R46, R56). -/
def State.enterBoot (s : State) (cause : BitVec 5) : State := (s.controlReset .boot cause).cellLanes

/-- Code of what a last-gasp entry names: POR_N as 0, then the rails in the order of R54's table. -/
def railCode : Rail → Nat
  | .vddc => 1
  | .vddl => 2
  | .vddlh => 3
  | .vddio => 4
  | .vdda => 5

/-- LAST_GASP (R54, R386): the Keeper writes an entry with the mode and the rail while VKEEP is at or above 2.0 V, and with ON_LOSS a
burst becomes pending after it. -/
def State.lastGasp (s : State) (rail : Nat) : State :=
  if s.kp.vkeepOk then
    let s1 := s.keeperLog 6 Pg.PWR (leBytes 1 (modeCode s.pw.mode) ++ leBytes 1 rail)
    if s1.getB Reg.KEEP_BEACON_CFG 2 then s1.burstDue 4 else s1
  else { s with kp.gaspLost := true }

/-- The control domain loses its power or is held by POR_N (R54): block, last gasp, DORMANT. -/
def State.powerDown (s : State) (rail : Nat) (cause : BitVec 5) : State :=
  if s.awake then (s.lastGasp rail).controlReset .dormant cause
  else { s with pw.causePending := s.pw.causePending ||| cause }

/-- POR_N_RELEASE (R1, R46, R51). -/
def execPorNRelease (roleBalls : BitVec 2) (s : State) : Host.Outcome State Fault Refusal :=
  if s.awake then done { s with pw.roleBalls := roleBalls }
  else done ({ s with pw.role := roleOf roleBalls, pw.roleBalls := roleBalls }.enterBoot 0)

/-- POR_N_ASSERT (R54, R56). -/
def execPorNAssert (s : State) : Host.Outcome State Fault Refusal := done (s.powerDown 0 1)

/-- BROWN_OUT (R54, R56). -/
def execBrownOut (rail : Rail) (s : State) : Host.Outcome State Fault Refusal := done (s.powerDown (railCode rail) 2)

/-- RESET_N_ASSERT (R56). -/
def execResetNAssert (s : State) : Host.Outcome State Fault Refusal :=
  if s.awake then done (s.enterBoot 4) else done { s with pw.causePending := s.pw.causePending ||| 4 }

/-- PWR.SW_RESET: the key 0x6D0F resets; any other is refused (R56, R59). -/
def State.swResetOp (s : State) (key : Nat) : State := if key = 0x6D0F then s.enterBoot 8 else s.refuse Pg.PWR

/-- SW_RESET (R56). -/
def execSwReset (key : BitVec 16) (s : State) : Host.Outcome State Fault Refusal := hostCmd s Pg.PWR (fun s => s.swResetOp key.toNat)

/-! ## BOOT (R51) -/

/-- A fatal result: SAFE at once, active until reset (R51). -/
def State.fatal (s : State) : State := { s with pw.bootFatal := true }.enterSafe SafeCause.bootFatal

/-- BOOT goes on: entered, and its steps not yet run. -/
def State.booting (s : State) : Bool := decide (s.pw.mode = .boot ∨ s.pw.mode = .safe) && !s.pw.bootDone

/-- GUARD_HANDSHAKE_TIMEOUT (R51 step 3): no answer within 5 ms is fatal. -/
def execGuardHandshakeTimeout (s : State) : Host.Outcome State Fault Refusal :=
  if s.booting && !s.pw.guardTimeout then done ({ s with pw.guardTimeout := true }.fatal) else done s

/-- SEQ of the newest persistent entry, stored or waiting (R408). -/
def State.newestSeq (s : State) : Option Word :=
  match s.kp.pq.getLast? with
  | some e => some (w32 (leNat ((e.drop 8).take 4)))
  | none => s.kp.pNewest

/-- The newest class 9 entry among the `n` entries not older than the k-th newest of the ring. -/
def State.newestAgeing (s : State) (k : Nat) : Nat → Option (List Byte)
  | 0 => none
  | n + 1 =>
    let e := s.persistentBack k
    if leNat ((e.drop 12).take 2) / 4096 = 9 then some e else State.newestAgeing s (k + 1) n

/-- The ageing counts go on from the newest class 9 entry (R413). -/
def State.restoreAge (s : State) : State :=
  match s.newestAgeing 0 s.kp.pCount with
  | none => s
  | some e =>
    (((s.setR Reg.TEST_SEC_105 (w32 (leNat ((e.drop 20).take 4)))).setR Reg.TEST_SEC_125 (w32 (leNat ((e.drop 24).take 4)))).setB
      Reg.TEST_AGE_STAT 0 true).ageJudge

/-- Step 2: Schedule RAM, Table RAM and the Sump are zeroed, and Main SRAM after a power-on reset (R51, R56). -/
def State.zeroMemories (s : State) : State :=
  { s with sump := [], mem := if s.pw.causePending &&& 3 = 0 then SMap.keep (fun a _ => decide (a < 0x200000)) s.mem else [] }

/-- Step 4: the Guard verifies the profile, when steps 1 and 3 let it; a failure is logged (R51, spec/03 "When the Guard profile does not
verify"). -/
def State.bootVerify (s : State) (can : Bool) : State :=
  if !can then s
  else
    let s1 := s.guardChange State.verifyProfile
    if s1.grd.profileOk then s1
    else s1.logE 2 (if s.grd.profileOk then some 3 else none) Pg.GRD 0 []

/-- Step 5: the isolator link of each island whose supplies are present (R51). -/
def State.bootLinks (s : State) (links : BitVec 8) : State :=
  (List.range 8).foldl (fun t n => t.modIsl n (fun i => { i with linkOk := links.getLsbD n && i.vddGood && i.veeGood })) s

/-- The Keeper's own entries due at BOOT: a seal-switch change made without power, and the entry in place of a last gasp that could not
be written (R347, R386). -/
def State.bootEntries (s : State) : State :=
  let s1 := match s.kp.sealLater with
    | none => s
    | some (old, new) => ({ s with kp.sealLater := none }).irqLog 4 1 Pg.GSEAL 0 [(2, old.toNat), (2, new.toNat)]
  if s1.kp.gaspLost && s1.pw.prior then { (s1.logE 6 none Pg.PWR 0 [(1, modeCode s.kp.modeRec)]) with kp.gaspLost := false }
  else { s1 with kp.gaspLost := false }

/-- BOOT (R51): the seven steps in order. `otpOk` and `memOk` are the results of steps 1 and 2, `links` the island links that pass, and
`nvOk` the header check of step 6. -/
def execBoot (otpOk memOk : Bool) (links : BitVec 8) (nvOk : Bool) (s : State) : Host.Outcome State Fault Refusal :=
  if !s.booting then done s
  else
    let guardOk := !s.pw.guardTimeout && !s.grd.inReset
    let s1 := (s.zeroMemories).setR Reg.PWR_RESET_CAUSE (w32 s.pw.causePending.toNat)
    let s2 := { s1 with pw.bootDone := true, pw.causePending := 0, kp.headerOk := nvOk }
    let s3 := match s2.newestSeq with
      | none => s2.setR Reg.LOG_SEQ_NEXT 0
      | some q => s2.setR Reg.LOG_SEQ_NEXT (q + 1)
    let s4 := ((s3.bootVerify (otpOk && guardOk)).bootLinks links).bootEntries
    let ok := b2n otpOk + 2 * b2n memOk + 4 * b2n guardOk + 8 * b2n (otpOk && guardOk && s4.grd.profileOk) + 16 * b2n nvOk +
      2 ^ 8 * s4.islBits (·.linkOk) + 2 ^ 16
    let s5 := ((s4.setR Reg.PWR_BOOT_RESULT (w32 ok)).restoreAge).selectBand
    done (if otpOk && memOk && guardOk then s5 else if s.pw.bootFatal then s5 else s5.fatal)

end Sys2Proof.Machine
end

