-- ==== Sys2Proof/Machine/Ptp.lean ====
section
/-! DEFINITION. PTP: the slave-only ordinary clock (R364, R365). -/
namespace Sys2Proof.Machine

/-- PTP works: enabled, in a role that has it. -/
def State.ptpOn (s : State) : Bool := s.stnAwake && s.getB Reg.PTP_CFG 0

/-- A PTP message of a port: filtered, copied to the host with HOST_COPY (R363), and acted on while PTP is enabled. -/
def State.ptpReceive (s : State) (f : RxFrame) (sync : Bool) (act : State → State) : State :=
  s.stnReceive f sync (fun s _ => s.getB Reg.PTP_CFG 3) (fun s => if s.ptpOn then act s else s)

/-- PTP state (STAT[1:0]). -/
def State.ptpState (s : State) (st : Nat) : State := s.setF Reg.PTP_STAT 0 2 st

/-- A CFG write: disabling forgets masters and samples. -/
def State.ptpCfgOp (s : State) (data : Word) : State :=
  let s1 := s.setR Reg.PTP_CFG (data &&& 0xFFF0F)
  if bit data 0 then (if s.getB Reg.PTP_CFG 0 then s1 else s1.ptpState 1)
  else
    let s2 := { s1 with stn.master := none, stn.sync := none }
    ((s2.modStnP false (fun p => { p with pdOut := none, delays := [], ann := none })).modStnP true (fun p =>
      { p with pdOut := none, delays := [], ann := none })).setR Reg.PTP_STAT 0

/-! ## Peer delay -/

/-- PD_AVG, 0 taken as 1. -/
def State.pdAvg (s : State) : Nat := max 1 (s.getF Reg.PTP_CFG 16 4)

/-- PDELAY_REQ_TX (R364): each second, on each port in service; the request before it was left unanswered where it still waits. -/
def execPdelayReqTx (port : Bool) (s : State) : Host.Outcome State Fault Refusal :=
  if s.ptpOn && s.stnUp port then
    let p := s.stnP port
    let s1 := if p.pdOut.isSome then s.incSat Reg.PTP_PD_FAIL_CNT else s
    let t1 := s1.tsAdj port true s1.timeNs
    done ((s1.modStnP port (fun p => { p with pdSeq := p.pdSeq + 1, pdOut := some (p.pdSeq, t1) })).stnSendOn port (.pdelayReq p.pdSeq))
  else done s

/-- PDELAY_REQ_RECEIVE (R364): answered one-step, or two-step with a follow-up. -/
def execPdelayReqReceive (f : RxFrame) (seq : BitVec 16) (s : State) : Host.Outcome State Fault Refusal :=
  done (s.ptpReceive f false (fun s =>
    let one := s.getB Reg.PTP_CFG 2
    let s1 := s.stnSendOn f.port (.pdelayResp seq (!one) (s.tsAdj f.port false f.ts.toNat))
    if one then s1 else s1.stnSendOn f.port (.pdelayFollow seq)))

/-- The mean of the delays of a port in half nanoseconds: their sum and number. -/
def State.peerMean (s : State) (port : Bool) : Int × Nat :=
  let l := (s.stnP port).delays.take s.pdAvg
  (l.foldl (· + ·) 0, l.length)

/-- One of the whole numbers next to p / q where the rounding is not stated. -/
def State.pickInt (s : State) (p : Int) (q : Nat) : Int × State :=
  if p % q = 0 then (p / q, s) else let (f, s1) := s.takeFree; (p / q + b2n (bit f 0), s1)

/-- PDELAY_RESP_RECEIVE (R365): the answer to the request that waits; the delay is ((t4 − t1) − (t3 − t2) − correction) / 2. -/
def execPdelayRespReceive (f : RxFrame) (m : PdelayIn) (s : State) : Host.Outcome State Fault Refusal :=
  done (s.ptpReceive f false (fun s =>
    match (s.stnP f.port).pdOut with
    | none => s
    | some (seq, t1) =>
      if seq ≠ m.seq then s
      else
        let t4 : Int := s.tsAdj f.port false f.ts.toNat
        let (corr, s0) := s.pickInt m.corr.toInt 65536
        let d := (t4 - t1) - ((m.t3.toNat : Int) - m.t2.toNat) - corr
        let s1 := s0.modStnP f.port (fun p => { p with pdOut := none, delays := (d :: p.delays).take 16 })
        let (sum, k) := s1.peerMean f.port
        let (mpd, s2) := s1.pickInt sum (2 * max 1 k)
        s2.setR (if f.port then Reg.PTP_MPD1 else Reg.PTP_MPD0) (wInt mpd)))

/-! ## Best master (R365; the dataset comparison of IEEE 1588-2019) -/

/-- The order of two Announces: lower is better. -/
def annKey (a : AnnounceIn) : List Nat :=
  [a.prio1.toNat, a.cls.toNat, a.acc.toNat, a.var.toNat, a.prio2.toNat, a.gm.toNat]

/-- Lexicographic order of numbers. -/
def lexLt : List Nat → List Nat → Bool
  | [], _ => false
  | _, [] => false
  | a :: as, b :: bs => if a = b then lexLt as bs else decide (a < b)

/-- `a` is better than `b`: datasets of unlike grandmasters by their attributes, of one grandmaster by steps removed, then sender and
port. -/
def annBetter (a b : AnnounceIn) (pa pb : Bool) : Bool :=
  if a.gm = b.gm then lexLt [a.steps.toNat, a.src.toNat, b2n pa] [b.steps.toNat, b.src.toNat, b2n pb] else lexLt (annKey a) (annKey b)

/-- The better of the two ports' Announces, with its port. -/
def State.bestAnn (s : State) : Option (Bool × AnnounceIn) :=
  match (s.stnP false).ann, (s.stnP true).ann with
  | none, none => none
  | some a, none => some (false, a.1)
  | none, some b => some (true, b.1)
  | some a, some b => if annBetter b.1 a.1 true false then some (true, b.1) else some (false, a.1)

/-- The selected master's dataset shows in the registers (R364, R365). -/
def State.showMaster (s : State) (port : Bool) (a : AnnounceIn) : State :=
  let s1 := ((s.setR Reg.PTP_GM_ID_LO (a.gm.truncate 32)).setR Reg.PTP_GM_ID_HI ((a.gm >>> 32).truncate 32)).setR Reg.PTP_GM_PRIO
    (w32 (a.prio1.toNat + 2 ^ 8 * a.prio2.toNat + 2 ^ 16 * a.cls.toNat + 2 ^ 24 * a.acc.toNat))
  let s2 := ((s1.setB Reg.PTP_STAT 2 port).setB Reg.PTP_STAT 3 a.utcValid).setB Reg.PTP_STAT 4 a.tlv.isSome
  let s3 := match a.tlv with
    | some t => s2.setR Reg.PTP_TTI t
    | none => s2
  if a.utcValid then s3.setR Reg.PTP_UTC_OFFSET (w32 a.utc.toNat) else s3

/-- The selection after a change of what is heard: a change of master or port counts and is logged (R365). -/
def State.selectMaster (s : State) : State :=
  match s.bestAnn with
  | none => ({ s with stn.master := none, stn.sync := none }.setF Reg.PTP_STAT 2 3 0).ptpState 1
  | some (port, a) =>
    if s.stn.master = some (port, a.src) then s.showMaster port a
    else
      let s1 := ({ s with stn.master := some (port, a.src), stn.sync := none }.showMaster port a).ptpState 2
      (s1.incSat Reg.PTP_MASTER_CHG_CNT).irqLog 0 1 Pg.PTP 0 []

/-- ANNOUNCE_RECEIVE (R364, R365): under profile 1 only with the TLV. -/
def execAnnounceReceive (f : RxFrame) (a : AnnounceIn) (s : State) : Host.Outcome State Fault Refusal :=
  done (s.ptpReceive f false (fun s =>
    if a.domain.toNat ≠ s.getF Reg.PTP_CFG 8 8 ∨ (s.getB Reg.PTP_CFG 1 = true ∧ a.tlv = none) then s
    else
      let take_ := match (s.stnP f.port).ann with
        | none => true
        | some o => decide (o.1.src = a.src) || annBetter a o.1 f.port f.port
      if take_ then (s.modStnP f.port (fun p => { p with ann := some (a, s.clk.tick) })).selectMaster else s))

/-- ANNOUNCE_TIMEOUT (R365): three intervals without an Announce from the master heard on a port. -/
def execAnnounceTimeout (port : Bool) (s : State) : Host.Outcome State Fault Refusal :=
  match (s.stnP port).ann with
  | none => done s
  | some (a, t) =>
    if s.ptpOn then
      let s1 := s.advanceTo (t + 3 * a.interval.toNat * tickMs)
      done (((s1.incSat Reg.PTP_ANN_TMO_CNT).modStnP port (fun p => { p with ann := none })).selectMaster)
    else done s

/-! ## Offset samples (R365) -/

/-- The message is from the selected master, on its port and in the domain. -/
def State.fromMaster (s : State) (f : RxFrame) (m : PtpIn) : Bool :=
  decide (s.stn.master = some (f.port, m.src)) && decide (m.domain.toNat = s.getF Reg.PTP_CFG 8 8)

/-- θ = t2 − t1 − meanPathDelay − correction: to OFFSET, and to the servo when it is the source (R69, R365). Before a peer delay is known no
sample is formed. -/
def State.ptpSample (s : State) (port : Bool) (t1 t2 : Nat) (corr : Int) : State :=
  let (sum, k) := s.peerMean port
  if k = 0 then s
  else
    -- over a common denominator: corrections are in 2^−16 ns, delays in half ns
    let num := ((t2 : Int) - t1) * (65536 * (2 * k : Nat)) - sum * 65536 - corr * (2 * k : Nat)
    let (th, s1) := s.pickInt num (65536 * (2 * k))
    let s2 := ((s1.setR Reg.PTP_OFFSET (wInt th)).incMod Reg.PTP_SYNC_CNT).blockEv Pg.PTP
    let s3 := if s2.getF Reg.PTP_STAT 0 2 = 3 then s2 else (s2.ptpState 3).irq Pg.PTP 0
    if s3.servoSrc = 1 then s3.servoSample th else s3

/-- PTP_SYNC_RECEIVE (R365). -/
def execPtpSyncReceive (f : RxFrame) (m : PtpIn) (s : State) : Host.Outcome State Fault Refusal :=
  done (s.ptpReceive f (!m.twoStep) (fun s =>
    if s.fromMaster f m then
      let t2 := s.tsAdj f.port false f.ts.toNat
      if m.twoStep then { s with stn.sync := some (m.seq, t2, m.corr.toInt) } else s.ptpSample f.port m.origin.toNat t2 m.corr.toInt
    else s))

/-- PTP_FOLLOW_UP_RECEIVE (R365); in HSR the correction of a two-step Sync goes into its Follow_Up (R361). -/
def execPtpFollowUpReceive (f : RxFrame) (m : PtpIn) (s : State) : Host.Outcome State Fault Refusal :=
  done (s.ptpReceive f true (fun s =>
    match s.stn.sync with
    | some (seq, t2, corr) =>
      if s.fromMaster f m && decide (seq = m.seq) then ({ s with stn.sync := none }).ptpSample f.port m.origin.toNat t2 (corr + m.corr.toInt)
      else s
    | none => s))

/-- A host write to UTC_OFFSET: refused while the master gives it (R365). -/
def State.utcOffsetOp (s : State) (data : Word) : State :=
  if s.getB Reg.PTP_STAT 3 then s.refuse Pg.PTP else s.setR Reg.PTP_UTC_OFFSET (data &&& 0xFFFF)

/-- PTP.CLEAR (R375). -/
def State.ptpClearOp (s : State) : State := (List.range 4).foldl (fun s k => s.setR (Reg.PTP_ANN_TMO_CNT + 4 * k) 0) s
/-- PTP_CLEAR (R375). -/
def execPtpClear (s : State) : Host.Outcome State Fault Refusal := hostCmd s Pg.PTP State.ptpClearOp

end Sys2Proof.Machine
end

