-- ==== Sys2Proof/Machine/Views.lean ====
section
/-! DEFINITION. What a read of a register returns (R6, R7): the page header, the registers that show another part of the state, and the
snapshots of SNAP groups (R36). -/
namespace Sys2Proof.Machine

/-! ## The page header (R34, R39) -/

/-- PAGE_ID of page `p` (R34). -/
def pageId (p : Nat) : Word :=
  match pageInfo p with
  | none => 0
  | some i => w32 (i.first * 65536 + (p - i.first) * 256 + 1)

/-- PAGE_STAT of page `p` (R34). -/
def State.pageStat (s : State) (p : Nat) : Word :=
  let ev := s.getR (Hdr.EVENT_CNT p)
  w32 (b2n (s.idle p) + 2 * b2n (s.locked p) + 4 * b2n (s.getB (Hdr.SHADOW_CTRL p) 8) +
    8 * b2n (decide (fld ev 0 16 = 0xFFFF ∨ fld ev 16 16 = 0xFFFF)))

/-- A header word of page `p` (R34). -/
def State.readHeader (s : State) (p off : Nat) : Word :=
  match off with
  | 0x00 => pageId p
  | 0x08 => s.pageStat p
  | 0x14 => s.irqMasked p
  | 0x04 | 0x0C | 0x10 | 0x18 | 0x1C | 0x20 => s.getR (pageBase p + off)
  | _ => 0

/-! ## Views of HOST, ID, PWR, CLK and TIME -/

def State.readHost (s : State) (a : Nat) : Word :=
  if a = Reg.HOST_BUS_STAT then w32 (b2n s.pw.busSync + 2 * b2n s.pw.hostBank18)
  else if a = Reg.HOST_IRQ_SUMMARY 0 then s.irqSummary 0
  else if a = Reg.HOST_IRQ_SUMMARY 1 then s.irqSummary 1
  else if a = Reg.HOST_IRQ_SUMMARY 2 then s.irqSummary 2
  else if a = Reg.HOST_GPOST_STAT then w32 (s.pw.gpost.length + 256 * b2n (decide (16 ≤ s.pw.gpost.length)))
  else s.getR a

/-- Code of the role at the ROLE balls (R1). -/
def roleCode : Role → Nat
  | .wellhead => 0
  | .cell => 1
  | .standby => 2
  | .test => 3

/-- The ID page (R44): OTP and silicon values once BOOT has filled it. -/
def State.readId (s : State) (a : Nat) : Word :=
  if a = Reg.ID_REVISION then Config.revision
  else if a = Reg.ID_UID_LO then Config.uid.truncate 32
  else if a = Reg.ID_UID_HI then (Config.uid >>> 32).truncate 32
  else if a = Reg.ID_ROLE then w32 (roleCode s.pw.role + 256 * s.pw.roleBalls.toNat)
  else if a = Reg.ID_OTP_STAT then putBit (Config.otpStat &&& 0xF) 1 (!s.getB Reg.PWR_BOOT_RESULT 0)
  else if a = Reg.ID_RO_FACTORY then Config.roFactory
  else if a = Reg.ID_TS_TRIM then Config.tsTrim &&& 0xFFFF
  else s.getR a

def State.readPwr (s : State) (a : Nat) : Word :=
  if a = Reg.PWR_MODE_STAT then s.modeStat
  else if a = Reg.PWR_SAFE_ACTIVE then w32 s.safeActive
  else if a = Reg.PWR_RESET_CAUSE then if s.pw.bootDone then s.getR a else w32 s.pw.causePending.toNat
  else if a = Reg.PWR_SUPPLY_STAT then s.pwrSupply
  else s.getR a

def State.readClk (s : State) (a : Nat) : Word :=
  if a = Reg.CLK_DIV_EFF then wInt (s.divEff % 2 ^ 32)
  else if a = Reg.CLK_REF_KHZ then w32 s.refKhz
  else if Reg.CLK_BAND 0 ≤ a ∧ a ≤ Reg.CLK_BAND 31 then s.bandEntry ((a - Reg.CLK_BAND 0) / 4)
  else s.getR a

def State.readTime (s : State) (a : Nat) : Word :=
  if a = Reg.TIME_OUT_PHASE then w32 s.outPhase else s.getR a

/-! ## Views of PUMP, SUMP and CHAN -/

/-- PUMP.BANK_STAT (R87, R88). -/
def State.bankStat (s : State) : Word :=
  let st := s.pump.stagedBank
  let l := s.lay s.standby
  w32 (s.pump.active + 2 * b2n s.pump.inForce + 8 * b2n st + 16 * b2n (s.pump.inForce && (s.lay s.pump.active).unverified) +
    32 * b2n (st && l.unverified) + 64 * b2n s.pump.missed + 2 ^ 8 * (if st then l.outPhase else 0))

/-- A signed budget in its 17-bit field, 0 where it is negative. -/
def budgetWord (b : Int) : Word := w32 (min b.toNat (2 ^ 17 - 1))

def State.readPump (s : State) (a : Nat) : Word :=
  let l := s.lay s.pump.active
  let on := s.pump.inForce
  if a = Reg.PUMP_BANK_STAT then s.bankStat
  else if a = Reg.PUMP_BUDGET_MAIN then (if on then budgetWord (s.budgetMain l.outPhase) else 0)
  else if a = Reg.PUMP_BUDGET_SLOW then (if on then budgetWord (s.budgetSlow l.outPhase) else 0)
  else if a = Reg.PUMP_LOAD_MAIN then (if on then w32 (s.planLoadMain (s.bankPlan s.pump.active)) else 0)
  else if a = Reg.PUMP_LOAD_SLOW then (if on then w32 (s.planLoadSlow (s.bankPlan s.pump.active)) else 0)
  else if a = Reg.PUMP_SLOW_STAT then (if on then putFld (s.getR a) 16 11 l.sliceLen.length else s.getR a)
  else if a = Reg.PUMP_SLOW_DIV then (if on then w32 l.slowDiv else 0)
  else s.getR a

/-- A channel holds more than its quota (R95). -/
def ChanSlot.overQuota (c : ChanSlot) : Bool := decide (c.req < c.used)

/-- The number of channels that satisfy `p`. -/
def State.countChans (s : State) (p : ChanSlot → Bool) : Nat := (s.chans.filter (fun e => p e.2)).length

/-- Owner of granule `g` (SUMP.GOWN). -/
def State.granuleOwner (s : State) (g : Nat) : Nat :=
  if g < 16 then 0xFE
  else match s.chans.find? (fun e => e.2.granules.contains g) with
    | some e => e.1
    | none => 0xFF

def State.cqView (s : State) (n : Nat) : Word :=
  let c := s.chan n
  if c.st = 0 then 0 else w32 (c.req % 256 + 2 ^ 8 * (c.used % 256) + 2 ^ 16 * (c.eff % 256) + 2 ^ 24 * b2n c.overQuota)

def State.readSump (s : State) (a : Nat) : Word :=
  let sel := (s.selIndex Reg.SUMP_CH_SEL 1).map s.chan
  if a = Reg.SUMP_POOL_STAT then w32 (s.poolFree % 256 + 2 ^ 8 * (s.countChans (fun c => decide (c.st ≠ 0) && c.overQuota) % 256))
  else if a = Reg.SUMP_CH_QUOTA then w32 ((sel.map (·.req)).getD 0 % 256)
  else if a = Reg.SUMP_CH_USE then
    (sel.map (fun c => w32 (c.used % 256 + 2 ^ 8 * (c.eff % 256) + 2 ^ 16 * b2n c.overQuota))).getD 0
  else if Reg.SUMP_CQ_VIEW 0 ≤ a ∧ a ≤ Reg.SUMP_CQ_VIEW 127 then s.cqView ((a - Reg.SUMP_CQ_VIEW 0) / 4)
  else if Reg.SUMP_GOWN 0 ≤ a ∧ a ≤ Reg.SUMP_GOWN 63 then
    let g := a - Reg.SUMP_GOWN 0
    w32 (s.granuleOwner g + 2 ^ 8 * s.granuleOwner (g + 1) + 2 ^ 16 * s.granuleOwner (g + 2) + 2 ^ 24 * s.granuleOwner (g + 3))
  else s.getR a

/-- CH_VIEW of a slot. -/
def ChanSlot.view (c : ChanSlot) : Word :=
  w32 (c.st + 8 * b2n c.auto + 16 * b2n c.release + 32 * b2n (decide (c.replaces ≠ 0)) + 64 * b2n c.overQuota + 128 * b2n c.feHeld +
    2 ^ 8 * (c.gen % 256) + 2 ^ 16 * (c.divLog % 8) + 2 ^ 24 * (c.phase % 64))

/-- FE_STAT of a slot. -/
def ChanSlot.feView (c : ChanSlot) : Word :=
  w32 (min c.feTimer 0xFFFF + 2 ^ 16 * b2n c.feOver + 2 ^ 17 * b2n c.feFired + 2 ^ 18 * b2n c.feHeld)

/-- FE_CFG of a slot. -/
def ChanSlot.feCfg (c : ChanSlot) : Word := w32 (c.feTime % 2 ^ 16 + 2 ^ 16 * (c.feAction % 4))

/-- COEF_DATA as read: the local word at IDX of the selected channel (R112). -/
def State.coefRead (s : State) (c : ChanSlot) : Word :=
  let idx := s.getF Reg.CHAN0_COEF_IDX 0 10
  if idx < 4 * c.used ∧ c.granules ≠ [] then s.settleNow.sumpW (c.place idx) else 0

def State.readChan0 (s : State) (a : Nat) : Word :=
  let sel := (s.selIndex Reg.CHAN0_CH_SEL 1).map s.chan
  if a = Reg.CHAN0_CH_STAT then (sel.map ChanSlot.view).getD 0
  else if a = Reg.CHAN0_CH_RATE then (sel.map (fun c => w32 (c.divLog % 8 + 2 ^ 8 * (c.phase % 64)))).getD 0
  else if a = Reg.CHAN0_CH_REPLACES then (sel.map (·.replaces)).getD 0
  else if a = Reg.CHAN0_COEF_DATA then (sel.map s.coefRead).getD 0
  else if a = Reg.CHAN0_FE_LIMIT then (sel.map (·.feLimit)).getD 0
  else if a = Reg.CHAN0_FE_CFG then (sel.map ChanSlot.feCfg).getD 0
  else if a = Reg.CHAN0_FE_STAT then (sel.map ChanSlot.feView).getD 0
  else if a = Reg.CHAN0_SLOT_COUNTS then
    w32 (s.countChans (fun c => decide (c.st = 3)) % 256 + 2 ^ 8 * (s.countChans (fun c => decide (c.st = 2)) % 256) +
      2 ^ 16 * (s.countChans (fun c => decide (c.st = 1)) % 256) + 2 ^ 24 * (s.countChans (fun c => decide (c.st = 4)) % 256))
  else if Reg.CHAN0_CH_VIEW 0 ≤ a ∧ a ≤ Reg.CHAN0_CH_VIEW 127 then (s.chan ((a - Reg.CHAN0_CH_VIEW 0) / 4)).view
  else if Reg.CHAN0_FE_VIEW 0 ≤ a ∧ a ≤ Reg.CHAN0_FE_VIEW 127 then (s.chan ((a - Reg.CHAN0_FE_VIEW 0) / 4)).feView
  else if Reg.CHAN0_OUT_VIEW 0 ≤ a ∧ a ≤ Reg.CHAN0_OUT_VIEW 127 then
    let c := s.chan ((a - Reg.CHAN0_OUT_VIEW 0) / 4)
    if c.granules = [] then 0 else s.settleNow.chanWord c c.outW
  else s.getR a

def State.readChan1 (s : State) (a : Nat) : Word :=
  if Reg.CHAN1_FE_LIMIT_V 0 ≤ a ∧ a ≤ Reg.CHAN1_FE_LIMIT_V 127 then (s.chan ((a - Reg.CHAN1_FE_LIMIT_V 0) / 4)).feLimit
  else if Reg.CHAN1_FE_CFG_V 0 ≤ a ∧ a ≤ Reg.CHAN1_FE_CFG_V 127 then (s.chan ((a - Reg.CHAN1_FE_CFG_V 0) / 4)).feCfg
  else if Reg.CHAN1_SEG_VIEW 0 ≤ a ∧ a ≤ Reg.CHAN1_SEG_VIEW 127 then
    let n := (a - Reg.CHAN1_SEG_VIEW 0) / 4
    if !s.pump.inForce then 0
    else match (s.lay s.pump.active).segs.find? (fun g => decide (g.chan = n)) with
      | some g => w32 (g.base + 2 ^ 13 * g.len)
      | none => 0
  else if Reg.CHAN1_CYC_VIEW 0 ≤ a ∧ a ≤ Reg.CHAN1_CYC_VIEW 127 then
    let c := s.chan ((a - Reg.CHAN1_CYC_VIEW 0) / 4)
    w32 (c.cycles % 2 ^ 16 + 2 ^ 16 * (c.slowStrokes.length % 2 ^ 11))
  else s.getR a

/-! ## Views of PROF, TRACK, COMP, SYNC, RIDE and ISLD -/

def State.readProf (s : State) (a : Nat) : Word :=
  if a = Reg.PROF_ALLOC then w32 (bitsOf ((List.range 16).map (fun n => (s.prof n).alloc)))
  else if Reg.PROF_PS_STAT 0 ≤ a ∧ (a - Reg.PROF_PS_STAT 0) % 64 = 0 ∧ a ≤ Reg.PROF_PS_STAT 15 then s.psStat ((a - Reg.PROF_PS_STAT 0) / 64)
  else s.getR a

def State.readTrack (s : State) (a : Nat) : Word :=
  let sel := s.selIndex Reg.TRACK_T_SEL 2
  if Reg.TRACK_T_SRC ≤ a ∧ a ≤ Reg.TRACK_P_LIMIT then (sel.map (fun n => (s.trk n).get (a % 4096))).getD 0
  else if a = Reg.TRACK_T_STAT then (sel.map s.trkStat).getD 0
  else if a = Reg.TRACK_SKIP then (sel.map (fun n => (s.trk n).skipCnt)).getD 0
  else if Reg.TRACK_STAT_V 0 ≤ a ∧ a ≤ Reg.TRACK_STAT_V 63 then s.trkStat ((a - Reg.TRACK_STAT_V 0) / 4)
  else s.getR a

def State.readComp (s : State) (a : Nat) : Word :=
  if a = Reg.COMP_STAT then w32 (s.tab.active.toNat + 2 ^ 8 * s.tab.armed.toNat + 2 ^ 16 * s.tab.busy.toNat) else s.getR a

/-! ## Views of the PWM, island, converter, comparator and lane pages -/

def State.readPwmc (s : State) (a : Nat) : Word :=
  if a = Reg.PWMC_RUN_STAT then s.pwmRunStat else if a = Reg.PWMC_BLOCK_STAT then s.pwmBlockStat else s.getR a

def State.readPwmn (s : State) (a : Nat) : Word :=
  let g := a / 4096 - Pg.PWMn 0
  if a = Reg.PWMn_STAT g then s.pwmStat g else if a = Reg.PWMn_CNT g then s.pwmCnt g
  else if a = Reg.PWMn_CTRL g then s.pwmCtrl g else s.getR a

def State.readIslc (s : State) (a : Nat) : Word :=
  if a = Reg.ISLC_GATE_STAT then s.gateStat else if a = Reg.ISLC_LINK_STAT then s.linkStat
  else if a = Reg.ISLC_SUPPLY_STAT then s.supplyStat else s.getR a

def State.readIsln (s : State) (a : Nat) : Word :=
  let n := a / 4096 - Pg.ISLn 0
  if a = Reg.ISLn_STAT n then s.islStat n else if a = Reg.ISLn_FAULT_STAT n then s.islFaultStat n else s.getR a

def State.readAdcn (s : State) (a : Nat) : Word :=
  let n := a / 4096 - Pg.ADCn 0
  if a = Reg.ADCn_STAT n then s.adcStat n else s.getR a

def State.readAdcq (s : State) (a : Nat) : Word :=
  if a = Reg.ADCQ_Q_STAT then w32 (s.adcqHeld + 256 * b2n (decide (64 ≤ s.adcqHeld))) else s.getR a

/-- The comparators, with every filter brought up to the present tick (R215). -/
def State.readCmp (s : State) (a : Nat) : Word :=
  let s1 := s.cmpSettleAll
  if a = Reg.CMP_OWN then w32 (2 ^ 14 * b2n (s.cmpKept 14) + 2 ^ 15 * b2n (s.cmpKept 15))
  else if Reg.CMP_C_STAT 0 ≤ a ∧ a ≤ Reg.CMP_C_STAT 15 ∧ (a - Reg.CMP_C_STAT 0) % 48 = 0 then s1.cmpStat ((a - Reg.CMP_C_STAT 0) / 48)
  else s1.getR a

def State.readLane (s : State) (a : Nat) : Word :=
  let n := a / 4096 - Pg.LANEn 0
  if a = Reg.LANEn_STAT n then s.laneStat n
  else if a = Reg.LANEn_ADAPT_STAT n then s.adaptStat n
  else if a = Reg.LANEn_STUFF_CNT n then s.stuffCnt n
  else if a = Reg.LANEn_PRBS_BITS_LO n then w32 (s.prbsBits n)
  else if a = Reg.LANEn_PRBS_BITS_HI n then w32 (s.prbsBits n / 2 ^ 32)
  else if a = Reg.LANEn_PRBS_ERR_LO n then w32 (s.lane n).prbsErrs
  else if a = Reg.LANEn_PRBS_ERR_HI n then w32 ((s.lane n).prbsErrs / 2 ^ 32)
  else s.getR a

/-! ## Views of the ring, cell and metering pages -/

def State.readRing (s : State) (a : Nat) : Word :=
  let n := a / 4096 - Pg.RINGn 0
  if a = Reg.RINGn_STAT n then s.ringStat n else s.getR a

def State.readCells (s : State) (a : Nat) : Word :=
  if Reg.CELLS_CELL_VIEW 0 ≤ a ∧ a ≤ Reg.CELLS_CELL_VIEW 767 then s.cellView ((a - Reg.CELLS_CELL_VIEW 0) / 4) else s.getR a

def State.readCell (s : State) (a : Nat) : Word :=
  if a = Reg.CELL_STAT then s.cellStat else if a = Reg.CELL_BYP_STAT then s.bypStat else s.getR a

def State.readMet (s : State) (a : Nat) : Word :=
  let p := a / 4096 - Pg.METn 0
  if a = Reg.METn_STAT p then s.metStat p else s.getR a

def State.readPq (s : State) (a : Nat) : Word := if a = Reg.PQ_STAT then s.pqStat else s.getR a

/-! ## Views of the Guard pages (R353–R356) -/

/-- GRD.STAT. -/
def State.grdStat (s : State) : Word :=
  w32 (b2n s.grd.profileOk + 2 * b2n (decide (s.getR Reg.GRD_TRIP_LATCH ≠ 0)) + 4 * b2n s.gblock + 8 * b2n s.gwdo +
    16 * b2n (decide (s.pw.role = .cell) && s.guardOk) + 2 ^ 8 * modeCode s.grd.modeRep)

/-- GRD.GTRIP_STAT: outputs released by a decision, the balls, and the readback faults (R330). -/
def State.gtripStat (s : State) : Word :=
  w32 (s.grd.released.toNat + 2 ^ 8 * (s.relEff ^^^ s.grd.stuckBalls).toNat + 2 ^ 16 * s.grd.stuckBalls.toNat)

def State.readGrd (s : State) (a : Nat) : Word :=
  if a = Reg.GRD_STAT then s.grdStat
  else if a = Reg.GRD_GTRIP_STAT then s.gtripStat
  else if a = Reg.GRD_PROF_ID then s.profW 0x60
  else if a = Reg.GRD_PROF_VER then s.profW 0x64
  else if Reg.GRD_V_SCALE ≤ a ∧ a ≤ Reg.GRD_GTRIP_CFG then s.profW (a % 4096 + 0x14)
  else s.getR a

def State.readGcurve (s : State) (a : Nat) : Word :=
  if Reg.GCURVE_STG_CFG 0 ≤ a ∧ a ≤ Reg.GCURVE_STG_CFG 15 then s.stgCfg ((a - Reg.GCURVE_STG_CFG 0) / 4)
  else if Reg.GCURVE_PT 0 ≤ a ∧ a ≤ Reg.GCURVE_PT 127 then s.gPoint ((a - Reg.GCURVE_PT 0) / 4)
  else s.getR a

/-- GSEAL.STAT (R346, R349). -/
def State.gsealStat (s : State) : Word :=
  w32 (s.grd.session + 2 ^ 8 * b2n s.grd.staged + 2 ^ 9 * b2n s.frozen + 2 ^ 16 * (s.activeSlot 48).getD 0x3F + 2 ^ 24 * s.freeSlots 48)

/-- Word `k` of a digest. -/
def digestWord (d : BitVec 256) (k : Nat) : Word := (d >>> (32 * k)).truncate 32

/-- Seconds left in the open session (R349: 600 s). -/
def State.openLeft (s : State) : Word :=
  if s.grd.session = 0 then 0 else w32 (600 - (s.clk.tick - s.grd.sessionAt) / tickS)

/-- GSEAL reads its reset values in the Cell role (R350). -/
def State.readGseal (s : State) (a : Nat) : Word :=
  if s.pw.role = .cell then resetWord a
  else
    let act := (s.activeSlot 48).map s.slot
    let sel := s.slot (s.getF Reg.GSEAL_SLOT_SEL 0 6)
    if a = Reg.GSEAL_STAT then s.gsealStat
    else if a = Reg.GSEAL_SW_SEAL then w32 (fld (s.profW 0x68) 0 16)
    else if a = Reg.GSEAL_SW_UNSEAL then w32 (fld (s.profW 0x68) 16 16)
    else if a = Reg.GSEAL_NONCE_LO then s.nonce.truncate 32
    else if a = Reg.GSEAL_NONCE_HI then (s.nonce >>> 32).truncate 32
    else if Reg.GSEAL_ACT_DIGEST 0 ≤ a ∧ a ≤ Reg.GSEAL_ACT_DIGEST 7 then
      digestWord ((act.map (·.digest)).getD 0) ((a - Reg.GSEAL_ACT_DIGEST 0) / 4)
    else if a = Reg.GSEAL_ACT_TIME then (act.map (·.time)).getD 0
    else if a = Reg.GSEAL_SLOT_VIEW then
      let k := s.getF Reg.GSEAL_SLOT_SEL 0 6
      w32 (b2n sel.fuse + 2 * b2n (!s.slotFree k) + 4 * b2n (s.slotSpoiled k))
    else if a = Reg.GSEAL_SLOT_TIME then sel.time
    else if Reg.GSEAL_SLOT_DIGEST 0 ≤ a ∧ a ≤ Reg.GSEAL_SLOT_DIGEST 7 then digestWord sel.digest ((a - Reg.GSEAL_SLOT_DIGEST 0) / 4)
    else if a = Reg.GSEAL_OPEN_LEFT then s.openLeft
    else s.getR a

/-- GSAFE reads its reset values in the Cell role (R350, R356). -/
def State.readGsafe (s : State) (a : Nat) : Word :=
  if s.pw.role = .cell then resetWord a
  else if a = Reg.GSAFE_CFG then s.profW 0x2E0
  else if a = Reg.GSAFE_DISC_T then s.profW 0x2E4
  else if a = Reg.GSAFE_ESTOP_DELAY then s.profW 0x2E8
  else if a = Reg.GSAFE_TP_STAT then
    w32 (b2n (s.guardOk && !s.grd.gtpLow0) + 2 * b2n (s.guardOk && !s.grd.gtpLow1))
  else s.getR a

/-! ## Views of the station, Keeper, identity, pump-port and log pages -/

/-- The own clock identity is the unique ID (PTP map: reset value "ID"). -/
def State.readPtp (s : State) (a : Nat) : Word :=
  if a = Reg.PTP_CLOCK_ID_LO then Config.uid.truncate 32
  else if a = Reg.PTP_CLOCK_ID_HI then (Config.uid >>> 32).truncate 32
  else s.getR a

def State.readGoose (s : State) (a : Nat) : Word :=
  let k := (a - Reg.GOOSE_SUB_CFG 0) / 32
  let p := (a - Reg.GOOSE_PUB_CFG 0) / 64
  if a = Reg.GOOSE_STALE_LO then s.staleBits 0
  else if a = Reg.GOOSE_STALE_HI then s.staleBits 32
  else if a = Reg.GOOSE_SUB_STAT k then s.subStat k
  else if a = Reg.GOOSE_SUB_ST_NUM k then (s.sub k).stNum
  else if a = Reg.GOOSE_SUB_SQ_NUM k then (s.sub k).sqNum
  else if a = Reg.GOOSE_SUB_TAL_LEFT k then s.subTalLeft k
  else if a = Reg.GOOSE_PUB_ST_NUM p then (s.pub p).stNum
  else if a = Reg.GOOSE_PUB_SQ_NUM p then (s.pub p).sqNum
  else if a = Reg.GOOSE_PUB_LAST_DATA p then w32 (s.pub p).data
  else if a = Reg.GOOSE_PUB_STAT p then s.pubStat p
  else s.getR a

def State.readKeep (s : State) (a : Nat) : Word :=
  if a = Reg.KEEP_STAT then w32 s.keepStat
  else if a = Reg.KEEP_BURST_STAT then putBit (s.getR a) 10 s.kp.burstPend.isSome
  else if a = Reg.KEEP_RTC_FRAC then w32 s.kp.rtcFrac
  else if a = Reg.KEEP_RTC_SEC_LO then w32 s.kp.rtcSec
  else if a = Reg.KEEP_RTC_SEC_HI then w32 (s.kp.rtcSec / 2 ^ 32)
  else if a = Reg.KEEP_NV_STAT then w32 (b2n s.kp.headerOk + 2 * b2n (decide (s.nvW 0x100 = 0x4E474457)) + 4 * b2n s.grd.staged)
  else if a = Reg.KEEP_MODE_REC then w32 (modeCode s.kp.modeRec)
  else s.getR a

def State.readIdm (s : State) (a : Nat) : Word := if a = Reg.IDM_STAT then s.idmStat else s.getR a

def State.readAuxp (s : State) (a : Nat) : Word :=
  if a = Reg.AUXP_P_STAT 0 then s.auxStat 0 else if a = Reg.AUXP_P_STAT 1 then s.auxStat 1 else s.getR a

def State.readLog (s : State) (a : Nat) : Word :=
  if a = Reg.LOG_VOL_STAT then w32 s.volHeld
  else if a = Reg.LOG_P_COUNT then w32 s.kp.pCount
  else if a = Reg.LOG_P_SEQ then s.kp.pNewest.getD 0
  else if Reg.LOG_PENT 0 ≤ a ∧ a ≤ Reg.LOG_PENT 7 then
    w32 (leNat (((s.persistentBack (s.getF Reg.LOG_PSEL 0 10)).drop (a - Reg.LOG_PENT 0)).take 4))
  else s.getR a

/-! ## All registers -/

/-- The live value of the block register at `a` on page `p`, at or above offset 0x040. -/
def State.readLive (s : State) (p a : Nat) : Word :=
  if p = Pg.ID then s.readId a
  else if p = Pg.CLK then s.readClk a
  else if p = Pg.PWR then s.readPwr a
  else if p = Pg.HOST then s.readHost a
  else if p = Pg.LOG then s.readLog a
  else if p = Pg.KEEP then s.readKeep a
  else if p = Pg.TIME then
    (if a = Reg.TIME_NOW_NS then w32 s.ns else if a = Reg.TIME_NOW_SEC_LO then w32 s.sec
     else if a = Reg.TIME_NOW_SEC_HI then w32 (s.sec / 2 ^ 32) else s.readTime a)
  else if p = Pg.SYNC then (if a = Reg.SYNC_STAT then s.syncStat else s.getR a)
  else if p = Pg.RIDE then (if a = Reg.RIDE_STAT then s.rideStat else s.getR a)
  else if p = Pg.ISLD then (if a = Reg.ISLD_STAT then s.isldStat else s.getR a)
  else if p = Pg.PUMP then s.readPump a
  else if p = Pg.SUMP then s.readSump a
  else if p = Pg.CHAN0 then s.readChan0 a
  else if p = Pg.CHAN1 then s.readChan1 a
  else if p = Pg.PROF then s.readProf a
  else if p = Pg.TRACK then s.readTrack a
  else if p = Pg.COMP then s.readComp a
  else if p = Pg.PWMC then s.readPwmc a
  else if Pg.PWMn 0 ≤ p ∧ p ≤ Pg.PWMn 11 then s.readPwmn a
  else if p = Pg.ISLC then s.readIslc a
  else if Pg.ISLn 0 ≤ p ∧ p ≤ Pg.ISLn 7 then s.readIsln a
  else if Pg.ADCn 0 ≤ p ∧ p ≤ Pg.ADCn 1 then s.readAdcn a
  else if p = Pg.ADCQ then s.readAdcq a
  else if p = Pg.CMP then s.readCmp a
  else if Pg.LANEn 0 ≤ p ∧ p ≤ Pg.LANEn 15 then s.readLane a
  else if Pg.RINGn 0 ≤ p ∧ p ≤ Pg.RINGn 7 then s.readRing a
  else if p = Pg.CELLS then s.readCells a
  else if p = Pg.CELL then s.readCell a
  else if Pg.METn 0 ≤ p ∧ p ≤ Pg.METn 2 then s.readMet a
  else if p = Pg.PQ then s.readPq a
  else if p = Pg.PTP then s.readPtp a
  else if p = Pg.GOOSE then s.readGoose a
  else if p = Pg.SV then (if a = Reg.SV_STAT then s.svStat else s.getR a)
  else if p = Pg.GRD then s.readGrd a
  else if p = Pg.GCURVE then s.readGcurve a
  else if p = Pg.GSEAL then s.readGseal a
  else if p = Pg.GSAFE then s.readGsafe a
  else if p = Pg.AUXP then s.readAuxp a
  else if p = Pg.IDM then s.readIdm a
  else s.getR a

/-! ## Snapshots (R6, R36) -/

/-- `n` registers from `a` on. -/
def wordsFrom (a n : Nat) : List Nat := (List.range n).map (fun k => a + 4 * k)

/-- The group that a read of the SNAP register at `a` latches; none for a register that only returns the latched value. -/
def snapGroup (a : Nat) : Option (List Nat) :=
  let p := a / 4096
  let o := a % 4096
  if p = Pg.TIME ∧ (o = 0x5C ∨ o = 0x68) then some (wordsFrom a 3)
  else if p = Pg.KEEP ∧ o = 0x68 then some (wordsFrom a 3)
  else if p = Pg.LOG ∧ o = 0x68 then some (wordsFrom a 8)
  else if p = Pg.ISLC ∧ o = 0x58 then some (wordsFrom a 2)
  else if Pg.ISLn 0 ≤ p ∧ p ≤ Pg.ISLn 7 ∧ o = 0x74 then some (wordsFrom a 2)
  else if p = Pg.CMP ∧ 0x15C ≤ o ∧ (o - 0x15C) % 48 = 0 then some (wordsFrom a 2)
  else if Pg.LANEn 0 ≤ p ∧ p ≤ Pg.LANEn 15 ∧ o = 0xA0 then some (wordsFrom a 4)
  else if Pg.METn 0 ≤ p ∧ p ≤ Pg.METn 2 ∧ o = 0x344 then some (wordsFrom (pageBase p + 0x2C0) 34)
  else if Pg.METn 0 ≤ p ∧ p ≤ Pg.METn 2 ∧ 0x350 ≤ o ∧ o ≤ 0x390 ∧ o % 8 = 0 then
    some (wordsFrom (pageBase p + 0x350) 18 ++ [pageBase p + 0x3BC])
  else if Pg.METn 0 ≤ p ∧ p ≤ Pg.METn 2 ∧ o = 0x3D0 then some (wordsFrom a 20)
  else if p = Pg.PQ ∧ o = 0x7C then some (wordsFrom (pageBase p + 0x6C) 5)
  else none

/-- Is the register read under SNAP? -/
def isSnap (a : Nat) : Bool :=
  match regRow a with
  | some r => decide (r.acc = .snap)
  | none => false

/-- Latch the registers of a group. -/
def State.latch (s : State) (l : List Nat) : State :=
  let v := l.map (fun a => (a, s.readLive (a / 4096) a))
  { s with snap := v.foldl (fun m e => SMap.set (resetWord e.1) e.1 e.2 m) s.snap }

/-- What the read of a register at `a` does to the snapshots (R36). -/
def State.snapAt (s : State) (a : Nat) : State :=
  if s.idle (a / 4096) then s
  else match snapGroup a with
    | some l => s.latch l
    | none => s

/-- The value a read of the register at `a` returns (R6, R18): an idle page reads its reset values, a WO register and every word the
tables do not give read 0, a SNAP register returns the snapshot. -/
def State.readReg (s : State) (a : Nat) : Word :=
  let p := a / 4096
  let o := a % 4096
  if s.idle p then
    (if o = 0x00 then pageId p else if o = 0x08 then 1 else resetWord a)
  else if o < 0x40 then s.readHeader p o
  else match regRow a with
    | none => 0
    | some r =>
      match r.acc with
      | .wo => 0
      | .snap => SMap.get (resetWord a) a s.snap
      | _ => s.readLive p a

end Sys2Proof.Machine
end

