-- ==== Sys2Proof/Machine/HostBus.lean ====
section
/-! DEFINITION. Host accesses (spec/02_register_pages_host_bus.md): the address rules of R23, the map of R32, the page header, the
registers by their access codes and their own rules, posted Guard writes, and the commands of the HOST page. An Interrogative
transaction of a ring reaches a cell's registers through the same operations. -/
namespace Sys2Proof.Machine

/-! ## The page header -/

/-- The defined interrupt bits of page `p`, as each block's chapter gives them (R34: undefined bits are reserved). -/
def irqDefined (p : Nat) : Word :=
  let n := fun k => lowMask k
  if p = Pg.ID then 0 else if p = Pg.CLK then n 3 else if p = Pg.PWR then n 4 else if p = Pg.HOST then n 4 else if p = Pg.LOG then n 3
  else if p = Pg.KEEP then n 6 else if p = Pg.TIME then n 6 else if p = Pg.SYNC then n 5 else if p = Pg.RIDE then n 2
  else if p = Pg.ISLD then n 1 else if p = Pg.PUMP then n 8 else if p = Pg.SUMP then n 2 else if p = Pg.CHAN0 then 0xD
  else if p = Pg.CHAN1 then 0 else if p = Pg.PROF then n 3 else if p = Pg.TRACK then n 2 else if p = Pg.COMP then n 3
  else if p = Pg.PWMC then n 1 else if Pg.PWMn 0 ≤ p ∧ p ≤ Pg.PWMn 11 then n 7 else if p = Pg.ISLC then n 5
  else if Pg.ISLn 0 ≤ p ∧ p ≤ Pg.ISLn 7 then n 7 else if p = Pg.ADCC then n 2 else if p = Pg.ADCn 0 ∨ p = Pg.ADCn 1 then n 3
  else if p = Pg.ADCQ then n 2 else if p = Pg.CMP then n 16 else if Pg.LANEn 0 ≤ p ∧ p ≤ Pg.LANEn 15 then n 7
  else if Pg.RINGn 0 ≤ p ∧ p ≤ Pg.RINGn 7 then n 6 else if p = Pg.CELLS then n 4 else if p = Pg.CELL then n 5 else if p = Pg.METC then n 1
  else if Pg.METn 0 ≤ p ∧ p ≤ Pg.METn 2 then n 6 else if p = Pg.PQ then n 4 else if p = Pg.STNn 0 ∨ p = Pg.STNn 1 then n 4
  else if p = Pg.PRP then n 1 else if p = Pg.PTP then n 2 else if p = Pg.GOOSE then n 2 else if p = Pg.SV then n 1
  else if p = Pg.GRD then n 4 else if p = Pg.GCURVE then n 1 else if p = Pg.GSEAL then n 3 else if p = Pg.GSAFE then n 2
  else if p = Pg.AUXP then n 3 else if p = Pg.IDM then n 3 else if p = Pg.TEST then n 4 else 0

/-- Has page `p` CMT registers (R37)? -/
def hasShadow (p : Nat) : Bool := decide (p = Pg.CLK ∨ p = Pg.TIME ∨ p = Pg.PROF ∨ (Pg.PWMn 0 ≤ p ∧ p ≤ Pg.PWMn 11))

/-- A write to LOCK (R34). -/
def State.lockOp (s : State) (p : Nat) (data : Word) : State :=
  let key := fld data 8 8
  let sticky := s.getB (Hdr.LOCK p) 1
  if key = 0x5A ∧ bit data 1 = true then s.setF (Hdr.LOCK p) 0 2 3
  else if key = 0x5A ∧ bit data 0 = true then s.setB (Hdr.LOCK p) 0 true
  else if key = 0xA5 ∧ bit data 0 = false ∧ bit data 1 = false ∧ sticky = false then s.setB (Hdr.LOCK p) 0 false
  else s.refuse p

/-- DISCARD: every shadow of the page takes its value in force again, and an armed commit is cancelled (R34). -/
def State.discard (s : State) (p : Nat) : State :=
  ({ s with shadow := s.shadow.filter (fun e => decide (e.1 / 4096 ≠ p)) }).setF (Hdr.SHADOW_CTRL p) 8 2 0

/-- A write to SHADOW_CTRL: DISCARD is ignored beside COMMIT; a page without CMT registers ignores the write (R34, R37). -/
def State.shadowOp (s : State) (p : Nat) (data : Word) : State :=
  if !hasShadow p then s
  else if bit data 0 then s.armCommit p
  else if bit data 1 then s.discard p
  else s

/-- EVENT_CNT cleared by PAGE_CTRL.EVCLR (R34). -/
def State.eventClear (s : State) (p : Nat) : State := s.setR (Hdr.EVENT_CNT p) 0

/-- A write to PAGE_CTRL (R34). -/
def State.pageCtrlOp (s : State) (p : Nat) (data : Word) : State :=
  let s1 := s.setB (Hdr.PAGE_CTRL p) 0 (bit data 0)
  if bit data 1 then s1.eventClear p else s1

/-- A write to a header word (R34, R35). On the PUMP page the retirements of ended cycles have set their bits before. -/
def State.writeHeader (s : State) (p off : Nat) (data : Word) : State :=
  match off with
  | 0x04 => if s.locked p then s.refuse p else s.pageCtrlOp p data
  | 0x0C => (if p = Pg.PUMP then s.settleNow else s).modR (Hdr.IRQ_RAW p) (fun w => w &&& ~~~data)
  | 0x10 => s.setR (Hdr.IRQ_EN p) (data &&& irqDefined p)
  | 0x18 => s.lockOp p data
  | 0x1C => if s.locked p then s.refuse p else s.shadowOp p data
  | _ => s

/-! ## Registers without a rule of their own (R6) -/

/-- Write under the access code alone. -/
def State.writeGeneric (s : State) (a : Nat) (data : Word) : State :=
  match regRow a with
  | none => s
  | some r =>
    match r.acc with
    | .rw => s.setR a (data &&& w32 r.store)
    | .w1c => s.modR a (fun w => w &&& ~~~(data &&& w32 r.store))
    | .cmt => s.writeShadow a (data &&& w32 r.store)
    | .ro | .wo | .snap => s

/-- A write accepted in CONFIGURE only. -/
def State.writeConfigure (s : State) (a : Nat) (data : Word) : State :=
  if s.pw.mode = .configure then s.writeGeneric a data else s.refuse (a / 4096)

/-- A write accepted where the value satisfies `ok`. -/
def State.writeIf (s : State) (a : Nat) (data : Word) (ok : Bool) : State :=
  if ok then s.writeGeneric a data else s.refuse (a / 4096)

/-! ## HOST, PWR, CLK and TIME -/

/-- BUS_CFG: the mode written applies 1 µs after the write (R24). -/
def State.busCfgOp (s : State) (data : Word) : State :=
  let s1 := s.writeGeneric Reg.HOST_BUS_CFG data
  if bit data 0 = s.pw.busSync then s1 else { s1 with pw.busChange := some (s.clk.tick + tickUs, bit data 0) }

/-- CLEAR bit 0 (R33). -/
def State.clearBusErrors (s : State) : State :=
  ((s.setR Reg.HOST_BUS_ERR_CNT 0).setR Reg.HOST_BUS_ERR_ADDR 0).setR Reg.HOST_BUS_ERR_CAUSE 0

/-- CLEAR bit 1 (R41). -/
def State.clearStale (s : State) : State :=
  ((s.setR Reg.HOST_STALE_CNT 0).setR Reg.HOST_STALE_HANDLE 0).setR Reg.HOST_STALE_WHERE 0

def State.writeHost (s : State) (a : Nat) (data : Word) : State :=
  if a = Reg.HOST_BUS_CFG then s.busCfgOp data
  else if a = Reg.HOST_CLEAR then
    let s1 := if bit data 0 then s.clearBusErrors else s
    if bit data 1 then s1.clearStale else s1
  else if a = Reg.HOST_LOAD_CMD then s.loadCmdOp (fld data 0 8)
  else s.writeGeneric a data

def State.writePwr (s : State) (a : Nat) (data : Word) : State :=
  if a = Reg.PWR_MODE_CMD then s.modeCmdOp (fld data 0 3)
  else if a = Reg.PWR_CLEARANCE then s.clearanceOp (fld data 0 8)
  else if a = Reg.PWR_SW_RESET then s.swResetOp (fld data 0 16)
  else if a = Reg.PWR_PRECHARGE_EN then (s.writeGeneric a data).pwmBlocks
  else s.writeGeneric a data

/-- RPLL_CTRL: REF_SEL goes to its shadow and commits at RELOCK (R65). -/
def State.rpllCtrlOp (s : State) (data : Word) : State :=
  let s1 := if bit data 1 = bit (s.staged Reg.CLK_RPLL_CTRL) 1 then s else s.writeShadow Reg.CLK_RPLL_CTRL (data &&& 2)
  if bit data 0 then s1.relockOp else s1

def State.writeClk (s : State) (a : Nat) (data : Word) : State :=
  if a = Reg.CLK_RPLL_CTRL then s.rpllCtrlOp data
  else if a = Reg.CLK_DITHER then s.ditherOp data
  else if Reg.CLK_BAND 0 ≤ a ∧ a ≤ Reg.CLK_BAND 31 then
    { (s.writeGeneric a data) with bandWritten := SMap.set false ((a - Reg.CLK_BAND 0) / 4) true s.bandWritten }
  else s.writeGeneric a data

/-- PERIOD (R67): read-only in the Cell role, writable in CONFIGURE, a multiple of 8 from 40,000 to 160,000. -/
def State.periodOp (s : State) (data : Word) : State :=
  let v := fld data 0 24
  if s.pw.role = .cell then s
  else if s.pw.mode ≠ .configure ∨ v % 8 ≠ 0 ∨ v < 40000 ∨ 160000 < v then s.refuse Pg.TIME
  else s.writeShadow Reg.TIME_PERIOD (data &&& 0xFFFFFF)

/-- EPOCH_CTRL (R72): ALIGN is refused where PERIOD does not divide 1,600,000,000; ALIGNED is the device's, and falls with ALIGN. -/
def State.epochCtrlOp (s : State) (data : Word) : State :=
  if bit data 0 && decide (1600000000 % max 1 s.period ≠ 0) then s.refuse Pg.TIME
  else
    let keep := putBit (data &&& 0xFFFF) 16 (bit data 0 && s.getB Reg.TIME_EPOCH_CTRL 16)
    let s1 := s.setR Reg.TIME_EPOCH_CTRL keep
    if bit data 0 then s1 else { s1 with clk.aligning := false }

def State.writeTime (s : State) (a : Nat) (data : Word) : State :=
  if a = Reg.TIME_PERIOD then s.periodOp data
  else if a = Reg.TIME_EPOCH_CTRL then s.epochCtrlOp data
  else if a = Reg.TIME_EPOCH_OFFSET then s.writeIf a data (decide (fld data 0 24 < s.period))
  else if a = Reg.TIME_SET_CMD then s.setCmdOp (bit data 0) (bit data 1)
  else if a = Reg.TIME_SERVO_CFG then s.servoSrcOp (fld data 0 2)
  else if a = Reg.TIME_SERVO_FRAC then s.servoFracOp data
  else s.writeGeneric a data

/-! ## PUMP, SUMP, CHAN and PROF -/

/-- Words region `r` takes up: twice its length for the output region (R86). -/
def regionWords (r len : Nat) : Nat := if r = 7 then 2 * len else len

/-- Base and size in words of region `r`, with the register at `a` read as `v`. -/
def State.regionWith (s : State) (a v r : Nat) : Nat × Nat :=
  let f := fun x => if x = a then v else s.getF x 0 18
  (f (Reg.PUMP_RES_BASE r), regionWords r (f (Reg.PUMP_RES_LEN r)))

/-- RES_BASE and RES_LEN (R85): in CONFIGURE, without overlap and inside Main SRAM. -/
def State.resRegionOp (s : State) (a : Nat) (data : Word) : State :=
  let reg := fun r => s.regionWith a (fld data 0 18) r
  let inside := (List.range 8).all (fun r => decide ((reg r).2 = 0 ∨ (reg r).1 + (reg r).2 ≤ 262144))
  let apart := (List.range 8).all (fun r => (List.range r).all (fun q =>
    decide ((reg r).2 = 0 ∨ (reg q).2 = 0 ∨ (reg r).1 + (reg r).2 ≤ (reg q).1 ∨ (reg q).1 + (reg q).2 ≤ (reg r).1)))
  if s.pw.mode ≠ .configure ∨ inside = false ∨ apart = false then s.refuse Pg.PUMP else s.setR a (data &&& 0x3FFFF)

/-- Do host writes reach the standby bank (R87)? -/
def State.directOn (s : State) : Bool := s.getB Reg.PUMP_CTRL 0 && decide (s.pw.mode = .configure)

/-- BANK_CMD (R88). -/
def State.bankCmdOp (s : State) (data : Word) : State :=
  let s1 := if bit data 0 then s.dropBank else s
  let s2 := if bit data 1 then s1.bankStageOp else s1
  if bit data 2 then s2.clrMissedOp else s2

def State.writePump (s : State) (a : Nat) (data : Word) : State :=
  if a = Reg.PUMP_CTRL ∨ a = Reg.PUMP_DIRECT_CFG then s.writeConfigure a data
  else if a = Reg.PUMP_BANK_CMD then s.bankCmdOp data
  else if a = Reg.PUMP_SWAP_AT then s.swapAtOp data
  else if a = Reg.PUMP_CLEAR then
    let s1 := if bit data 0 then s.pumpClearMaxOp else s
    if bit data 1 then s1.pumpClearCntOp else s1
  else if Reg.PUMP_RES_BASE 0 ≤ a ∧ a ≤ Reg.PUMP_RES_LEN 7 then s.resRegionOp a data
  else if Reg.PUMP_DESC 0 ≤ a ∧ a ≤ Reg.PUMP_DESC 127 then
    if s.directOn && decide ((a - Reg.PUMP_DESC 0) / 256 = s.standby) then s.setR a (data &&& 0xFFFFFF) else s
  else s.writeGeneric a data

def State.writeSump (s : State) (a : Nat) (data : Word) : State :=
  if a = Reg.SUMP_CH_SEL then s.selectOp a 1 data
  else if a = Reg.SUMP_CH_QUOTA then s.chQuotaOp data
  else s.writeGeneric a data

def State.writeChan0 (s : State) (a : Nat) (data : Word) : State :=
  if a = Reg.CHAN0_CH_CMD then s.chCmdOp data
  else if a = Reg.CHAN0_CH_SEL then s.selectOp a 1 data
  else if a = Reg.CHAN0_CH_RATE then s.chRateOp data
  else if a = Reg.CHAN0_CH_REPLACES then s.chReplacesOp data
  else if a = Reg.CHAN0_COEF_DATA then s.coefOp data
  else if a = Reg.CHAN0_FE_LIMIT then s.feLimitOp data
  else if a = Reg.CHAN0_FE_CFG then s.feCfgOp data
  else if a = Reg.CHAN0_FE_CLR then (if bit data 0 then s.feClrOp else s)
  else s.writeGeneric a data

/-- The writable registers of a profile slot. -/
def psWritable (o : Nat) : Bool :=
  decide ((0x04 ≤ o ∧ o ≤ 0x1C) ∨ (0x30 ≤ o ∧ o ≤ 0x38))

def State.writeProf (s : State) (a : Nat) (data : Word) : State :=
  let n := (a - Reg.PROF_PS_STAT 0) / 64
  let o := (a - Reg.PROF_PS_STAT 0) % 64
  if a = Reg.PROF_PF_CMD then s.pfCmdOp data
  else if a = Reg.PROF_PF_SEL then s.selectOp a 3 data
  else if a = Reg.PROF_FS_ALL then (if bit data 0 then s.fsAllOp else s)
  else if Reg.PROF_PS_STAT 0 ≤ a ∧ n < 16 ∧ psWritable o = true then s.psWriteOp n o data
  else s.writeGeneric a data

/-! ## TRACK, COMP, SYNC, RIDE and ISLD -/

def State.writeTrack (s : State) (a : Nat) (data : Word) : State :=
  if a = Reg.TRACK_T_CMD then s.tCmdOp data
  else if a = Reg.TRACK_T_SEL then s.selectOp a 2 data
  else if a = Reg.TRACK_VEC_BASE then s.vecBaseOp data
  else if Reg.TRACK_T_SRC ≤ a ∧ a ≤ Reg.TRACK_P_LIMIT then s.trkWriteOp (a % 4096) data
  else s.writeGeneric a data

def State.writeComp (s : State) (a : Nat) (data : Word) : State :=
  if a = Reg.COMP_SWAP then s.tableArmOp (BitVec.ofNat 8 (fld data 0 8))
  else if Reg.COMP_TC_CFG 0 ≤ a ∧ a ≤ Reg.COMP_TC_CFG 7 then s.tcCfgOp ((a - Reg.COMP_TC_CFG 0) / 4) data
  else if Reg.COMP_TC_MAG_NORM 0 ≤ a ∧ a ≤ Reg.COMP_TC_MAG_NORM 7 then s.writeIf a data (!fleW data 0)
  else if Reg.COMP_TC_MAG_MAX 0 ≤ a ∧ a ≤ Reg.COMP_TC_MAG_MAX 7 then s.writeIf a data (!fltW data 0)
  else s.writeGeneric a data

def State.writeSync (s : State) (a : Nat) (data : Word) : State :=
  if a = Reg.SYNC_CFG then s.syncCfgOp data else s.writeIf a data (syncRangeOk (a % 4096) data)

/-- Does the register table let software store at `a`? -/
def isRw (a : Nat) : Bool :=
  match regRow a with
  | some r => decide (r.acc = .rw)
  | none => false

def State.writeRide (s : State) (a : Nat) (data : Word) : State := if isRw a then s.rideWriteOp (a % 4096) data else s

def State.writeIsld (s : State) (a : Nat) (data : Word) : State :=
  if a = Reg.ISLD_CLR then (if bit data 0 then s.isldClrOp else s)
  else match regRow a with
    | some r => if r.acc = .rw then s.isldWriteOp (a % 4096) data (w32 r.store) else s
    | none => s

/-! ## PWM generators and drive islands -/

def State.writePwmc (s : State) (a : Nat) (data : Word) : State :=
  if a = Reg.PWMC_START then s.pwmStartOp (BitVec.ofNat 12 (fld data 0 12))
  else if a = Reg.PWMC_GCOMMIT then s.gcommitOp (BitVec.ofNat 12 (fld data 0 12))
  else if a = Reg.PWMC_PRECHARGE then s.pwmcPrechargeOp data
  else if a = Reg.PWMC_TZ_CLR then (if bit data 0 then s.tzClrOp else s)
  else s.writeGeneric a data

def State.writePwmn (s : State) (a : Nat) (data : Word) : State :=
  let g := a / 4096 - Pg.PWMn 0
  if a = Reg.PWMn_CTRL g then s.pwmCtrlOp g data
  else if a = Reg.PWMn_PRD g then s.prdWriteOp g data
  else if a = Reg.PWMn_CMPA g then s.cmpWriteOp g false data
  else if a = Reg.PWMn_CMPB g then s.cmpWriteOp g true data
  else if a = Reg.PWMn_EPOCH_PHASE g then s.epochPhaseOp g data
  else if a = Reg.PWMn_TRIP_CLR g then (if bit data 0 then s.pwmTripClrOp g else s)
  else if a = Reg.PWMn_STAT_CLR g then
    let s1 := if bit data 0 then s.pwmClrFlagsOp g else s
    if bit data 1 then s1.pwmClrCountersOp g else s1
  else s.writeGeneric a data

def State.writeIslc (s : State) (a : Nat) (data : Word) : State :=
  if a = Reg.ISLC_ILK_CFG ∨ a = Reg.ISLC_PRECHARGE then s.islcCfgOp a data
  else if a = Reg.ISLC_ILK_CLR then s.ilkClrOp (BitVec.ofNat 4 (fld data 0 4))
  else if a = Reg.ISLC_FAULT_CLR then (if bit data 0 then s.islcFaultClrOp else s)
  else if a = Reg.ISLC_LINK_STAT then s.modR a (fun w => w &&& ~~~(data &&& 0xFF00))
  else s.writeGeneric a data

def State.writeIsln (s : State) (a : Nat) (data : Word) : State :=
  let n := a / 4096 - Pg.ISLn 0
  if a = Reg.ISLn_CTRL n then s.islCtrlOp n data
  else if a = Reg.ISLn_FAULT_CLR n then (if bit data 0 then s.islFaultClrOp n else s)
  else if a = Reg.ISLn_STAT_CLR n then (if bit data 0 then s.islStatClrOp n else s)
  else if isRw a then s.islRegOp n (a % 4096) data
  else s

/-! ## Converters, comparators and lanes -/

def State.writeAdcc (s : State) (a : Nat) (data : Word) : State :=
  if a = Reg.ADCC_LV_BASE then s.sramBaseOp a 16 data
  else if a = Reg.ADCC_OW_PU then s.owOp false data
  else if a = Reg.ADCC_OW_PD then s.owOp true data
  else s.writeGeneric a data

def State.writeAdcn (s : State) (a : Nat) (data : Word) : State :=
  let n := a / 4096 - Pg.ADCn 0
  if a = Reg.ADCn_CTRL n then s.adcEnableOp n (bit data 0)
  else if a = Reg.ADCn_SW_TRIG n then
    let s1 := if bit data 0 then s.swTrigOp n false else s
    if bit data 1 then s1.swTrigOp n true else s1
  else if a = Reg.ADCn_CLEAR n then (if bit data 0 then s.adcClearOp n else s)
  else if isRw a then s.adcRegOp n (a % 4096) data
  else s

def State.writeAdcq (s : State) (a : Nat) (data : Word) : State :=
  if a = Reg.ADCQ_Q_BASE then s.sramBaseOp a 64 data
  else if a = Reg.ADCQ_Q_CFG then s.qCfgOp data
  else if a = Reg.ADCQ_Q_RD then s.qRdOp data
  else s.writeGeneric a data

def State.writeCmp (s : State) (a : Nat) (data : Word) : State :=
  let n := (a - Reg.CMP_C_CFG 0) / 48
  let o := (a - Reg.CMP_C_CFG 0) % 48
  if a = Reg.CMP_LATCH then s.cmpSettleAll.latchClearOp (BitVec.ofNat 16 (fld data 0 16))
  else if Reg.CMP_C_CFG 0 ≤ a ∧ n < 16 ∧ o ≤ 0x10 then s.cmpRegOp n o data
  else s.writeGeneric a data

def State.writeLane (s : State) (a : Nat) (data : Word) : State :=
  let n := a / 4096 - Pg.LANEn 0
  let off := a % 4096
  if off = 0x40 then s.laneCtrlOp n data
  else if off = 0x4C ∨ off = 0x50 ∨ off = 0x58 ∨ off = 0x64 ∨ off = 0x68 then s.laneRegOp n off data
  else if a = Reg.LANEn_PRBS_INJ n then
    let s1 := if bit data 0 then s.prbsInjOp n 1 else s
    if bit data 1 then s1.prbsInjOp n (max 1 (fld data 8 8)) else s1
  else if a = Reg.LANEn_CLEAR n then
    let s1 := if bit data 0 then s.laneClearOp n else s
    if bit data 1 then s1.laneClearPrbsOp n else s1
  else s.writeGeneric a data

/-! ## Rings and cells -/

def State.writeRing (s : State) (a : Nat) (data : Word) : State :=
  let n := a / 4096 - Pg.RINGn 0
  if a = Reg.RINGn_CFG n then s.ringCfgOp n data
  else if a = Reg.RINGn_CMD n then s.ringCmdOp n data
  else if a = Reg.RINGn_IQ_CTRL n then s.iqCtrlOp n data
  else if a = Reg.RINGn_CLEAR n then (if bit data 0 then s.ringClearOp n else s)
  else s.writeGeneric a data

def State.writeCells (s : State) (a : Nat) (data : Word) : State :=
  if a = Reg.CELLS_CMD then s.cellsCmdOp data
  else if a = Reg.CELLS_CELL_SEL then s.selectOp a 4 data
  else if isRw a then s.cellsRegOp a data
  else s

def State.writeCell (s : State) (a : Nat) (data : Word) : State :=
  if a = Reg.CELL_FAULT_CLR then (if bit data 0 then s.cellFaultClrOp else s)
  else if a = Reg.CELL_BYP_CLR then (if bit data 0 then s.bypClrOp else s)
  else if a = Reg.CELL_CLEAR then (if bit data 0 then s.cellClearOp else s)
  else match regRow a with
    | some r => if r.acc = .rw then s.cellRegOp (a % 4096) (data &&& w32 r.store) else s
    | none => s

/-! ## Metering -/

def State.writeMetc (s : State) (a : Nat) (data : Word) : State :=
  if a = Reg.METC_CFG then s.metcCfgOp data
  else if a = Reg.METC_MCLK_CFG then s.metcOp a (data &&& 0xF0F)
  else if Reg.METC_MDAT_CFG 0 ≤ a ∧ a ≤ Reg.METC_MDAT_CFG 5 then s.metcOp a (data &&& 0x1F1F1F1F)
  else if a = Reg.METC_LV_BASE then s.sramBaseOp a 24 data
  else s.writeGeneric a data

def State.writeMet (s : State) (a : Nat) (data : Word) : State :=
  let p := a / 4096 - Pg.METn 0
  let off := a % 4096
  if a = Reg.METn_CFG p then s.metCfgOp p data
  else if a = Reg.METn_E_CMD p then s.energyOp p data
  else if a = Reg.METn_HARM_BASE p then s.sramBaseOp a 1040 data
  else if a = Reg.METn_VMIN_TRACK p then s.metVminOp p data
  else if a = Reg.METn_PH_RATE p then s.metPhRateOp p data
  else if 0x70 ≤ off ∧ off < 0x2C0 then s.metScaleOp p off data
  else s.writeGeneric a data

def State.writePq (s : State) (a : Nat) (data : Word) : State :=
  if a = Reg.PQ_CFG then s.pqCfgOp data
  else if Reg.PQ_U_DIN ≤ a ∧ a ≤ Reg.PQ_HYST then s.pqThOp (a % 4096) data
  else if a = Reg.PQ_EV_RD then s.evRdOp data
  else s.writeGeneric a data

/-! ## Station ports -/

def State.writeStn (s : State) (a : Nat) (data : Word) : State :=
  let p := a / 4096 - Pg.STNn 0
  if a = Reg.STNn_CFG p then s.stnCfgOp p data
  else if a = Reg.STNn_MAX_LEN p then s.stnMaxLenOp p data
  else if a = Reg.STNn_RX_BASE p ∨ a = Reg.STNn_RX_CFG p ∨ a = Reg.STNn_TX_BASE p ∨ a = Reg.STNn_TX_CFG p then s.stnRingOp p (a % 4096) data
  else if a = Reg.STNn_TX_HEAD p then s.txHeadOp p data
  else if a = Reg.STNn_RX_TAIL p then s.rxTailOp p data
  else if a = Reg.STNn_CLEAR p then (if bit data 0 then s.stnClearOp p else s)
  else s.writeGeneric a data

def State.writePrp (s : State) (a : Nat) (data : Word) : State :=
  if a = Reg.PRP_CFG then s.prpCfgOp data
  else if a = Reg.PRP_DD_TIME then s.rangeOp a 10 10000 data
  else if a = Reg.PRP_LIFE_CHECK then s.rangeOp a 100 60000 data
  else if a = Reg.PRP_CLEAR then (if bit data 0 then s.prpClearOp else s)
  else s.writeGeneric a data

def State.writePtp (s : State) (a : Nat) (data : Word) : State :=
  if a = Reg.PTP_CFG then s.ptpCfgOp data
  else if a = Reg.PTP_UTC_OFFSET then s.utcOffsetOp data
  else if a = Reg.PTP_CLEAR then (if bit data 0 then s.ptpClearOp else s)
  else s.writeGeneric a data

/-- SUB_CMD (R366): 0 ignored, 1 CREATE, 2 DESTROY, others refused. -/
def State.subCmdOp (s : State) (data : Word) : State :=
  match fld data 0 4 with
  | 0 => s
  | 1 => s.subCreateOp (if bit data 15 then some (fld data 8 6) else none)
  | 2 => s.subDestroyOp
  | _ => s.refuse Pg.GOOSE

def State.writeGoose (s : State) (a : Nat) (data : Word) : State :=
  if a = Reg.GOOSE_CFG then s.gooseCfgOp (data &&& 3)
  else if a = Reg.GOOSE_SUB_CMD then s.subCmdOp data
  else if a = Reg.GOOSE_SUB_SEL then s.selectOp a 5 data
  else if a = Reg.GOOSE_CIN_BASE then s.writeConfigure a data
  else if a = Reg.GOOSE_TAL_MAX then s.rangeOp a 10 60000 data
  else if a = Reg.GOOSE_CLEAR then (if bit data 0 then s.gooseClearOp else s)
  else match regRow a with
    | some r =>
      if r.acc ≠ .rw then s
      else if a < Reg.GOOSE_PUB_CFG 0 then s.subRegOp ((a - Reg.GOOSE_SUB_CFG 0) / 32) ((a - Reg.GOOSE_SUB_CFG 0) % 32) (data &&& w32 r.store)
      else s.pubRegOp ((a - Reg.GOOSE_PUB_CFG 0) / 64) ((a - Reg.GOOSE_PUB_CFG 0) % 64) (data &&& w32 r.store)
    | none => s

def State.writeSv (s : State) (a : Nat) (data : Word) : State :=
  if a = Reg.SV_CFG then s.svCfgOp (data &&& 7)
  else if a = Reg.SV_TMPL_BASE then s.svTmplOp (data &&& 0x3FFFF)
  else if a = Reg.SV_CLEAR then (if bit data 0 then s.svClearOp else s)
  else s.writeGeneric a data

/-! ## Keeper, identity, pump ports, log and service -/

/-- KEEP.CTRL: TEST changes in CONFIGURE only (R380). -/
def State.keepCtrlOp (s : State) (data : Word) : State :=
  if bit data 0 = s.getB Reg.KEEP_CTRL 0 then s.writeGeneric Reg.KEEP_CTRL data
  else if s.pw.mode ≠ .configure then s.refuse Pg.KEEP
  else (s.writeGeneric Reg.KEEP_CTRL data).keepTest (bit data 0)

def State.writeKeep (s : State) (a : Nat) (data : Word) : State :=
  let v := fld data 0 13
  let brown := s.getF Reg.KEEP_STORE_BROWN 0 13
  let meas := s.getF Reg.KEEP_STORE_MEASURE 0 13
  let tx := s.getF Reg.KEEP_STORE_TRANSMIT 0 13
  if a = Reg.KEEP_CTRL then s.keepCtrlOp data
  else if a = Reg.KEEP_STORE_MEASURE then s.writeIf a data (decide (brown < v ∧ v < tx))
  else if a = Reg.KEEP_STORE_TRANSMIT then s.writeIf a data (decide (meas < v))
  else if a = Reg.KEEP_STORE_BROWN then s.writeIf a data (decide (v < meas))
  else if a = Reg.KEEP_CHG_CFG then s.writeIf a data (decide (1 ≤ fld data 0 8 ∧ fld data 0 8 ≤ 200))
  else if a = Reg.KEEP_GR_CFG then
    s.writeIf a data (!(bit data 0 && decide (s.pw.role = .cell)) && decide (fld data 16 8 ≠ 0 ∧ fld data 8 4 ≠ 0))
  else if a = Reg.KEEP_BEACON_CFG then s.writeIf a data (decide (fld data 16 16 ≠ 0 ∧ 1 ≤ fld data 4 4 ∧ fld data 4 4 ≤ 8))
  else if a = Reg.KEEP_BEACON_CMD then (if bit data 0 then s.beaconSendOp else s)
  else if a = Reg.KEEP_BURST_DV then s.writeIf a data (decide (1 ≤ fld data 0 9 ∧ fld data 0 9 ≤ 500))
  else if a = Reg.KEEP_WAKE_CLR then (if bit data 0 then s.wakeClrOp else s)
  else if a = Reg.KEEP_CLEAR then (if bit data 0 then s.keepClearOp else s)
  else s.writeGeneric a data

def State.writeIdm (s : State) (a : Nat) (data : Word) : State :=
  if a = Reg.IDM_CMD then (if bit data 0 then s.idmScanOp else s)
  else if a = Reg.IDM_MOD_BASE then s.idmBaseOp a 2048 data
  else if a = Reg.IDM_REC_BASE then s.idmBaseOp a 1536 data
  else if Reg.IDM_REC_CFG 0 ≤ a ∧ a ≤ Reg.IDM_REC_CFG 15 then s.recCfgOp ((a - Reg.IDM_REC_CFG 0) / 4) (data &&& 0x33F7F07)
  else s.writeGeneric a data

def State.writeAuxp (s : State) (a : Nat) (data : Word) : State :=
  let q := (a - Reg.AUXP_P_CFG 0) / 64
  let o := (a - Reg.AUXP_P_CFG 0) % 64
  if a = Reg.AUXP_SPD_BASE then s.auxSpdBaseOp data
  else if a < Reg.AUXP_P_CFG 0 ∨ 2 ≤ q then s.writeGeneric a data
  else if o = 0x00 then s.auxCfgOp q (data &&& 0xFFF3)
  else if o = 0x18 then s.auxMaxDutyOp q data
  else if o = 0x1C then s.auxStallOp q (data &&& 0xFFFF)
  else if o = 0x28 then (if bit data 0 then s.auxClearOp q else s)
  else s.writeGeneric a data

/-- VOL_BASE (R409): in CONFIGURE, a multiple of 8, the ring inside Main SRAM. -/
def State.volBaseOp (s : State) (data : Word) : State :=
  let v := fld data 0 18
  if s.pw.mode ≠ .configure ∨ v % 8 ≠ 0 ∨ 262144 < v + 32768 then s.refuse Pg.LOG else s.setR Reg.LOG_VOL_BASE (w32 v)

def State.writeLog (s : State) (a : Nat) (data : Word) : State :=
  if a = Reg.LOG_VOL_BASE then s.volBaseOp data
  else if a = Reg.LOG_VOL_RD then s.volRdOp data
  else if a = Reg.LOG_WATERMARK then s.writeIf a data (decide (fld data 0 13 ≤ 4096))
  else if a = Reg.LOG_CLEAR then (if bit data 0 then s.logClearOp else s)
  else s.writeGeneric a data

def State.writeTest (s : State) (a : Nat) (data : Word) : State :=
  if a = Reg.TEST_SCRUB_CFG then
    let s1 := s.writeGeneric a data
    if bit data 0 = s.getB a 0 then s1 else s1.logE 0 none Pg.TEST 0 [(1, b2n (bit data 0))]
  else if a = Reg.TEST_AGE_CMD then (if bit data 0 then s.ageLoadOp else s)
  else if a = Reg.TEST_RO_LIM then s.writeIf a data (decide (fld data 0 16 ≠ 0))
  else if a = Reg.TEST_CLEAR then
    let s1 := if bit data 0 then s.testClearErrOp else s
    if bit data 1 then s1.testClearLaneOp else s1
  else s.writeGeneric a data

/-! ## The Guard pages, as a posted write reaches them -/

def State.writeGrd (s : State) (a : Nat) (data : Word) : State :=
  if a = Reg.GRD_TRIP_RESET then s.tripResetOp (fld data 0 8) else s.writeGeneric a data

/-- GSEAL and GSAFE show their reset values in the Cell role and take no writes there (R350). -/
def State.writeGseal (s : State) (a : Nat) (data : Word) : State :=
  if s.pw.role = .cell then s
  else if a = Reg.GSEAL_CMD then s.sealCmd (fld data 0 4) (fld data 8 8)
  else if Reg.GSEAL_AUTH 0 ≤ a ∧ a ≤ Reg.GSEAL_NEW_DIGEST 7 then s.setR a data
  else if a = Reg.GSEAL_SLOT_SEL then s.writeIf a data (decide (fld data 0 6 ≤ 47))
  else s.writeGeneric a data

def State.writeGsafe (s : State) (a : Nat) (data : Word) : State :=
  if s.pw.role = .cell then s
  else if a = Reg.GSAFE_FAULT_CLR then s.faultClrOp data
  else s.writeGeneric a data

/-! ## All registers -/

/-- A write to the block register at `a` of page `p`. -/
def State.writeBlock (s : State) (p a : Nat) (data : Word) : State :=
  if p = Pg.CLK then s.writeClk a data
  else if p = Pg.PWR then s.writePwr a data
  else if p = Pg.HOST then s.writeHost a data
  else if p = Pg.LOG then s.writeLog a data
  else if p = Pg.KEEP then s.writeKeep a data
  else if p = Pg.TIME then s.writeTime a data
  else if p = Pg.SYNC then s.writeSync a data
  else if p = Pg.RIDE then s.writeRide a data
  else if p = Pg.ISLD then s.writeIsld a data
  else if p = Pg.PUMP then s.writePump a data
  else if p = Pg.SUMP then s.writeSump a data
  else if p = Pg.CHAN0 then s.writeChan0 a data
  else if p = Pg.PROF then s.writeProf a data
  else if p = Pg.TRACK then s.writeTrack a data
  else if p = Pg.COMP then s.writeComp a data
  else if p = Pg.PWMC then s.writePwmc a data
  else if Pg.PWMn 0 ≤ p ∧ p ≤ Pg.PWMn 11 then s.writePwmn a data
  else if p = Pg.ISLC then s.writeIslc a data
  else if Pg.ISLn 0 ≤ p ∧ p ≤ Pg.ISLn 7 then s.writeIsln a data
  else if p = Pg.ADCC then s.writeAdcc a data
  else if p = Pg.ADCn 0 ∨ p = Pg.ADCn 1 then s.writeAdcn a data
  else if p = Pg.ADCQ then s.writeAdcq a data
  else if p = Pg.CMP then s.writeCmp a data
  else if Pg.LANEn 0 ≤ p ∧ p ≤ Pg.LANEn 15 then s.writeLane a data
  else if Pg.RINGn 0 ≤ p ∧ p ≤ Pg.RINGn 7 then s.writeRing a data
  else if p = Pg.CELLS then s.writeCells a data
  else if p = Pg.CELL then s.writeCell a data
  else if p = Pg.METC then s.writeMetc a data
  else if Pg.METn 0 ≤ p ∧ p ≤ Pg.METn 2 then s.writeMet a data
  else if p = Pg.PQ then s.writePq a data
  else if p = Pg.STNn 0 ∨ p = Pg.STNn 1 then s.writeStn a data
  else if p = Pg.PRP then s.writePrp a data
  else if p = Pg.PTP then s.writePtp a data
  else if p = Pg.GOOSE then s.writeGoose a data
  else if p = Pg.SV then s.writeSv a data
  else if p = Pg.GRD then s.writeGrd a data
  else if p = Pg.GSEAL then s.writeGseal a data
  else if p = Pg.GSAFE then s.writeGsafe a data
  else if p = Pg.AUXP then s.writeAuxp a data
  else if p = Pg.IDM then s.writeIdm a data
  else if p = Pg.TEST then s.writeTest a data
  else s.writeGeneric a data

/-- A whole-word write to the register at `a`: an idle page ignores it (R18), the lock refuses it (R35). -/
def State.writeReg (s : State) (a : Nat) (data : Word) : State :=
  let p := a / 4096
  if s.idle p then s
  else if a % 4096 < 0x40 then s.writeHeader p (a % 4096) data
  else if s.locked p then s.refuse p
  else s.writeBlock p a data

/-! ## The address map (R32) -/

/-- Is the page one of the Guard's, whose writes are posted (R28)? -/
def guardPage (p : Nat) : Bool := decide (Pg.GRD ≤ p ∧ p ≤ Pg.GSAFE)

/-- Post a write to the Guard; a full queue drops it with cause 5 (R28). -/
def State.postGuard (s : State) (ad : Nat) (data : Word) (be : BitVec 4) : State :=
  if 16 ≤ s.pw.gpost.length then (s.busErr 5 ad).irq Pg.HOST 3
  else { s with pw.gpost := s.pw.gpost ++ [(ad, data, be.toNat)] }

/-- A write to a register page: a partial one is ignored, counted and recorded with cause 2 (R29). -/
def State.pageWrite (s : State) (ad : Nat) (data : Word) (be : BitVec 4) : State :=
  let p := ad / 4096
  if be ≠ 0xF then (if s.idle p then s else s.refuse p).busErr 2 ad
  else if guardPage p then s.postGuard ad data be
  else s.writeReg ad data

/-- The bytes of a word that the byte enables select are stored from `a` on; BE0_N, bit 0 here, selects bits 7:0 (R23). -/
def State.putBytes (s : State) (a : Nat) (data : Word) (be : BitVec 4) : State :=
  (List.range 4).foldl (fun s k => if be.getLsbD k then s.setMemB (a + k) (BitVec.ofNat 8 (fld data (8 * k) 8)) else s) s

/-- The word offset within the output region of byte address `ad`, if it lies there (R86). -/
def State.outputWord (s : State) (ad : Nat) : Option Nat :=
  let base := sramBase + 4 * s.getF (Reg.PUMP_RES_BASE 7) 0 18
  let len := s.getF (Reg.PUMP_RES_LEN 7) 0 18
  if base ≤ ad ∧ ad < base + 8 * len then some ((ad - base) / 4) else none

/-- A write inside the image under load ends the load with 0x0E (R43). -/
def State.loadTouch (s : State) (ad : Nat) : State :=
  match s.pw.load with
  | none => s
  | some (src, _, _) =>
    let len := if sramBase + src + 0x60 ≤ sramBase + 0x100000 then s.img src 8 4 else 0
    if sramBase + src ≤ ad ∧ ad < sramBase + src + max 0x60 len then s.loadEndWith 0x0E else s

/-- A write to Main SRAM, at the boundary that opens its fabric tick (R86, R437). -/
def State.sramWrite (s : State) (ad : Nat) (data : Word) (be : BitVec 4) : State :=
  match s.outputWord ad with
  | some _ => s.busErr 3 ad
  | none => (s.loadTouch ad).settleNow.putBytes ad data be

/-- A write to Schedule RAM: the standby bank under DIRECT in CONFIGURE (R87). -/
def State.schedWrite (s : State) (ad : Nat) (data : Word) (be : BitVec 4) : State :=
  if s.directOn && decide ((ad - schedBase) / 0x10000 = s.standby) then s.putBytes ad data be else s.busErr 3 ad

/-- A host write (R23, R32, R33). -/
def State.hostWrite (s : State) (adw : Word) (data : Word) (be : BitVec 4) : State :=
  let ad := adw.toNat
  if 0x1000000 ≤ ad then s.busErr 6 ad
  else if ad % 4 ≠ 0 then s.busErr 7 ad
  else if ad < 0x58000 then s.pageWrite ad data be
  else if ad < 0x100000 then s.busErr 1 ad
  else if ad < 0x200000 then s.sramWrite ad data be
  else if ad < 0x230000 then s.busErr 3 ad
  else if ad < 0x400000 then s.busErr 1 ad
  else if ad < 0x420000 then s.schedWrite ad data be
  else if ad < 0x430000 then s.tableWrite ad data be State.putBytes
  else if ad < 0x431000 then s.busErr 3 ad
  else if 0x440000 ≤ ad ∧ ad < 0x450000 then s.postGuard ad data be
  else s.busErr 1 ad

/-- The word of Main SRAM a read returns: in the second half of the output region, the value pending in this period (R86, R437). -/
def State.sramRead (s : State) (ad : Nat) : Word :=
  let s1 := s.settleNow
  match s1.outputWord ad with
  | none => s1.memW ad
  | some i =>
    let len := s1.getF (Reg.PUMP_RES_LEN 7) 0 18
    if i < len then s1.memW ad else (SMap.get none (i - len) s1.pump.outPend).getD (s1.memW (ad - 4 * len))

/-- What a host read returns, without its effects (R27, R32). -/
def State.readWord (s : State) (ad : Nat) : Word :=
  if ad < 0x58000 then s.settleNow.readReg ad
  else if ad < 0x100000 then 0
  else if ad < 0x200000 then s.sramRead ad
  else if ad < 0x230000 then s.mirrorW ((ad - 0x200000) / 256) ((ad - 0x200000) % 256 / 4)
  else if ad < 0x400000 then 0
  else if ad < 0x420000 then s.memW ad
  else if ad < 0x430000 then s.memW (s.tableAddr ad)
  else if ad < 0x431000 then s.settleNow.sumpW ((ad - 0x430000) / 4)
  else if 0x440000 ≤ ad ∧ ad < 0x444000 then w32 (leNat (s.gramBytes (ad - 0x440000) 4))
  else 0

/-- A host read: the address rules of R23, a snapshot where the register latches one (R36), and the bus error and log entry of an
uncorrectable Main SRAM word (R30). The word returned is what the device drives on AD. -/
def State.hostRead (s : State) (adw : Word) (ecc : Ecc) : State :=
  let ad := adw.toNat
  if 0x1000000 ≤ ad then { s.busErr 6 ad with pw.hostData := 0 }
  else if ad % 4 ≠ 0 then { s.busErr 7 ad with pw.hostData := 0 }
  else
    let s1 := if ad < 0x58000 then s.snapAt ad else s
    let s2 := { s1 with pw.hostData := s1.readWord ad }
    if ecc = .uncorrectable ∧ 0x100000 ≤ ad ∧ ad < 0x200000 then (s2.busErr 4 ad).ueFound ad else s2

/-! ## The commands -/

/-- REGISTER_WRITE (R6, R23, R29, R33, R35). -/
def execRegisterWrite (ad data : Word) (be : BitVec 4) (s : State) : Host.Outcome State Fault Refusal :=
  hostRaw s (fun s => s.hostWrite ad data be)

/-- SNAP_READ (R36). -/
def execSnapRead (ad : Word) (s : State) : Host.Outcome State Fault Refusal := hostRaw s (fun s => s.hostRead ad .good)

/-- HOST_READ (R23, R30). -/
def execHostRead (ad : Word) (ecc : Ecc) (s : State) : Host.Outcome State Fault Refusal := hostRaw s (fun s => s.hostRead ad ecc)

/-- HOST_MEMORY_WRITE (R28, R29, R43). -/
def execHostMemoryWrite (ad data : Word) (be : BitVec 4) (s : State) : Host.Outcome State Fault Refusal :=
  hostRaw s (fun s => s.hostWrite ad data be)

/-- GUARD_WRITE_POST (R28). -/
def execGuardWritePost (ad data : Word) (be : BitVec 4) (s : State) : Host.Outcome State Fault Refusal :=
  hostRaw s (fun s => s.hostWrite ad data be)

/-- A posted write takes effect in the Guard: a byte of Guard RAM, nothing in the reserved part of the window (R32), or a register. -/
def State.guardApply (s : State) (ad : Nat) (data : Word) (be : Nat) : State :=
  if ad < 0x58000 then s.writeReg ad data
  else if ad < 0x444000 then
    (List.range 4).foldl (fun s k =>
      if be.testBit k then { s with grd.ram := SMap.set 0 (ad - 0x440000 + k) (BitVec.ofNat 8 (fld data (8 * k) 8)) s.grd.ram } else s) s
  else s

/-- GUARD_WRITE_APPLY (R28): the oldest posted write, once the Guard is out of reset. -/
def execGuardWriteApply (s : State) : Host.Outcome State Fault Refusal :=
  match s.pw.gpost with
  | [] => done s
  | (ad, data, be) :: rest =>
    if !s.awake || s.grd.inReset then done s else done (({ s with pw.gpost := rest }).guardApply ad data be)

/-- BUS_CFG_WRITE (R24). -/
def execBusCfgWrite (data : Word) (s : State) : Host.Outcome State Fault Refusal := hostCmd s Pg.HOST (fun s => s.busCfgOp data)

/-- BUS_MODE_APPLY (R24): 1 µs after the write the new mode applies. -/
def execBusModeApply (s : State) : Host.Outcome State Fault Refusal :=
  match s.pw.busChange with
  | none => done s
  | some (t, m) => done { s.advanceTo t with pw.busChange := none, pw.busSync := m }

/-- CLEAR_BUS_ERRORS (R33). -/
def execClearBusErrors (s : State) : Host.Outcome State Fault Refusal := hostCmd s Pg.HOST State.clearBusErrors

/-- CLEAR_STALE (R41). -/
def execClearStale (s : State) : Host.Outcome State Fault Refusal := hostCmd s Pg.HOST State.clearStale

/-- A header command that the lock does not stop, on a page that is not idle. -/
def pageCmd (s : State) (p : Nat) (f : State → State) : Host.Outcome State Fault Refusal :=
  hostRaw s (fun s => if s.idle p then s else f s)

/-- PAGE_LOCK (R34, R35). -/
def execPageLock (page : Fin 88) (s : State) : Host.Outcome State Fault Refusal := pageCmd s page (fun s => s.lockOp page 0x5A01)

/-- PAGE_LOCK_STICKY (R34, R35). -/
def execPageLockSticky (page : Fin 88) (s : State) : Host.Outcome State Fault Refusal := pageCmd s page (fun s => s.lockOp page 0x5A02)

/-- PAGE_UNLOCK (R34, R35): any other write to LOCK than the two locking ones. -/
def execPageUnlock (page : Fin 88) (data : Word) (s : State) : Host.Outcome State Fault Refusal := pageCmd s page (fun s => s.lockOp page data)

/-- SHADOW_COMMIT (R37). -/
def execShadowCommit (page : Fin 88) (s : State) : Host.Outcome State Fault Refusal := hostCmd s page (fun s => s.shadowOp page 1)

/-- SHADOW_DISCARD (R34). -/
def execShadowDiscard (page : Fin 88) (s : State) : Host.Outcome State Fault Refusal := hostCmd s page (fun s => s.shadowOp page 2)

/-- EVENT_CNT_CLEAR (R34). -/
def execEventCntClear (page : Fin 88) (s : State) : Host.Outcome State Fault Refusal := hostCmd s page (fun s => s.eventClear page)

/-- The selector registers of R41. -/
def selectorReg : Selector → Nat
  | .sumpChSel => Reg.SUMP_CH_SEL
  | .chanChSel => Reg.CHAN0_CH_SEL
  | .pfSel => Reg.PROF_PF_SEL
  | .tSel => Reg.TRACK_T_SEL
  | .cellSel => Reg.CELLS_CELL_SEL
  | .subSel => Reg.GOOSE_SUB_SEL
  | .recProf => Reg.RIDE_REC_PROF

/-- HANDLE_SELECT (R41). -/
def execHandleSelect (sel : Selector) (handle : Word) (s : State) : Host.Outcome State Fault Refusal :=
  hostRaw s (fun s => s.writeReg (selectorReg sel) handle)

end Sys2Proof.Machine
end

