-- ==== Sys2Proof/Machine/Trains.lean ====
section
/-! DEFINITION. TRAIN_PASS (spec/13_rings_trains_cells.md R249–R257, R263, R275–R277): a train passes a cell, or reaches the Wellhead at the
far end of its ring. -/
namespace Sys2Proof.Machine

/-- Bytes `o` to `o + k − 1` of a list replaced by the first `k` of `v`. -/
def putAt (o : Nat) (v bs : List Byte) : List Byte := bs.take o ++ v ++ bs.drop (o + v.length)

/-- A train as it leaves: a fresh CRC-32, inverted where the incoming one failed (R257). -/
def sealTrain (ok : Bool) (bs : List Byte) : List Byte :=
  let b := bs.take (bs.length - 4)
  let c := crc32 b
  b ++ leBytes 4 (if ok then c else c ^^^ 0xFFFFFFFF).toNat

/-! ## Interrogative transactions (R256) -/

/-- A write, judged: does the device's own rule turn it away? The counts are judged from zero, so that a saturated one hides nothing. -/
def State.writeRefused (s : State) (adw data : Word) : Bool :=
  let p := adw.toNat / 4096
  let t := (((s.setF (Hdr.EVENT_CNT p) 0 16 0).setR Reg.HOST_BUS_ERR_CNT 0).hostWrite adw data 0xF)
  decide (t.getF (Hdr.EVENT_CNT p) 0 16 ≠ 0 ∨ t.getR Reg.HOST_BUS_ERR_CNT ≠ 0)

/-- An address an Interrogative request reaches: a register page, Main SRAM, or the limit set in the Guard window (R256, R351). -/
def iqAddress (ad : Nat) : Bool :=
  decide (ad < 0x58000 ∨ (0x100000 ≤ ad ∧ ad < 0x200000) ∨ (0x440000 ≤ ad ∧ ad < 0x440040))

/-- One request executed as one host access of a full word: the result, the word, and the state after. -/
def State.iqAccess (s : State) (op : Nat) (adw data : Word) : Nat × Word × State :=
  let ad := adw.toNat
  if !iqAddress ad then (3, 0, s)
  else if op = 2 then
    let res := if s.writeRefused adw data then 2 else 1
    let t := s.hostWrite adw data 0xF
    (res, t.readWord ad, t)
  else if ad % 4 ≠ 0 then (2, 0, s.busErr 7 ad)
  else
    let t := if ad < 0x58000 then s.snapAt ad else s
    (1, t.readWord ad, t)

/-- The response part of the aside area. -/
def responseField (tag src res : Nat) (ad data : Word) : List Byte :=
  let b := [BitVec.ofNat 8 tag, BitVec.ofNat 8 src, BitVec.ofNat 8 res, 0] ++ leBytes 4 ad.toNat ++ leBytes 4 data.toNat ++ zeros 2
  b ++ leBytes 2 (crc16 b)

/-- INTERROGATIVE_EXECUTE (R256): the request in a train, answered by the device `me`; `gen` is the generation a Cell expects. A write of
the generation itself meets no such check, or no cell could be admitted. -/
def State.interrogate (s : State) (bs : List Byte) (me : Nat) (gen : Option Nat) : List Byte × State :=
  let o := 32 + 32 * (bs.getD 2 0).toNat
  let q := (bs.drop o).take 16
  let at_ (k : Nat) : Nat := (q.getD k 0).toNat
  let ad : Word := w32 (leNat ((q.drop 4).take 4))
  let data : Word := w32 (leNat ((q.drop 8).take 4))
  let answer (res : Nat) (w : Word) (t : State) : List Byte × State := (putAt (o + 16) (responseField (at_ 0) me res ad w) bs, t)
  if at_ 0 = 0 ∨ at_ 1 ≠ me then (bs, s)
  else if leNat (q.drop 14) ≠ crc16 (q.take 14) then answer 5 0 s
  else if at_ 2 ≠ 1 ∧ at_ 2 ≠ 2 then (bs, s)
  else if gen.any (fun g => decide (g ≠ at_ 3)) && !(decide (at_ 2 = 2) && decide (ad.toNat = Reg.CELL_ADMIT_GEN)) then answer 4 0 s
  else
    let (res, w, t) := s.iqAccess (at_ 2) ad data
    answer res w t

/-! ## The header as it passes (R244, R251, R263) -/

/-- DRIFT after this device's own change, and whether it saturated (R263). -/
def driftAdd (field change : BitVec 16) : BitVec 16 × Bool :=
  let d := field.toInt + change.toInt
  let c := clampI (-32767) 32767 d
  (BitVec.ofInt 16 c, decide (c.natAbs = 32767))

/-- The header forwarded outbound: HOP moved on, the tune word and DRIFT as given, HCRC recomputed, inverted where the incoming one
failed. -/
def passHeader (h : List Byte) (ok : Bool) (tune drift : BitVec 16) : List Byte :=
  let hop := (h.getD 0x1A 0).toNat
  let hop' := if fromB h then hop + 255 else hop + 1
  let b := (putAt 0x14 (leBytes 2 tune.toNat) (putAt 0x16 (leBytes 2 drift.toNat) (putAt 0x1A [BitVec.ofNat 8 hop'] h))).take 30
  b ++ leBytes 2 (if ok then crc16 b else crc16 b ^^^ 0xFFFF)

/-- The tune word in a passing header (R244). -/
def headTune (bs : List Byte) : BitVec 16 := BitVec.ofNat 16 (leNat ((bs.drop 0x14).take 2))

/-- This device's first waiting request among `lanes` goes into an empty tune word (R244). -/
def State.tuneFill (s : State) (w : BitVec 16) : List Nat → BitVec 16 × State
  | [] => (w, s)
  | l :: ls =>
    match (s.lane l).tuneReq with
    | some r => if w = 0 then (r, s.modLane l (fun x => { x with tuneReq := none })) else (w, s)
    | none => s.tuneFill w ls

/-- A command naming this cell waits for its next E0 (R244). -/
def State.tuneTake (s : State) (pos : Nat) (w : BitVec 16) : State :=
  if w.getLsbD 15 && decide (w.toNat / 256 % 128 = pos) then
    s.modLane (2 * (w.toNat / 2 % 2) + w.toNat / 128 % 2) (fun l => { l with tuneCmd := some w, tuneDue := false })
  else s

/-! ## A cell (R249–R257) -/

/-- The plant time of this E0 is that of the header (R74). -/
def State.takeEpochT (s : State) (bs : List Byte) : State :=
  let t := leNat ((bs.drop 8).take 8)
  let s1 := { s with clk.plant8 := (8 * t + 5 * (s.clk.tick - s.clk.e0)) % plantMod }
  ((s1.setR Reg.TIME_EPOCH_NS (w32 (t % 1000000000))).setR Reg.TIME_EPOCH_SEC_LO (w32 (t / 1000000000))).setR Reg.TIME_EPOCH_SEC_HI
    (w32 (t / 1000000000 / 2 ^ 32))

/-- What a good header tells a cell: plant time, APPLY_PHASE, DRIFT, its tune command, and SAFE_ALL (R10, R48, R74, R244, R251, R263). -/
def State.cellHeader (s : State) (bs : List Byte) (pos : Nat) (known : Bool) : State :=
  let safeAll := (bs.getD 0x18 0).getLsbD 0
  let s1 := (s.takeEpochT bs).setR Reg.TIME_APPLY_PHASE (w32 (bs.getD 3 0).toNat)
  let s2 := { s1 with cell.drift := (BitVec.ofNat 16 (leNat ((bs.drop 0x16).take 2))).toInt, cell.safeCmd := safeAll }
  let s3 := if known then s2.tuneTake pos (headTune bs) else s2
  if safeAll then s3.enterSafe SafeCause.wellhead else s3

/-- The Imperative part is usable (R252): its CRC-8, VALID and the generation of the admission. -/
def State.impOk (s : State) (pos : Nat) (imp : List Byte) : Bool :=
  let cmd := leNat (imp.take 2)
  decide ((imp.getD 11 0).toNat = crc8 (BitVec.ofNat 8 pos :: imp.take 11)) && cmd.testBit 7 &&
    decide (cmd / 256 = s.getF Reg.CELL_ADMIT_GEN 0 8)

/-- The Imperative part of the cell's slot: kept for E6 as the newest, or counted by the first cause that made it unusable (R251, R252,
R285). -/
def State.cellImp (s : State) (bs : List Byte) (pos : Nat) (hOk posOk : Bool) : State :=
  let imp := (trainSlot bs pos).take 12
  let use := hOk && posOk && s.impOk pos imp
  let s1 := { s with cell.impBad := !use, cell.hcrcBad := !hOk, cell.posErr := hOk && !posOk }
  if use then
    let safe := decide (leNat (imp.take 2) % 8 = 5)
    { s1 with cell.safeCmd := s1.cell.safeCmd || safe,
              cell.part := some { imp := imp, step := w32 (leNat ((bs.drop 0x10).take 4)), blockAll := (bs.getD 0x18 0).getLsbD 1 } }
  else
    (s1.incSat (if !hOk then Reg.CELL_HCRC_BAD_CNT else if !posOk then Reg.CELL_POS_ERR_CNT else Reg.CELL_IMP_BAD_CNT)).irq Pg.CELL 4

/-- STATUS (R255). -/
def State.cellStatus (s : State) : Nat :=
  let c := s.cell
  modeCode s.pw.mode % 8 + 8 * b2n c.bypClosed + 16 * b2n (decide (s.getF Reg.CELL_FAULT_CODE 0 8 ≠ 0)) + 32 * b2n c.coast +
    64 * b2n c.digestOk + 128 * b2n c.posErr + 256 * b2n c.turn + 512 * b2n c.hcrcBad + 1024 * b2n c.impBad + 2048 * b2n s.srcB

/-- The Indicative part this cell writes (R255). -/
def State.indPart (s : State) (pos : Nat) : List Byte :=
  let m (k : Nat) : List Byte := leBytes 2 ((s.cell.meas.getD k 0) % 65536).toNat
  let b := leBytes 2 s.cellStatus ++ m 0 ++ m 1 ++ m 2 ++ m 3 ++ m 4 ++ m 5 ++ [BitVec.ofNat 8 (s.getF Reg.CELL_FAULT_CODE 0 8)] ++
    leBytes 2 (s.getF Reg.LOG_SEQ_NEXT 0 16) ++ [BitVec.ofNat 8 s.cell.c, BitVec.ofNat 8 s.fomLow]
  b ++ [BitVec.ofNat 8 (crc8 (BitVec.ofNat 8 pos :: b))]

/-- CELL.IND_LAST (R296). -/
def State.indLast (s : State) (ind : List Byte) : State :=
  (List.range 5).foldl (fun s k => s.setR (Reg.CELL_IND_LAST k) (w32 (leNat ((ind.drop (4 * k)).take 4)))) s

/-- The cell's own work on its slot and the request: the Imperative part, the Interrogative request, then the Indicative part. -/
def State.cellSlot (s : State) (bs : List Byte) (pos : Nat) (hOk posOk : Bool) : List Byte × State :=
  let s1 := s.cellImp bs pos hOk posOk
  let (bs1, s2) := s1.interrogate bs pos (some (s1.getF Reg.CELL_ADMIT_GEN 0 8))
  let ind := s2.indPart pos
  (putAt (32 + 32 * pos + 12) ind bs1, s2.indLast ind)

/-- An outbound train at a cell: read, written, and forwarded or turned round (R249). -/
def State.cellOutbound (s : State) (port : Nat) (bs : List Byte) (change : BitVec 16) : State :=
  let hOk := hcrcOk bs
  let training := (bs.getD 1 0).getLsbD 5
  let hop := (bs.getD 0x1A 0).toNat
  let s0 := if training && hOk then s.setF Reg.CELL_POSITION 0 7 hop else s
  let pos := s0.getF Reg.CELL_POSITION 0 7
  let known := s0.cellTrained || (training && hOk)
  let out := if port = 0 then 2 else 0
  let turn := !(s0.lane out).sync
  let s1 := { s0 with cell.turn := turn }
  let s2 := if hOk then s1.cellHeader bs pos known else s1
  let (bs1, s3) := if known && decide (pos < (bs.getD 2 0).toNat) then s2.cellSlot bs pos hOk (decide (hop = pos)) else (bs, s2)
  let (tune, s4) := if hOk then s3.tuneFill (headTune bs) [0, 1, 2, 3] else (headTune bs, s3)
  let (drift, sat) := driftAdd (BitVec.ofNat 16 (leNat ((bs.drop 0x16).take 2))) change
  let s5 := if sat then (s4.modRing port (fun r => { r with retrain := true })).irq (Pg.RINGn port) 3 else s4
  let sent := sealTrain (crc32Ok bs) (putAt 0 (passHeader (bs1.take 32) hOk tune drift) bs1)
  s5.lineTrain (if turn then 2 * port else out) sent

/-- A train at a cell: outbound from the side that serves it, or on its way back and forwarded unchanged; a train of another format or
length is forwarded and otherwise ignored (R249, R251). -/
def State.cellTrain (s : State) (port : Nat) (bs : List Byte) (change : BitVec 16) : State :=
  let other := if port = 0 then 2 else 0
  if !trainShape bs then s.lineTrain other bs
  else if port = b2n (fromB bs) then s.cellOutbound port bs change
  else s.lineTrain other (sealTrain (crc32Ok bs) bs)

/-! ## The Wellhead at the far end (R249, R275–R277) -/

/-- A train turned round at a Wellhead: a request to 126 is answered, a waiting tune request goes into an empty word. -/
def State.wellheadTurn (s : State) (p : Nat) (bs : List Byte) : State :=
  let hOk := hcrcOk bs
  let (bs1, s1) := s.interrogate bs 126 none
  let (tune, s2) := if hOk then s1.tuneFill (headTune bs) [2 * p, 2 * p + 1] else (headTune bs, s1)
  let h := (putAt 0x14 (leBytes 2 tune.toNat) (bs1.take 32)).take 30
  let hc := if hOk then leBytes 2 (crc16 h) else (bs1.drop 30).take 2
  s2.lineTrain (2 * p) (sealTrain (crc32Ok bs) (putAt 0 (h ++ hc) bs1))

/-- A good train from the other Wellhead: PEER, and the ring is observed (R275–R277). -/
def State.peerTrain (s : State) (n : Nat) (bs : List Byte) : State :=
  if s.pw.role = .standby ∧ s.stb.active then s.modRing n (fun r => { r with peer := true })
  else
    let s1 := if s.pw.role = .standby then s else s.modRing n (fun r => { r with peer := true })
    s1.observeTrain n bs

/-- A train at port `p` of a Wellhead that did not send it from there: at an own tail turned round; at the far end observed and turned
round. -/
def State.wellheadTrain (s : State) (p : Nat) (bs : List Byte) : State :=
  match s.tailRing p with
  | some _ => if trainShape bs && !fromB bs then s.wellheadTurn p bs else s
  | none =>
    let far := trainShape bs && (fromB bs != decide (s.pw.role = .standby))
    if !s.ringOn p || !far || decide ((bs.getD 2 0).toNat ≠ s.slots p) then s
    else
      let s1 := if hcrcOk bs && crc32Ok bs then s.peerTrain p bs else s
      s1.wellheadTurn p bs

/-- TRAIN_PASS (R249): a train of `bytes` after its TRAIN_START has been received at ring port `port`; `drift` is the change of this cell's
forwarding delay since training, in 1/64 UI. -/
def execTrainPass (port : Fin 8) (bytes : List Byte) (drift : BitVec 16) (s : State) : Host.Outcome State Fault Refusal :=
  let lane := 2 * port.val
  if !s.laneUsed lane || !(s.lane lane).sync then done s
  else
    let s1 := s.incSat (Reg.LANEn_TSTART_CNT lane)
    if s.pw.role = .cell then done (s1.cellTrain port bytes drift) else done (s1.wellheadTrain port bytes)

end Sys2Proof.Machine
end

