-- ==== Sys2Proof/Machine/Epoch.lean ====
section
/-! DEFINITION. The edges of a period that bind the blocks together: E0, E4, E6 and the E0 that ends BOOT (spec/01_period_and_roles.md R10–R16;
spec/04_clocks_timebase.md R64–R74). -/
namespace Sys2Proof.Machine

/-! ## Step (1): time, samples and what the rings brought -/

/-- A signed number of eighths of a nanosecond in nanoseconds; where it is not whole, one of its two neighbours, the choice a free value
because R72 does not state the rounding. -/
def State.eighths (s : State) (n : Int) : Int × State :=
  if n % 8 = 0 then (n / 8, s) else let (w, s1) := s.takeFree; (n / 8 + (if bit w 0 then 1 else 0), s1)

/-- Distance of this E0 from the nearest instant EPOCH_OFFSET names, in eighths of a nanosecond (R72). -/
def State.epochDeviation (s : State) : Int :=
  let p := 5 * max 1 s.period
  let d := (((s.clk.plant8 % 8000000000 : Nat) : Int) - (5 * s.getF Reg.TIME_EPOCH_OFFSET 0 24 : Nat)) % (p : Nat)
  if (p : Int) < 2 * d then d - p else d

/-- EPOCH_ERR at this E0; a deviation above ALIGN_TOL ends the alignment (ALIGN_LOST), and the planned E0 begins it (R72). -/
def State.alignJudge (s : State) (planned : Bool) : State :=
  if !s.getB Reg.TIME_EPOCH_CTRL 0 then s
  else
    let (err, s1) := s.eighths s.epochDeviation
    let s2 := s1.setR Reg.TIME_EPOCH_ERR (wInt err)
    if s.clk.aligning && planned then ({ s2 with clk.aligning := false }).setB Reg.TIME_EPOCH_CTRL 16 true
    else if s.getB Reg.TIME_EPOCH_CTRL 16 && decide (s.getF Reg.TIME_EPOCH_CTRL 1 15 < err.natAbs) then
      (s2.setB Reg.TIME_EPOCH_CTRL 16 false).irqLog 1 4 Pg.TIME 0 []
    else s2

/-- The instant itself: the last period ends, the plant time is latched, and PERIOD_CNT and MODE_SINCE count (R11, R15, R59, R67, R68). -/
def State.epochInstant (s : State) : State :=
  let planned := s.clk.e0Plan.isSome
  let s1 := s.pumpEndPeriod
  let s2 := { s1 with clk.e0 := s1.clk.tick, clk.e0Plan := none, clk.e6Done := false, lvDone := false }
  let s3 := ((s2.setR Reg.TIME_EPOCH_NS (w32 s2.ns)).setR Reg.TIME_EPOCH_SEC_LO (w32 s2.sec)).setR Reg.TIME_EPOCH_SEC_HI (w32 (s2.sec / 2 ^ 32))
  (((s3.alignJudge planned).incMod Reg.TIME_PERIOD_CNT).incSat Reg.PWR_MODE_SINCE).irq Pg.TIME 0

/-- The sixteen converter codes that this period's snapshot holds, as SYNC takes them (R142, R211). -/
def State.syncCodes (s : State) (l : List (BitVec 16)) : State :=
  { s with lvSnap := ((List.range 16).zip l).foldl (fun m e => SMap.set 0 e.1 (w32 e.2.toNat) m) s.lvSnap }

/-- The rings at E0: the trains back are taken, and the echo observed; mirrors and arrays follow (R126, R259, R270, R272, R275). -/
def State.ringsE0 (s : State) : State :=
  let s1 := (List.range 8).foldl (fun s n => if s.ringOn n && s.serves n then s.ringTake n else s) s
  (s1.observeE0.rejoinE0).mirrorUpdate

/-- Step (1) of R15. -/
def State.epochSamples (s : State) (i : EpochIn) : State :=
  let s1 := (s.epochInstant.mdatSamples i.mdat).syncCodes i.adc
  if s.pw.role = .cell then s1 else s1.ringsE0

/-! ## Steps (2) to (4) -/

/-- Parts (2a) to (2c) of step (2): channels and the bank, tables, the ring plan with what follows from it (R15, R276). -/
def State.epochSwaps (s : State) : State :=
  let s1 := s.channelWork.tableSwaps
  if s.pw.role = .cell then s1 else ((s1.planSwap.takeoverJudge).carrierRecompute).e5Refresh

/-- The end of BOOT: CONFIGURE, or SAFE where the record shows the device was serving; in SAFE the second cause joins (R46, R51, R52). -/
def State.bootExit (s : State) : State :=
  if s.pw.prior then s.enterSafe SafeCause.priorActive
  else if s.pw.mode = .boot then s.transition .configure
  else s

/-- Part (2d): the pending request, after the end of BOOT at the E0 that ends it (R47). -/
def State.epochMode (s : State) (boot : Bool) : State :=
  let s1 := (if boot then s.bootExit else s).modeEval
  if s1.pw.mode = .configure ∧ s.pw.mode ≠ .configure then s1.idmScanOp else s1

/-- Step (3): the CMT registers that commit at the period start, PERIOD and the profile limits (R37, R67, R119). -/
def State.epochCommits (s : State) : State :=
  (if s.getB (Hdr.SHADOW_CTRL Pg.TIME) 8 then s.commitPage Pg.TIME else s).commitProf

/-! ## After step (4) -/

/-- Sump words 3 to 5: T_S, PERIOD_CNT and the mode (R93). -/
def State.systemWords (s : State) : State :=
  ((s.setSump 3 s.tS).setSump 4 (s.getR Reg.TIME_PERIOD_CNT)).setSump 5 (w32 (modeCode s.pw.mode))

/-- The blocks that write system words, in the order of R143 (R137, R143, R284). -/
def State.epochWords (s : State) (i : EpochIn) : State :=
  let s1 := s.systemWords
  let s2 := if s.pw.role = .cell then s1.cellE0 else (s1.policyE0 i.sync).profE0.tracksE0
  { s2.compE0 with pw.safeNew := false }

/-- The functions of the Guard whose cause is no longer there (R333, R338): a stage or window that is not armed, a request that is not held,
a heartbeat that moved, and balls that follow. -/
def State.guardGone (s : State) (moved : Bool) (f : Nat) : Bool :=
  if f < 16 ∨ f = 20 then !fnArmed f s.grd.modeRep
  else if f < 19 then !s.guardReq (f - 16)
  else if f = 19 then moved || !fnArmed f s.grd.modeRep
  else if f = 25 then decide (s.grd.stuckBalls = 0)
  else false

/-- The internal link at E0: the mode in force and HEARTBEAT pass to the Guard (R329, R333). -/
def State.guardE0 (s : State) : State :=
  if s.grd.inReset then s
  else
    let hb := s.sumpW 48
    let moved := decide (hb ≠ s.getR Reg.GRD_HB_LAST)
    let s1 := ({ s with grd.modeRep := s.pw.mode }.setR Reg.GRD_HB_LAST hb).guardReqs
    s1.modR Reg.GRD_TRIP_ACTIVE (fun w => (List.range 26).foldl (fun w f => if s1.guardGone moved f then putBit w f false else w) w)

/-- SYNC_OUT carries a 50 ns pulse at each E0 with SYNC_OUT_SRC = 1 (R71). -/
def State.syncOutE0 (s : State) : State :=
  if s.getB Reg.TIME_IO_CFG 0 then { s with syncOut := some (s.clk.tick + 80) } else s

/-- Counts of E0s: the held interlock pairs, the adaptation intervals; tune commands fall due, and a time-triggered sequence may start
(R194, R207, R243, R244). -/
def State.epochCounts (s : State) : State :=
  let s1 := (List.range 4).foldl (fun s g => if s.ilkHeld g then { s with ilkE0 := SMap.set 0 g (min 2 (SMap.get 0 g s.ilkE0 + 1)) s.ilkE0 } else s) s
  let s2 := (List.range 16).foldl (fun s n =>
    if s.laneUsed n then s.modLane n (fun l => { l with adPeriods := l.adPeriods + 1, tuneDue := l.tuneCmd.isSome }) else s) s1
  (List.range 2).foldl (fun s n => s.setAdc n { s.adcS n with stepDone := false }) s2

/-- The generators, converters and comparators at E0 (R179, R182, R207, R216, R288). -/
def State.epochDrives (s : State) : State :=
  let s1 := if s.pw.role = .cell then s.cellPhases else s
  let s2 := (List.range 12).foldl (fun s g => if s.idle (Pg.PWMn g) then s else s.pwmE0 g) s1
  (s2.adcFire 25).cmpSettleAll

/-- E0 (R15): the four steps in order, then the blocks that write before E2; `boot` at the E0 that ends BOOT. -/
def State.epochBody (s : State) (i : EpochIn) (boot : Bool) : State :=
  let s1 := ((((s.epochSamples i).epochSwaps).epochMode boot).epochCommits).chooseSlice
  let s2 := (s1.epochDrives.epochWords i).epochCounts
  ((((s2.gooseE0).auxE0).pubsFollow).guardE0).syncOutE0

/-- A fresh E0, the first after the generator was stopped: the divided clocks start together on it, and the generators held for a relock
go on (R64–R66). -/
def State.freshE0 (s : State) : State :=
  let s1 := s.elapse 8
  { s1 with clk.gen := true, clk.relock := false, clk.halted := false, clk.e0Plan := none, clk.div0 := s1.clk.tick }

/-- In SAFE with the PLL unlocked the generator halts where its next E0 would fall (R66). -/
def State.haltE0 (s : State) : State := { s with clk.gen := false, clk.halted := true }

/-- EPOCH (R15): at the instant the next E0 falls; after a relock or a halt, once the PLL is locked, a fresh E0. -/
def execEpoch (i : EpochIn) (s : State) : Host.Outcome State Fault Refusal :=
  if !s.awake then done s
  else if s.clk.gen then
    let s1 := s.advanceTo (s.clk.e0Plan.getD (s.clk.e0 + s.period))
    if s.pw.mode = .safe ∧ !s.pllLocked then done s1.haltE0 else done (s1.epochBody i false)
  else if (s.clk.relock || s.clk.halted) && s.pllLocked then done ((s.freshE0.epochBody i false).pwmThaw)
  else done s

/-- What the outside gives at the E0 that ends BOOT: no modulator or observer is on yet. -/
def epochIn0 : EpochIn :=
  { sync := { thetaObs := 0, fll := 0, vp := 0, vn := 0, phMin := 0, phMax := 0, vpd := 0, vpq := 0, vnd := 0, vnq := 0, theta := 0, omega := 0 },
    mdat := [], adc := [] }

/-- At the end of BOOT plant time is loaded from a valid RTC (R384). -/
def State.rtcLoad (s : State) : State :=
  if s.kp.rtcValid then { s with clk.plant8 := (s.kp.rtcSec * 8000000000 + s.kp.rtcFrac * 8000000000 / 32768) % plantMod } else s

/-- BOOT_END (R46, R52): the first E0 after root PLL lock, once the steps of BOOT are done. -/
def execBootEnd (s : State) : Host.Outcome State Fault Refusal :=
  if decide (s.pw.mode = .boot ∨ s.pw.mode = .safe) && s.pw.bootDone && s.pllLocked && !s.clk.gen && !s.clk.relock && !s.clk.halted then
    done (s.freshE0.rtcLoad.epochBody epochIn0 true)
  else done s

/-! ## E4 and E6 -/

/-- OUT_PHASE (R12, R86, R258): at E4 the output set is committed and every train departs; nothing while no bank is in force. -/
def execOutPhase (s : State) : Host.Outcome State Fault Refusal :=
  if !s.awake || !s.clk.gen || !s.pump.inForce || s.pump.e4Done then done s
  else
    let s1 := (s.advanceTo (s.clk.e0 + s.stepTick s.outPhase)).outCommit
    done (if s.pw.role = .cell then s1 else s1.ringsDepart)

/-- The output words of the plan's LOCAL entry of generator `g` for outputs A and B: 0xFFFF for none (R261). -/
def planLocal (b : SMap Byte) (g : Nat) (second : Bool) : Nat := planHalf b (0x48 + 4 * g + (if second then 2 else 0))

/-- The Wellhead stages the words of LOCAL in its own generators that take staged fractions (R13, R171, R261). -/
def State.localStage (s : State) (g : Nat) : State :=
  let a := planLocal s.body g false
  let b := planLocal s.body g true
  if !s.pwmStaged g || (decide (a = 0xFFFF) && decide (b = 0xFFFF)) then s
  else
    s.pwmStage g (if a = 0xFFFF then s.getR (Reg.PWMn_STG_A g) else s.outWord a) (if b = 0xFFFF then s.getR (Reg.PWMn_STG_B g) else s.outWord b)

/-- APPLY_PHASE in force: 0 while no ring plan is (R10, R20). -/
def State.applyPhase (s : State) : Nat := s.getF Reg.TIME_APPLY_PHASE 0 8

/-- APPLY_PHASE (R13, R285, R400): at E6 a Cell takes its part or coasts, a Wellhead stages its own generators; then the auxiliary ports.
Without a ring plan no E6 occurs (R20). -/
def execApplyPhase (s : State) : Host.Outcome State Fault Refusal :=
  if !s.awake || !s.clk.gen || decide (s.applyPhase = 0) || s.clk.e6Done then done s
  else
    let s1 := { s.advanceTo (s.clk.e0 + s.stepTick s.applyPhase) with clk.e6Done := true }
    if s.pw.role = .cell then done s1.cellApply
    else done ((((List.range 12).foldl State.localStage s1).auxE6 0).auxE6 1)

end Sys2Proof.Machine
end

