-- ==== Sys2Proof/Machine/Dispatch.lean ====
section
/-! DEFINITION. One arm per command: the command's effect on everything but the queue. -/
namespace Sys2Proof.Machine
open Sys2Proof

def exec (i : Instr) (s : State) : Host.Outcome State Fault Refusal :=
  match i with
  | .porNRelease roleBalls => Sys2Proof.Machine.execPorNRelease roleBalls s
  | .porNAssert => Sys2Proof.Machine.execPorNAssert s
  | .brownOut rail => Sys2Proof.Machine.execBrownOut rail s
  | .resetNAssert => Sys2Proof.Machine.execResetNAssert s
  | .swReset key => Sys2Proof.Machine.execSwReset key s
  | .guardReset => Sys2Proof.Machine.execGuardReset s
  | .keeperReset => Sys2Proof.Machine.execKeeperReset s
  | .boot otpOk memOk links nvOk => Sys2Proof.Machine.execBoot otpOk memOk links nvOk s
  | .guardHandshakeTimeout => Sys2Proof.Machine.execGuardHandshakeTimeout s
  | .bootEnd => Sys2Proof.Machine.execBootEnd s
  | .guardLost => Sys2Proof.Machine.execGuardLost s
  | .epoch x => Sys2Proof.Machine.execEpoch x s
  | .pumpStart => Sys2Proof.Machine.execPumpStart s
  | .outPhase => Sys2Proof.Machine.execOutPhase s
  | .applyPhase => Sys2Proof.Machine.execApplyPhase s
  | .safeAgeReached => Sys2Proof.Machine.execSafeAgeReached s
  | .phasorStage gen => Sys2Proof.Machine.execPhasorStage gen s
  | .slowSliceStart => Sys2Proof.Machine.execSlowSliceStart s
  | .nop f => Sys2Proof.Machine.execNop f s
  | .fma f => Sys2Proof.Machine.execFma f s
  | .fms f => Sys2Proof.Machine.execFms f s
  | .fnma f => Sys2Proof.Machine.execFnma f s
  | .lerp f => Sys2Proof.Machine.execLerp f s
  | .min f => Sys2Proof.Machine.execMin f s
  | .max f => Sys2Proof.Machine.execMax f s
  | .clamp f => Sys2Proof.Machine.execClamp f s
  | .sel f => Sys2Proof.Machine.execSel f s
  | .abs f => Sys2Proof.Machine.execAbs f s
  | .neg f => Sys2Proof.Machine.execNeg f s
  | .rcp f => Sys2Proof.Machine.execRcp f s
  | .rsq f => Sys2Proof.Machine.execRsq f s
  | .wrap f => Sys2Proof.Machine.execWrap f s
  | .tlu f => Sys2Proof.Machine.execTlu f s
  | .clt f => Sys2Proof.Machine.execClt f s
  | .cle f => Sys2Proof.Machine.execCle f s
  | .ceq f => Sys2Proof.Machine.execCeq f s
  | .calt f => Sys2Proof.Machine.execCalt f s
  | .pand f => Sys2Proof.Machine.execPand f s
  | .por f => Sys2Proof.Machine.execPor f s
  | .iadd f => Sys2Proof.Machine.execIadd f s
  | .isub f => Sys2Proof.Machine.execIsub f s
  | .iand f => Sys2Proof.Machine.execIand f s
  | .ior f => Sys2Proof.Machine.execIor f s
  | .ixor f => Sys2Proof.Machine.execIxor f s
  | .ishl f => Sys2Proof.Machine.execIshl f s
  | .ishr f => Sys2Proof.Machine.execIshr f s
  | .f2i f => Sys2Proof.Machine.execF2i f s
  | .i2f f => Sys2Proof.Machine.execI2f f s
  | .iclt f => Sys2Proof.Machine.execIclt f s
  | .vfma f => Sys2Proof.Machine.execVfma f s
  | .vfmas f => Sys2Proof.Machine.execVfmas f s
  | .vsum f => Sys2Proof.Machine.execVsum f s
  | .vmax f => Sys2Proof.Machine.execVmax f s
  | .vmin f => Sys2Proof.Machine.execVmin f s
  | .vimax f => Sys2Proof.Machine.execVimax f s
  | .vimin f => Sys2Proof.Machine.execVimin f s
  | .vclamp f => Sys2Proof.Machine.execVclamp f s
  | .vmov f => Sys2Proof.Machine.execVmov f s
  | .vsplat f => Sys2Proof.Machine.execVsplat f s
  | .vget f => Sys2Proof.Machine.execVget f s
  | .vput f => Sys2Proof.Machine.execVput f s
  | .vwrap f => Sys2Proof.Machine.execVwrap f s
  | .badop stroke => Sys2Proof.Machine.execBadop stroke s
  | .registerWrite ad data be => Sys2Proof.Machine.execRegisterWrite ad data be s
  | .snapRead ad => Sys2Proof.Machine.execSnapRead ad s
  | .hostMemoryWrite ad data be => Sys2Proof.Machine.execHostMemoryWrite ad data be s
  | .guardWritePost ad data be => Sys2Proof.Machine.execGuardWritePost ad data be s
  | .guardWriteApply => Sys2Proof.Machine.execGuardWriteApply s
  | .busCfgWrite data => Sys2Proof.Machine.execBusCfgWrite data s
  | .busModeApply => Sys2Proof.Machine.execBusModeApply s
  | .clearBusErrors => Sys2Proof.Machine.execClearBusErrors s
  | .clearStale => Sys2Proof.Machine.execClearStale s
  | .pageLock page => Sys2Proof.Machine.execPageLock page s
  | .pageLockSticky page => Sys2Proof.Machine.execPageLockSticky page s
  | .pageUnlock page data => Sys2Proof.Machine.execPageUnlock page data s
  | .shadowCommit page => Sys2Proof.Machine.execShadowCommit page s
  | .shadowDiscard page => Sys2Proof.Machine.execShadowDiscard page s
  | .eventCntClear page => Sys2Proof.Machine.execEventCntClear page s
  | .handleSelect sel handle => Sys2Proof.Machine.execHandleSelect sel handle s
  | .loadStart => Sys2Proof.Machine.execLoadStart s
  | .loadAbort => Sys2Proof.Machine.execLoadAbort s
  | .loadDone => Sys2Proof.Machine.execLoadDone s
  | .modeRequestConfigure => Sys2Proof.Machine.execModeRequestConfigure s
  | .modeRequestArmed => Sys2Proof.Machine.execModeRequestArmed s
  | .modeRequestRun => Sys2Proof.Machine.execModeRequestRun s
  | .modeRequestSafe => Sys2Proof.Machine.execModeRequestSafe s
  | .modeRequestCancel => Sys2Proof.Machine.execModeRequestCancel s
  | .modeRequestBadCode req => Sys2Proof.Machine.execModeRequestBadCode req s
  | .softOffDone => Sys2Proof.Machine.execSoftOffDone s
  | .clearanceFirst => Sys2Proof.Machine.execClearanceFirst s
  | .clearanceSecond => Sys2Proof.Machine.execClearanceSecond s
  | .clearedLapse => Sys2Proof.Machine.execClearedLapse s
  | .relock => Sys2Proof.Machine.execRelock s
  | .lockWindowEnd count => Sys2Proof.Machine.execLockWindowEnd count s
  | .referenceLost => Sys2Proof.Machine.execReferenceLost s
  | .ditherWrite data => Sys2Proof.Machine.execDitherWrite data s
  | .servoHoldover => Sys2Proof.Machine.execServoHoldover s
  | .timeSet => Sys2Proof.Machine.execTimeSet s
  | .timeAdjust => Sys2Proof.Machine.execTimeAdjust s
  | .servoFracWrite data => Sys2Proof.Machine.execServoFracWrite data s
  | .servoSrcChange src => Sys2Proof.Machine.execServoSrcChange src s
  | .ppsInEdge => Sys2Proof.Machine.execPpsInEdge s
  | .ppsOutPulse => Sys2Proof.Machine.execPpsOutPulse s
  | .ppsOutEnd => Sys2Proof.Machine.execPpsOutEnd s
  | .epochAlign => Sys2Proof.Machine.execEpochAlign s
  | .epochMark port frac => Sys2Proof.Machine.execEpochMark port frac s
  | .markMiss port => Sys2Proof.Machine.execMarkMiss port s
  | .timelaneSearch => Sys2Proof.Machine.execTimelaneSearch s
  | .bankDrop => Sys2Proof.Machine.execBankDrop s
  | .bankStage => Sys2Proof.Machine.execBankStage s
  | .clrMissed => Sys2Proof.Machine.execClrMissed s
  | .swapAtWrite data => Sys2Proof.Machine.execSwapAtWrite data s
  | .pumpClearFinMax => Sys2Proof.Machine.execPumpClearFinMax s
  | .pumpClearCounters => Sys2Proof.Machine.execPumpClearCounters s
  | .chQuotaWrite data => Sys2Proof.Machine.execChQuotaWrite data s
  | .chCreate slot => Sys2Proof.Machine.execChCreate slot s
  | .chDrain => Sys2Proof.Machine.execChDrain s
  | .drainDone => Sys2Proof.Machine.execDrainDone s
  | .chDestroy => Sys2Proof.Machine.execChDestroy s
  | .chManual => Sys2Proof.Machine.execChManual s
  | .chAuto => Sys2Proof.Machine.execChAuto s
  | .channelFree slot => Sys2Proof.Machine.execChannelFree slot s
  | .coefWrite data => Sys2Proof.Machine.execCoefWrite data s
  | .followingErrorFire slot => Sys2Proof.Machine.execFollowingErrorFire slot s
  | .feClr => Sys2Proof.Machine.execFeClr s
  | .pfCreate slot => Sys2Proof.Machine.execPfCreate slot s
  | .pfDestroy => Sys2Proof.Machine.execPfDestroy s
  | .pfHold => Sys2Proof.Machine.execPfHold s
  | .pfRelease => Sys2Proof.Machine.execPfRelease s
  | .pfFstop => Sys2Proof.Machine.execPfFstop s
  | .fsAll => Sys2Proof.Machine.execFsAll s
  | .pfResume => Sys2Proof.Machine.execPfResume s
  | .pfSet => Sys2Proof.Machine.execPfSet s
  | .profileSettled slot => Sys2Proof.Machine.execProfileSettled slot s
  | .fstopReached slot => Sys2Proof.Machine.execFstopReached slot s
  | .tCreate slot => Sys2Proof.Machine.execTCreate slot s
  | .tDestroy => Sys2Proof.Machine.execTDestroy s
  | .tStart => Sys2Proof.Machine.execTStart s
  | .tStop => Sys2Proof.Machine.execTStop s
  | .tScan => Sys2Proof.Machine.execTScan s
  | .trackerStep slot => Sys2Proof.Machine.execTrackerStep slot s
  | .scanIntervalExpire slot => Sys2Proof.Machine.execScanIntervalExpire slot s
  | .tableSwapArm mask => Sys2Proof.Machine.execTableSwapArm mask s
  | .copyBackDone table => Sys2Proof.Machine.execCopyBackDone table s
  | .syncLock => Sys2Proof.Machine.execSyncLock s
  | .syncUnlock => Sys2Proof.Machine.execSyncUnlock s
  | .syncLost => Sys2Proof.Machine.execSyncLost s
  | .lostReturn => Sys2Proof.Machine.execLostReturn s
  | .jumpMeasure => Sys2Proof.Machine.execJumpMeasure s
  | .slewDone => Sys2Proof.Machine.execSlewDone s
  | .syncModeWrite gridForming => Sys2Proof.Machine.execSyncModeWrite gridForming s
  | .ridePointFire point => Sys2Proof.Machine.execRidePointFire point s
  | .rideRecovery => Sys2Proof.Machine.execRideRecovery s
  | .isldDecision method => Sys2Proof.Machine.execIsldDecision method s
  | .isldClr => Sys2Proof.Machine.execIsldClr s
  | .pwmBoundary gen => Sys2Proof.Machine.execPwmBoundary gen s
  | .pwmMid gen => Sys2Proof.Machine.execPwmMid gen s
  | .pwmCompareEdge gen => Sys2Proof.Machine.execPwmCompareEdge gen s
  | .triggerCompareEvent gen cmpd => Sys2Proof.Machine.execTriggerCompareEvent gen cmpd s
  | .syncOutPulse => Sys2Proof.Machine.execSyncOutPulse s
  | .tzAssert tz level => Sys2Proof.Machine.execTzAssert tz level s
  | .pwmTripClr gen => Sys2Proof.Machine.execPwmTripClr gen s
  | .tzClr => Sys2Proof.Machine.execTzClr s
  | .syncInEdge falling => Sys2Proof.Machine.execSyncInEdge falling s
  | .pwmStart mask => Sys2Proof.Machine.execPwmStart mask s
  | .gcommit mask => Sys2Proof.Machine.execGcommit mask s
  | .cmpaWrite gen data => Sys2Proof.Machine.execCmpaWrite gen data s
  | .pwmCtrlWrite gen data => Sys2Proof.Machine.execPwmCtrlWrite gen data s
  | .pwmStatClrFlags gen => Sys2Proof.Machine.execPwmStatClrFlags gen s
  | .pwmStatClrCounters gen => Sys2Proof.Machine.execPwmStatClrCounters gen s
  | .islandCommandRise isl => Sys2Proof.Machine.execIslandCommandRise isl s
  | .islandCommandFall isl => Sys2Proof.Machine.execIslandCommandFall isl s
  | .islandBlock isl => Sys2Proof.Machine.execIslandBlock isl s
  | .softTurnOffEnd isl gateLow => Sys2Proof.Machine.execSoftTurnOffEnd isl gateLow s
  | .ilkHoldExpire pair => Sys2Proof.Machine.execIlkHoldExpire pair s
  | .ilkClr mask => Sys2Proof.Machine.execIlkClr mask s
  | .islandLinkTimeout isl => Sys2Proof.Machine.execIslandLinkTimeout isl s
  | .linkReportTimeout isl => Sys2Proof.Machine.execLinkReportTimeout isl s
  | .blankingEnd isl => Sys2Proof.Machine.execBlankingEnd isl s
  | .desatDetect isl => Sys2Proof.Machine.execDesatDetect isl s
  | .hardFault isl => Sys2Proof.Machine.execHardFault isl s
  | .islFaultClr isl => Sys2Proof.Machine.execIslFaultClr isl s
  | .islcFaultClr => Sys2Proof.Machine.execIslcFaultClr s
  | .uvloEntry isl vee => Sys2Proof.Machine.execUvloEntry isl vee s
  | .supplyGood isl vee => Sys2Proof.Machine.execSupplyGood isl vee s
  | .ntcConversion isl raw => Sys2Proof.Machine.execNtcConversion isl raw s
  | .islStatClr isl => Sys2Proof.Machine.execIslStatClr isl s
  | .islCtrlWrite isl data => Sys2Proof.Machine.execIslCtrlWrite isl data s
  | .adcTrigger adc inj => Sys2Proof.Machine.execAdcTrigger adc inj s
  | .adcSwTrigRegular adc => Sys2Proof.Machine.execAdcSwTrigRegular adc s
  | .adcSwTrigInjected adc => Sys2Proof.Machine.execAdcSwTrigInjected adc s
  | .adcTriggerDelayEnd adc inj => Sys2Proof.Machine.execAdcTriggerDelayEnd adc inj s
  | .adcConversionStart adc => Sys2Proof.Machine.execAdcConversionStart adc s
  | .adcConversionDone adc code => Sys2Proof.Machine.execAdcConversionDone adc code s
  | .adcEnable adc en => Sys2Proof.Machine.execAdcEnable adc en s
  | .adcClear adc => Sys2Proof.Machine.execAdcClear adc s
  | .lvSnapshot => Sys2Proof.Machine.execLvSnapshot s
  | .qRdWrite data => Sys2Proof.Machine.execQRdWrite data s
  | .cmpRawChange cmp high low => Sys2Proof.Machine.execCmpRawChange cmp high low s
  | .cmpSampledDecision cmp high low => Sys2Proof.Machine.execCmpSampledDecision cmp high low s
  | .cmpLatchClear mask => Sys2Proof.Machine.execCmpLatchClear mask s
  | .tripMarkerReceived lane => Sys2Proof.Machine.execTripMarkerReceived lane s
  | .codeViolation lane => Sys2Proof.Machine.execCodeViolation lane s
  | .cdrLock lane => Sys2Proof.Machine.execCdrLock lane s
  | .cdrLockLoss lane => Sys2Proof.Machine.execCdrLockLoss lane s
  | .laneSync lane => Sys2Proof.Machine.execLaneSync lane s
  | .eyeSweepEnd lane early late up down => Sys2Proof.Machine.execEyeSweepEnd lane early late up down s
  | .eyePointStart lane data => Sys2Proof.Machine.execEyePointStart lane data s
  | .eyePointDone lane disagree => Sys2Proof.Machine.execEyePointDone lane disagree s
  | .adaptDecision lane => Sys2Proof.Machine.execAdaptDecision lane s
  | .tuneCommandApply lane => Sys2Proof.Machine.execTuneCommandApply lane s
  | .prbsLock lane => Sys2Proof.Machine.execPrbsLock lane s
  | .prbsInjectSingle lane => Sys2Proof.Machine.execPrbsInjectSingle lane s
  | .prbsInjectBurst lane len => Sys2Proof.Machine.execPrbsInjectBurst lane len s
  | .laneCtrlWrite lane data => Sys2Proof.Machine.execLaneCtrlWrite lane data s
  | .laneClearCounters lane => Sys2Proof.Machine.execLaneClearCounters lane s
  | .laneClearPrbs lane => Sys2Proof.Machine.execLaneClearPrbs lane s
  | .trainPass port bytes drift => Sys2Proof.Machine.execTrainPass port bytes drift s
  | .trainReturn ring bytes => Sys2Proof.Machine.execTrainReturn ring bytes s
  | .ringEnable ring data => Sys2Proof.Machine.execRingEnable ring data s
  | .ringLinked ring => Sys2Proof.Machine.execRingLinked ring s
  | .ringTrain ring => Sys2Proof.Machine.execRingTrain ring s
  | .trainingDone ring cells hN fault => Sys2Proof.Machine.execTrainingDone ring cells hN fault s
  | .ringRejoin ring => Sys2Proof.Machine.execRingRejoin ring s
  | .rejoinDone ring h cells fault => Sys2Proof.Machine.execRejoinDone ring h cells fault s
  | .iqRequest ring target op => Sys2Proof.Machine.execIqRequest ring target op s
  | .iqAbort ring => Sys2Proof.Machine.execIqAbort ring s
  | .ringClear ring => Sys2Proof.Machine.execRingClear ring s
  | .cellAdmit => Sys2Proof.Machine.execCellAdmit s
  | .cellRetire => Sys2Proof.Machine.execCellRetire s
  | .cellBypass => Sys2Proof.Machine.execCellBypass s
  | .cellUnbypass => Sys2Proof.Machine.execCellUnbypass s
  | .cellLost cell => Sys2Proof.Machine.execCellLost cell s
  | .digestEvaluate => Sys2Proof.Machine.execDigestEvaluate s
  | .bypassAssert => Sys2Proof.Machine.execBypassAssert s
  | .bypassTimeout => Sys2Proof.Machine.execBypassTimeout s
  | .bypassFeedback level => Sys2Proof.Machine.execBypassFeedback level s
  | .cellFaultClr => Sys2Proof.Machine.execCellFaultClr s
  | .bypClr => Sys2Proof.Machine.execBypClr s
  | .cellClear => Sys2Proof.Machine.execCellClear s
  | .stuckDetect ch => Sys2Proof.Machine.execStuckDetect ch s
  | .cycleEnd point c => Sys2Proof.Machine.execCycleEnd point c s
  | .rangeSwitchHigh point pair x first => Sys2Proof.Machine.execRangeSwitchHigh point pair x first s
  | .energyClr point key => Sys2Proof.Machine.execEnergyClr point key s
  | .energyLoad point => Sys2Proof.Machine.execEnergyLoad point s
  | .harmonicWindow point start freq bins => Sys2Proof.Machine.execHarmonicWindow point start freq bins s
  | .pqAggregate u0 u1 u2 => Sys2Proof.Machine.execPqAggregate u0 u1 u2 s
  | .pqFreq10 => Sys2Proof.Machine.execPqFreq10 s
  | .phasorReport point n p => Sys2Proof.Machine.execPhasorReport point n p s
  | .pqRefresh now u0 u1 u2 => Sys2Proof.Machine.execPqRefresh now u0 u1 u2 s
  | .evRdWrite data => Sys2Proof.Machine.execEvRdWrite data s
  | .gcurvePointFire stage point => Sys2Proof.Machine.execGcurvePointFire stage point s
  | .guardRequestFire req => Sys2Proof.Machine.execGuardRequestFire req s
  | .heartbeatTimeout => Sys2Proof.Machine.execHeartbeatTimeout s
  | .guardMeasLost channel => Sys2Proof.Machine.execGuardMeasLost channel s
  | .gtripReadbackFault ball => Sys2Proof.Machine.execGtripReadbackFault ball s
  | .tpReadbackFault => Sys2Proof.Machine.execTpReadbackFault s
  | .tripReset key => Sys2Proof.Machine.execTripReset key s
  | .testPulse gtp level => Sys2Proof.Machine.execTestPulse gtp level s
  | .safetyInputChange input channelB closed => Sys2Proof.Machine.execSafetyInputChange input channelB closed s
  | .estopDelayExpire => Sys2Proof.Machine.execEstopDelayExpire s
  | .discrepancy input => Sys2Proof.Machine.execDiscrepancy input s
  | .safetyFaultClr data => Sys2Proof.Machine.execSafetyFaultClr data s
  | .sealSwitchChange pattern => Sys2Proof.Machine.execSealSwitchChange pattern s
  | .openChange key => Sys2Proof.Machine.execOpenChange key s
  | .openRestore key => Sys2Proof.Machine.execOpenRestore key s
  | .burn key => Sys2Proof.Machine.execBurn key s
  | .burnDone verified => Sys2Proof.Machine.execBurnDone verified s
  | .sealAbort key => Sys2Proof.Machine.execSealAbort key s
  | .sealSessionTimeout => Sys2Proof.Machine.execSealSessionTimeout s
  | .ptpSyncReceive f m => Sys2Proof.Machine.execPtpSyncReceive f m s
  | .ptpFollowUpReceive f m => Sys2Proof.Machine.execPtpFollowUpReceive f m s
  | .pdelayReqReceive f seq => Sys2Proof.Machine.execPdelayReqReceive f seq s
  | .pdelayRespReceive f m => Sys2Proof.Machine.execPdelayRespReceive f m s
  | .announceReceive f a => Sys2Proof.Machine.execAnnounceReceive f a s
  | .announceTimeout port => Sys2Proof.Machine.execAnnounceTimeout port s
  | .pdelayReqTx port => Sys2Proof.Machine.execPdelayReqTx port s
  | .stationFrameReceive f => Sys2Proof.Machine.execStationFrameReceive f s
  | .gooseReceive f g => Sys2Proof.Machine.execGooseReceive f g s
  | .gooseStale slot => Sys2Proof.Machine.execGooseStale slot s
  | .goosePublish pub => Sys2Proof.Machine.execGoosePublish pub s
  | .gooseRetransmit pub => Sys2Proof.Machine.execGooseRetransmit pub s
  | .subCreate slot => Sys2Proof.Machine.execSubCreate slot s
  | .subDestroy => Sys2Proof.Machine.execSubDestroy s
  | .svFrame n a b => Sys2Proof.Machine.execSvFrame n a b s
  | .stationLinkChange port e => Sys2Proof.Machine.execStationLinkChange port e s
  | .txHeadWrite port data => Sys2Proof.Machine.execTxHeadWrite port data s
  | .txFrameDone port => Sys2Proof.Machine.execTxFrameDone port s
  | .rxTailWrite port data => Sys2Proof.Machine.execRxTailWrite port data s
  | .prpSupervisionTx => Sys2Proof.Machine.execPrpSupervisionTx s
  | .ddEntryExpire => Sys2Proof.Machine.execDdEntryExpire s
  | .stnClear port => Sys2Proof.Machine.execStnClear port s
  | .prpClear => Sys2Proof.Machine.execPrpClear s
  | .ptpClear => Sys2Proof.Machine.execPtpClear s
  | .gooseClear => Sys2Proof.Machine.execGooseClear s
  | .svClear => Sys2Proof.Machine.execSvClear s
  | .keeperWake store temp harvest vddio => Sys2Proof.Machine.execKeeperWake store temp harvest vddio s
  | .chargerStageChange stage => Sys2Proof.Machine.execChargerStageChange stage s
  | .cisternCutoff => Sys2Proof.Machine.execCisternCutoff s
  | .gridReturnSample a14 a15 => Sys2Proof.Machine.execGridReturnSample a14 a15 s
  | .burstBrownoutCheck store frame => Sys2Proof.Machine.execBurstBrownoutCheck store frame s
  | .burstEnd store => Sys2Proof.Machine.execBurstEnd store s
  | .beaconPeriodExpire => Sys2Proof.Machine.execBeaconPeriodExpire s
  | .beaconSend => Sys2Proof.Machine.execBeaconSend s
  | .rtcSecond => Sys2Proof.Machine.execRtcSecond s
  | .wakeClr => Sys2Proof.Machine.execWakeClr s
  | .keepClear => Sys2Proof.Machine.execKeepClear s
  | .idmScan => Sys2Proof.Machine.execIdmScan s
  | .idmPoll modules records => Sys2Proof.Machine.execIdmPoll modules records s
  | .idmReadDone r => Sys2Proof.Machine.execIdmReadDone r s
  | .hallEdge port h => Sys2Proof.Machine.execHallEdge port h s
  | .hallStall port => Sys2Proof.Machine.execHallStall port s
  | .auxpClear port => Sys2Proof.Machine.execAuxpClear port s
  | .logPersistWrite => Sys2Proof.Machine.execLogPersistWrite s
  | .volRdWrite data => Sys2Proof.Machine.execVolRdWrite data s
  | .logClear => Sys2Proof.Machine.execLogClear s
  | .scrubStep ecc => Sys2Proof.Machine.execScrubStep ecc s
  | .tempSample tj => Sys2Proof.Machine.execTempSample tj s
  | .ageingRecord => Sys2Proof.Machine.execAgeingRecord s
  | .ageLoad => Sys2Proof.Machine.execAgeLoad s
  | .roMeasure drift => Sys2Proof.Machine.execRoMeasure drift s
  | .testClearErrors => Sys2Proof.Machine.execTestClearErrors s
  | .testClearLaneMin => Sys2Proof.Machine.execTestClearLaneMin s
  | .hostRead ad ecc => Sys2Proof.Machine.execHostRead ad ecc s
  | .gateOff isl => Sys2Proof.Machine.execGateOff isl s
  | .blankArm isl asserted => Sys2Proof.Machine.execBlankArm isl asserted s
  | .prbsError lane => Sys2Proof.Machine.execPrbsError lane s
  | .stuckClear ch => Sys2Proof.Machine.execStuckClear ch s
  | .islandLinkReturn isl => Sys2Proof.Machine.execIslandLinkReturn isl s
  | .guardResetRelease => Sys2Proof.Machine.execGuardResetRelease s

end Sys2Proof.Machine
end

