-- ==== Sys2Proof/Safety.lean ====
section
/-! DEFINITION. The terms in which claims about the block are put: the canonical form of everything it stores, which state a command may
touch, and when a host command is carried out. -/
namespace Sys2Proof.Machine
open Sys2Proof

/-- The canonical form of the memories the host addresses: addresses strictly rising, no byte listed that an unlisted address reads as. -/
def Memory.wf (m : List Host.Cell) : Bool := SMap.wf (fun _ => 0) m

/-- Everything the block stores by an address is in its canonical form: the memories of the host map, the registers, the Sump, the cell
mirrors, the Guard's RAM and the Keeper's nonvolatile memory. -/
structure State.Canonical (s : State) : Prop where
  mem : Memory.wf s.mem = true
  regs : SMap.wf resetWord s.regs = true
  sump : SMap.wf (fun _ => 0) s.sump = true
  mirror : SMap.wf (fun _ => 0) s.mirror = true
  guardRam : Memory.wf s.grd.ram = true
  nv : Memory.wf s.kp.nv = true

/-- `t` is `s` but for registers of the list `rs`. -/
def State.onlyRegs (rs : List Nat) (s t : State) : Prop :=
  t = { s with regs := t.regs } ∧ ∀ a, a ∉ rs → t.getR a = s.getR a

/-- The registers that writing the log may change (R408, R409, R415). -/
def logRegs : List Nat :=
  [Reg.LOG_VOL_WR, Reg.LOG_VOL_RD, Reg.LOG_LOST_CNT, Reg.LOG_SEQ_NEXT, Hdr.IRQ_RAW Pg.LOG]

/-- Does byte `a` lie in the volatile ring: 4,096 entries of 32 bytes from word VOL_BASE of Main SRAM (R409)? -/
def State.inVolRing (s : State) (a : Nat) : Bool :=
  let b := sramBase + 4 * s.getF Reg.LOG_VOL_BASE 0 18
  decide (b ≤ a) && decide (a < b + 32 * 4096)

/-- A host command that writes a lockable register of page `p` is carried out: the device is not DORMANT (R45), the bus mode is not
changing (R24), the page is not idle in the role (R18) and not locked (R35). -/
structure State.HostReady (s : State) (p : Nat) : Prop where
  awake : s.pw.mode ≠ .dormant
  bus : s.pw.busChange = none
  active : s.idle p = false
  unlocked : s.locked p = false

/-- Selector register `sel` holds a valid handle of class `cls` whose index is `n` (R41). -/
structure State.Selected (s : State) (sel cls n : Nat) : Prop where
  nonNull : s.getR sel ≠ 0
  valid : s.validFor (s.getR sel) cls = true
  index : hIndex (s.getR sel) = n

/-- From `s` to `t` no register changes but those of the list `rs` and the log's own, no byte of memory but those of the log's ring, and no
word of the Sump. -/
structure State.Keeps (rs : List Nat) (s t : State) : Prop where
  regs : ∀ a, a ∉ rs → a ∉ logRegs → t.getR a = s.getR a
  mem : ∀ a, s.inVolRing a = false → t.memB a = s.memB a
  sump : t.sump = s.sump

/-- A step that stops: the only stop of the model is the host's access during the microsecond of a bus-mode change (R24). -/
def stops (o : Host.Outcome State Fault Refusal) : Bool :=
  match o with
  | .next _ => false
  | .fault _ => true
  | .refused _ => true

end Sys2Proof.Machine
end

