-- ==== Sys2Proof/Certificates/Slice0/Obligations.lean ====
section
/-! DEFINITION. The statements about the block, one `Obligations.<Name>` each. -/

open Sys2Proof
open Sys2Proof.Machine


/-! ## The queue, the lock and the bus -/

/-- The page whose lock and idle state govern a host command that writes one of its registers (R18, R35); the two commands of the Guard that
also wait for its reset, `tripReset` and `safetyFaultClr`, stand apart. -/
def lockPage : Instr → Option Nat
  | .swReset _ | .modeRequestConfigure | .modeRequestArmed | .modeRequestRun | .modeRequestSafe | .modeRequestCancel
  | .modeRequestBadCode _ | .clearanceFirst | .clearanceSecond => some Pg.PWR
  | .busCfgWrite _ | .clearBusErrors | .clearStale | .loadStart | .loadAbort => some Pg.HOST
  | .shadowCommit page | .shadowDiscard page | .eventCntClear page => some page
  | .relock | .ditherWrite _ => some Pg.CLK
  | .timeSet | .timeAdjust | .servoFracWrite _ | .servoSrcChange _ => some Pg.TIME
  | .bankDrop | .bankStage | .clrMissed | .swapAtWrite _ | .pumpClearFinMax | .pumpClearCounters => some Pg.PUMP
  | .chQuotaWrite _ => some Pg.SUMP
  | .chCreate _ | .chDrain | .chDestroy | .chManual | .chAuto | .coefWrite _ | .feClr => some Pg.CHAN0
  | .pfCreate _ | .pfDestroy | .pfHold | .pfRelease | .pfFstop | .fsAll | .pfResume | .pfSet => some Pg.PROF
  | .tCreate _ | .tDestroy | .tStart | .tStop | .tScan => some Pg.TRACK
  | .tableSwapArm _ => some Pg.COMP
  | .syncModeWrite _ => some Pg.SYNC
  | .isldClr => some Pg.ISLD
  | .pwmTripClr gen | .cmpaWrite gen _ | .pwmCtrlWrite gen _ | .pwmStatClrFlags gen
  | .pwmStatClrCounters gen => some (Pg.PWMn gen)
  | .tzClr | .pwmStart _ | .gcommit _ => some Pg.PWMC
  | .ilkClr _ | .islcFaultClr => some Pg.ISLC
  | .islFaultClr isl | .islStatClr isl | .islCtrlWrite isl _ => some (Pg.ISLn isl)
  | .adcSwTrigRegular adc | .adcSwTrigInjected adc | .adcEnable adc _ | .adcClear adc => some (Pg.ADCn adc)
  | .qRdWrite _ => some Pg.ADCQ
  | .cmpLatchClear _ => some Pg.CMP
  | .eyePointStart lane _ | .prbsInjectSingle lane | .prbsInjectBurst lane _ | .laneCtrlWrite lane _ | .laneClearCounters lane
  | .laneClearPrbs lane => some (Pg.LANEn lane)
  | .ringEnable ring _ | .ringTrain ring | .ringRejoin ring | .iqRequest ring _ _ | .iqAbort ring
  | .ringClear ring => some (Pg.RINGn ring)
  | .cellAdmit | .cellRetire | .cellBypass | .cellUnbypass => some Pg.CELLS
  | .cellFaultClr | .bypClr | .cellClear => some Pg.CELL
  | .energyClr point _ | .energyLoad point => some (Pg.METn point)
  | .evRdWrite _ => some Pg.PQ
  | .openChange _ | .openRestore _ | .burn _ | .sealAbort _ => some Pg.GSEAL
  | .subCreate _ | .subDestroy | .gooseClear => some Pg.GOOSE
  | .txHeadWrite port _ | .rxTailWrite port _ | .stnClear port => some (Pg.STNn (pn port))
  | .prpClear => some Pg.PRP
  | .ptpClear => some Pg.PTP
  | .svClear => some Pg.SV
  | .beaconSend | .wakeClr | .keepClear => some Pg.KEEP
  | .idmScan => some Pg.IDM
  | .auxpClear _ => some Pg.AUXP
  | .volRdWrite _ | .logClear => some Pg.LOG
  | .ageLoad | .testClearErrors | .testClearLaneMin => some Pg.TEST
  | _ => none

/-- A host access that no lock of its own page stops: an access by address, a header command, a selector. -/
def freeAccess : Instr → Bool
  | .registerWrite _ _ _ | .snapRead _ | .hostMemoryWrite _ _ _ | .guardWritePost _ _ _ | .pageLock _ | .pageLockSticky _
  | .pageUnlock _ _ | .handleSelect _ _ | .hostRead _ _ => true
  | _ => false

/-- A step takes the command at the front of the queue and is exec of it on the state with the queue's rest. -/
def Obligations.StepRunsTheFrontCommand : Prop :=
  ∀ (s : State) (c : Instr) (rest : List Instr), s.pending = c :: rest → step s = exec c { s with pending := rest }

/-- The model's own choice (log entry 2): on an empty queue one edge tick of 0.625 ns passes, plant time with it, and nothing else. -/
def Obligations.AnEmptyQueueLetsOneTickPass : Prop :=
  ∀ s : State, s.pending = [] →
    step s = .next { s with clk := { s.clk with tick := s.clk.tick + 1, plant8 := (s.clk.plant8 + 5) % plantMod } }

/-- Every command leaves the queue as it is and no log note behind it. -/
def Obligations.CommandsLeaveTheQueue : Prop :=
  ∀ (c : Instr) (s t : State), s.logq = [] → exec c s = .next t → t.pending = s.pending ∧ t.logq = []

/-- R24, R32, R93, R410: everything the block stores by an address keeps its canonical form in every step, so that equal contents are equal
data. -/
def Obligations.StepKeepsTheCanonicalForm : Prop := ∀ s t : State, s.Canonical → step s = .next t → t.Canonical

/-- The state after reset has the canonical form, an empty queue and no log note. -/
def resetIsCanonical : Prop := State.reset.Canonical ∧ State.reset.pending = [] ∧ State.reset.logq = []

/-- R1, R34, R45, R52, R56: after reset the device is DORMANT with the control-domain block held and the period generator stopped; every
register reads the reset value its table gives; nothing is stored; and no object is allocated. -/
def resetStateIsDormant : Prop :=
  State.reset.pw.mode = .dormant ∧ State.reset.pw.cblock = true ∧ State.reset.clk.gen = false ∧ State.reset.pump.inForce = false ∧
  (∀ a, State.reset.getR a = resetWord a) ∧ (∀ a, State.reset.memB a = 0) ∧ (∀ k, 3 ≤ k → State.reset.sumpW k = 0) ∧
  (∀ n, (State.reset.chan n).st = 0) ∧ (∀ n, (State.reset.prof n).alloc = false) ∧ (∀ n, (State.reset.trk n).alloc = false) ∧
  (∀ n, (State.reset.sub n).alloc = false) ∧ (∀ n, (State.reset.dir n).exists_ = false)

/-- Outside the microsecond of a bus-mode change every command is carried out: none is refused and none stops the run. -/
def Obligations.EveryCommandCompletes : Prop :=
  ∀ (c : Instr) (s : State), s.pw.busChange = none → ∃ t, exec c s = .next t

/-- R24: the one stop of the model. While a bus-mode change is under way a host access stops the run by name, and so does no other
command. -/
def accessDuringBusModeChangeStops : Prop :=
  ∀ (c : Instr) (s : State), s.pw.mode ≠ .dormant → s.pw.busChange.isSome = true →
    (lockPage c ≠ none ∨ freeAccess c = true → exec c s = .fault .accessDuringBusModeChange) ∧
    (∀ r, exec c s ≠ .refused r) ∧
    (∀ f, exec c s = .fault f → f = .accessDuringBusModeChange)

/-- R45: in DORMANT the host reads nothing and nothing it does has an effect. -/
def dormantIgnoresTheHost : Prop :=
  ∀ (c : Instr) (s : State), s.pw.mode = .dormant → lockPage c ≠ none ∨ freeAccess c = true → exec c s = .next s

/-- R35: while a page is locked, a host write to PAGE_CTRL, to SHADOW_CTRL or to any register at offset 0x040 or above, by its address, through
the Guard's queue or as the command that stands for it, changes nothing and is counted in REFUSED; IRQ_RAW, IRQ_EN and LOCK stay writable. -/
def Obligations.LockedPagesRefuse : Prop :=
  ∀ (s : State) (p : Nat), s.pw.mode ≠ .dormant → s.pw.busChange = none → s.logq = [] → s.idle p = false → s.locked p = true →
    (∀ c : Instr, lockPage c = some p → exec c s = .next (s.refuse p)) ∧
    (∀ (ad data : Word), ad.toNat % 4 = 0 → ad.toNat / 4096 = p → p < 88 → ¬ (Pg.GRD ≤ p ∧ p ≤ Pg.GSAFE) →
      let off := ad.toNat % 4096
      (off = 0x04 ∨ off = 0x1C ∨ 0x40 ≤ off → exec (.registerWrite ad data 0xF) s = .next (s.refuse p)) ∧
      (off = 0x0C → exec (.registerWrite ad data 0xF) s =
        .next ((if p = Pg.PUMP then s.settleNow else s).modR (Hdr.IRQ_RAW p) (fun w => w &&& ~~~data))) ∧
      (off = 0x10 → exec (.registerWrite ad data 0xF) s = .next (s.setR (Hdr.IRQ_EN p) (data &&& irqDefined p))) ∧
      (off = 0x18 → data = 0xA500 → s.getB (Hdr.LOCK p) 1 = false →
        ∃ t, exec (.registerWrite ad data 0xF) s = .next t ∧ t.locked p = false ∧ s.onlyRegs [Hdr.LOCK p] t)) ∧
    (∀ a w b rest, s.pw.gpost = (a, w, b) :: rest → s.grd.inReset = false → Pg.GRD ≤ p → p ≤ Pg.GSAFE → a / 4096 = p →
      (a % 4096 = 0x04 ∨ a % 4096 = 0x1C ∨ 0x40 ≤ a % 4096 →
        exec .guardWriteApply s = .next (({ s with pw.gpost := rest }).refuse p)) ∧
      (a % 4096 = 0x0C → exec .guardWriteApply s =
        .next (({ s with pw.gpost := rest }).setR (Hdr.IRQ_RAW p) (s.getR (Hdr.IRQ_RAW p) &&& ~~~w))))

/-- R18: the page of a block that is idle in the latched role ignores every command of the host. -/
def idlePagesIgnore : Prop :=
  ∀ (c : Instr) (s : State) (p : Nat), lockPage c = some p → s.pw.mode ≠ .dormant → s.pw.busChange = none → s.logq = [] →
    s.idle p = true → exec c s = .next s

/-- R407–R409: what the end of a command writes of its log notes changes the log's own registers and its ring in Main SRAM and nothing
else that a register, a memory or the Sump holds. -/
def logWritingTouchesOnlyTheLog : Prop :=
  ∀ s : State, s.Keeps [] s.flushLog ∧ s.flushLog.pw = s.pw ∧ s.flushLog.grd = s.grd ∧ s.flushLog.pump = s.pump ∧
    s.flushLog.kp.nv = s.kp.nv ∧ s.flushLog.clk = s.clk
/-! ## Strokes of the Pump -/

/-- The state after a scalar stroke that takes effect with result `r` on a Sump word: the result retires four cycles after issue (R79), and
what would have been NaN or infinite counts as it is written (R80); the sequencer goes on (R78). -/
def Sys2Proof.Machine.State.afterWord (s : State) (f : Scalar) (r : FRes) : State :=
  let o := s.strokeOpen
  let c := o.pump.cyc + 4
  (((o.pushRetire c (.sump f.dst.toNat r.w)).pushCount c r.nan r.ofl).strokeClose f.fin 1).flushLog

/-- The state after a compare or predicate stroke that takes effect: `p` is the truth value, none for a comparison with a NaN, which
writes 0 and counts (R80). -/
def Sys2Proof.Machine.State.afterPred (s : State) (f : Scalar) (p : Option Bool) : State :=
  let o := s.strokeOpen
  let c := o.pump.cyc + 4
  (((o.pushRetire c (.pred (f.dst.toNat % 8) (p.getD false))).pushCount c p.isNone false).strokeClose f.fin 1).flushLog

/-- A scalar stroke of opcode `op` is the one the running schedule issues next, its predicate lets it act, and it writes a Sump word. -/
def Sys2Proof.Machine.State.issuesScalar (s : State) (op : Nat) (f : Scalar) : Bool :=
  s.strokeReady (encodeScalar op f) && s.strokeOpen.predTakes f.pen f.pneg f.pidx && !f.out

/-- R82: each arithmetic stroke computes the value of its row from Sump[SA], Sump[SB] and Sump[SC] as they stand when it issues. -/
def arithmeticStrokesComputeTheirRow : Prop :=
  ∀ (s : State) (f : Scalar),
    let a := s.strokeOpen.sumpW f.sa.toNat
    let b := s.strokeOpen.sumpW f.sb.toNat
    let c := s.strokeOpen.sumpW f.sc.toNat
    (s.issuesScalar 0x01 f = true → exec (.fma f) s = .next (s.afterWord f (fenc (ffma (fdec a) (fdec b) (fdec c))))) ∧
    (s.issuesScalar 0x02 f = true → exec (.fms f) s = .next (s.afterWord f (fenc (ffma (fdec a) (fdec b) (fneg (fdec c)))))) ∧
    (s.issuesScalar 0x03 f = true → exec (.fnma f) s = .next (s.afterWord f (fenc (ffma (fneg (fdec a)) (fdec b) (fdec c))))) ∧
    (s.issuesScalar 0x04 f = true →
      exec (.lerp f) s = .next (s.afterWord f (fenc (ffma (fround (fadd (fdec b) (fneg (fdec a)))) (fdec c) (fdec a))))) ∧
    (s.issuesScalar 0x08 f = true → exec (.min f) s = .next (s.afterWord f (fenc (fmin (fdec a) (fdec b))))) ∧
    (s.issuesScalar 0x09 f = true → exec (.max f) s = .next (s.afterWord f (fenc (fmax (fdec a) (fdec b))))) ∧
    (s.issuesScalar 0x0A f = true → exec (.clamp f) s = .next (s.afterWord f (fenc (fmin (fmax (fdec a) (fdec b)) (fdec c))))) ∧
    (s.issuesScalar 0x0C f = true → exec (.abs f) s = .next (s.afterWord f (fenc (fabs (fdec a))))) ∧
    (s.issuesScalar 0x0D f = true → exec (.neg f) s = .next (s.afterWord f (fenc (fneg (fdec a))))) ∧
    (s.issuesScalar 0x0E f = true → exec (.rcp f) s = .next (s.afterWord f (frcp a))) ∧
    (s.issuesScalar 0x0F f = true → exec (.rsq f) s = .next (s.afterWord f (frsq a))) ∧
    (s.issuesScalar 0x10 f = true → exec (.wrap f) s = .next (s.afterWord f (fwrap (fdec a) (fdec b) (Config.wrapInf a)))) ∧
    (s.issuesScalar 0x11 f = true → exec (.tlu f) s = .next (s.afterWord f (s.strokeOpen.tlu (f.imm.toNat % 8) a b)))

/-- R82, R80: the integer strokes work modulo 2^32 and count nothing; F2I counts a NaN operand. -/
def integerStrokesComputeTheirRow : Prop :=
  ∀ (s : State) (f : Scalar),
    let a := s.strokeOpen.sumpW f.sa.toNat
    let b := s.strokeOpen.sumpW f.sb.toNat
    (s.issuesScalar 0x20 f = true → exec (.iadd f) s = .next (s.afterWord f ⟨a + b, false, false⟩)) ∧
    (s.issuesScalar 0x21 f = true → exec (.isub f) s = .next (s.afterWord f ⟨a - b, false, false⟩)) ∧
    (s.issuesScalar 0x22 f = true → exec (.iand f) s = .next (s.afterWord f ⟨a &&& b, false, false⟩)) ∧
    (s.issuesScalar 0x23 f = true → exec (.ior f) s = .next (s.afterWord f ⟨a ||| b, false, false⟩)) ∧
    (s.issuesScalar 0x24 f = true → exec (.ixor f) s = .next (s.afterWord f ⟨a ^^^ b, false, false⟩)) ∧
    (s.issuesScalar 0x25 f = true → exec (.ishl f) s = .next (s.afterWord f ⟨a <<< fld b 0 5, false, false⟩)) ∧
    (s.issuesScalar 0x26 f = true → exec (.ishr f) s = .next (s.afterWord f ⟨a.sshiftRight (fld b 0 5), false, false⟩)) ∧
    (s.issuesScalar 0x27 f = true → exec (.f2i f) s = .next (s.afterWord f ⟨(ff2i a).1, (ff2i a).2, false⟩)) ∧
    (s.issuesScalar 0x28 f = true → exec (.i2f f) s = .next (s.afterWord f ⟨fi2f a, false, false⟩))

/-- R82: each compare and predicate stroke sets predicate P[DST[2:0]], and SEL always writes a or b on its predicate. -/
def predicateStrokesSetTheirPredicate : Prop :=
  ∀ (s : State) (f : Scalar),
    let a := s.strokeOpen.sumpW f.sa.toNat
    let b := s.strokeOpen.sumpW f.sb.toNat
    let p := s.strokeOpen.pump.preds
    let takes := s.strokeOpen.predTakes f.pen f.pneg f.pidx
    (s.strokeReady (encodeScalar 0x14 f) && takes → exec (.clt f) s = .next (s.afterPred f (flt (fdec a) (fdec b)))) ∧
    (s.strokeReady (encodeScalar 0x15 f) && takes → exec (.cle f) s = .next (s.afterPred f ((flt (fdec b) (fdec a)).map (!·)))) ∧
    (s.strokeReady (encodeScalar 0x16 f) && takes → exec (.ceq f) s = .next (s.afterPred f (feq (fdec a) (fdec b)))) ∧
    (s.strokeReady (encodeScalar 0x17 f) && takes → exec (.calt f) s = .next (s.afterPred f (flt (fabs (fdec a)) (fdec b)))) ∧
    (s.strokeReady (encodeScalar 0x18 f) && takes →
      exec (.pand f) s = .next (s.afterPred f (some (p.getLsbD (f.sa.toNat % 8) && p.getLsbD (f.sb.toNat % 8))))) ∧
    (s.strokeReady (encodeScalar 0x19 f) && takes →
      exec (.por f) s = .next (s.afterPred f (some (p.getLsbD (f.sa.toNat % 8) || p.getLsbD (f.sb.toNat % 8))))) ∧
    (s.strokeReady (encodeScalar 0x29 f) && takes → exec (.iclt f) s = .next (s.afterPred f (some (decide (a.toInt < b.toInt))))) ∧
    (s.strokeReady (encodeScalar 0x0B f) && !f.out →
      exec (.sel f) s = .next (((s.strokeOpen.pushRetire (s.strokeOpen.pump.cyc + 4)
        (.sump f.dst.toNat (if p.getLsbD f.pidx.toNat != f.pneg then a else b))).strokeClose f.fin 1).flushLog))

/-- R82, R83: what one element of each vector stroke adds. `vecFold` runs elements 0 to IMM, each at its own issue cycle, over the state
and an accumulator; the strokes that return a word push it four cycles after the last element. -/
def vectorStrokesRunTheirElements : Prop :=
  ∀ (s : State) (f : Vec),
    let o := s.strokeOpen
    let a := o.sumpW f.sa.toNat
    let b := o.sumpW f.sb.toNat
    let n := f.imm.toNat + 1
    let takes := o.predTakes f.pen f.pneg f.pidx
    let each (g : Word → FRes) : State := (vecFold (fun t u i => (u, (t.elemMap f i g).2)) o.pump.cyc o () 0 n).2
    let pick (isMax : Bool) : Option (FVal × Nat) × State :=
      vecFold (fun t acc i => (extremeStep isMax acc (fdec (t.readElem f.xd.toNat i).1) i, (t.readElem f.xd.toNat i).2)) o.pump.cyc o none 0 n
    let after (t : State) : State := (t.strokeClose f.fin n).flushLog
    (s.strokeReady (encodeVec 0x30 f) && takes → exec (.vfma f) s = .next (after (each (fun x => fmaW x a b)))) ∧
    (s.strokeReady (encodeVec 0x31 f) && takes →
      let r := vecFold (fun t acc i => (sumStep acc (fdec (t.elemMap f i (fun x => fmaW x a b)).1), (t.elemMap f i (fun x => fmaW x a b)).2))
        o.pump.cyc o none 0 n
      exec (.vfmas f) s = .next (after (r.2.writeD f (fenc (r.1.getD .nan))))) ∧
    (s.strokeReady (encodeVec 0x32 f) && takes →
      let r := vecFold (fun t acc i => (sumStep acc (fround (ffma (fdec (t.readElem f.xd.toNat i).1) (fdec a) (fdec b))), (t.readElem f.xd.toNat i).2))
        o.pump.cyc o none 0 n
      exec (.vsum f) s = .next (after (r.2.writeD f (fenc (r.1.getD .nan))))) ∧
    (s.strokeReady (encodeVec 0x33 f) && takes →
      exec (.vmax f) s = .next (after ((pick true).2.writeD f (fenc ((pick true).1.getD (.nan, 0)).1)))) ∧
    (s.strokeReady (encodeVec 0x34 f) && takes →
      exec (.vmin f) s = .next (after ((pick false).2.writeD f (fenc ((pick false).1.getD (.nan, 0)).1)))) ∧
    (s.strokeReady (encodeVec 0x35 f) && takes →
      exec (.vimax f) s = .next (after ((pick true).2.writeD f (indexRes ((pick true).1.getD (.nan, 0)))))) ∧
    (s.strokeReady (encodeVec 0x36 f) && takes →
      exec (.vimin f) s = .next (after ((pick false).2.writeD f (indexRes ((pick false).1.getD (.nan, 0)))))) ∧
    (s.strokeReady (encodeVec 0x37 f) && takes →
      exec (.vclamp f) s = .next (after (each (fun x => fenc (fmin (fmax (fdec x) (fdec a)) (fdec b)))))) ∧
    (s.strokeReady (encodeVec 0x38 f) && takes → exec (.vmov f) s = .next (after (each rawRes))) ∧
    (s.strokeReady (encodeVec 0x39 f) && takes →
      exec (.vsplat f) s = .next (after (vecFold (fun t u i => (u, t.writeElem f.yd.toNat i a (t.pump.cyc + i + 4))) o.pump.cyc o () 0 n).2)) ∧
    (s.strokeReady (encodeVec 0x3C f) && takes →
      exec (.vwrap f) s = .next (after (each (fun x => fwrap (fround (fadd (fdec x) (fdec a))) (fdec b) (Config.wrapInf x)))))

/-- R82: VGET and VPUT move one element in one cycle, NOP occupies IMM + 1 cycles, and an unlisted opcode is a one-cycle NOP that counts in
BADOP_CNT and sets IRQ_RAW bit 7. -/
def singleElementStrokesNopAndBadop : Prop :=
  ∀ (s : State) (f : Vec) (g : Scalar) (w : BitVec 64),
    let o := s.strokeOpen
    let takes := o.predTakes f.pen f.pneg f.pidx
    (s.strokeReady (encodeVec 0x3A f) && takes →
      exec (.vget f) s = .next ((((o.readElem f.xd.toNat f.imm.toNat).2.pushRetire (o.pump.cyc + 4)
        (.sump f.sd.toNat (o.readElem f.xd.toNat f.imm.toNat).1)).strokeClose f.fin 1).flushLog)) ∧
    (s.strokeReady (encodeVec 0x3B f) && takes →
      exec (.vput f) s = .next (((o.writeElem f.yd.toNat f.imm.toNat (o.sumpW f.sa.toNat) (o.pump.cyc + 4)).strokeClose f.fin 1).flushLog)) ∧
    (s.strokeReady (encodeScalar 0x00 g) = true → exec (.nop g) s = .next ((o.strokeClose g.fin (g.imm.toNat + 1)).flushLog)) ∧
    (s.strokeReady w && !opListed (strokeOp w) →
      exec (.badop w) s = .next ((((o.incSat Reg.PUMP_BADOP_CNT).irq Pg.PUMP 7).strokeClose (strokeFin w) 1).flushLog))

/-- R84: with its predicate against it a stroke writes nothing and counts nothing, and occupies its cycles all the same. -/
def predicatedOffStrokeOnlyPasses : Prop :=
  ∀ (s : State) (f : Scalar) (v : Vec),
    (s.strokeOpen.predTakes f.pen f.pneg f.pidx = false →
      ∀ (op : Nat) (g : State → Word → Word → Word → FRes), s.strokeReady (encodeScalar op f) = true →
        s.scalarWord op f g = s.strokeOpen.strokeClose f.fin 1) ∧
    (s.strokeOpen.predTakes v.pen v.pneg v.pidx = false →
      (s.strokeReady (encodeVec 0x30 v) = true → exec (.vfma v) s = .next (s.strokeOpen.strokeClose v.fin (v.imm.toNat + 1)).flushLog) ∧
      (s.strokeReady (encodeVec 0x32 v) = true → exec (.vsum v) s = .next (s.strokeOpen.strokeClose v.fin (v.imm.toNat + 1)).flushLog) ∧
      (s.strokeReady (encodeVec 0x3A v) = true → exec (.vget v) s = .next (s.strokeOpen.strokeClose v.fin 1).flushLog))

/-- R93: a retirement on Sump words 0 to 47 is discarded, counted in SYSWR_CNT and sets IRQ_RAW bit 6; on another word it is the word's
value, and no other Sump word changes. -/
def sumpRetirementRespectsSystemWords : Prop :=
  ∀ (s : State) (c i : Nat) (w : Word) (m : Bool),
    (i < 48 → ∀ k, (s.retire c (.sump i w) m).sumpW k = s.sumpW k) ∧
    (i < 48 → s.getR Reg.PUMP_SYSWR_CNT ≠ 0xFFFFFFFF → (s.retire c (.sump i w) m).getR Reg.PUMP_SYSWR_CNT = s.getR Reg.PUMP_SYSWR_CNT + 1) ∧
    (i < 48 → (s.retire c (.sump i w) m).getB (Hdr.IRQ_RAW Pg.PUMP) 6 = true) ∧
    (48 ≤ i → (s.retire c (.sump i w) m).sumpW i = w ∧ ∀ k, k ≠ i → (s.retire c (.sump i w) m).sumpW k = s.sumpW k)

/-! ## Schedule banks, quotas and loop channels -/

/-- R88, R99, R108, R436: the bank commands of PUMP.BANK_CMD, SWAP_AT and PUMP.CLEAR. -/
def bankCommandsTakeEffect : Prop :=
  ∀ s : State, s.HostReady Pg.PUMP → s.logq = [] →
    (s.pump.stagedBank = true → ∃ t, exec .bankDrop s = .next t ∧ t.pump.stagedBank = false ∧
      (∀ n, n < 128 → (s.chan n).st = 2 → (t.chan n).st = 1 ∧ (t.chan n).used = 0 ∧ (t.chan n).granules = []) ∧
      (∀ n, n < 128 → (s.chan n).st ≠ 2 → t.chan n = { s.chan n with release := false })) ∧
    (∀ l, s.pw.mode = .configure → s.getB Reg.PUMP_CTRL 0 = true → s.pump.stagedBank = false → s.directLayout s.standby = some l →
      l.outPhase ≠ 0 → l.outPhase ≠ 255 → s.phaseConflict l.outPhase = none → l.sliceSys.length ≤ l.slowDiv →
      ∃ t, exec .bankStage s = .next t ∧ t.pump.stagedBank = true ∧ t.lay s.standby = l) ∧
    exec .clrMissed s = .next { s with pump.missed := false } ∧
    (∀ d, (s.setR Reg.PUMP_SWAP_AT d).swapPast = false → exec (.swapAtWrite d) s = .next (s.setR Reg.PUMP_SWAP_AT d)) ∧
    exec .pumpClearFinMax s = .next (s.setR Reg.PUMP_FIN_MAX 0) ∧
    (∃ t, exec .pumpClearCounters s = .next t ∧
      s.settleNow.onlyRegs [Reg.PUMP_OVR_CNT, Reg.PUMP_SLOW_ABANDON_CNT, Reg.PUMP_NAN_CNT, Reg.PUMP_OFL_CNT, Reg.PUMP_RES_FAULT_CNT,
        Reg.PUMP_SYSWR_CNT, Reg.PUMP_BADOP_CNT] t ∧
      ∀ a ∈ [Reg.PUMP_OVR_CNT, Reg.PUMP_SLOW_ABANDON_CNT, Reg.PUMP_NAN_CNT, Reg.PUMP_OFL_CNT, Reg.PUMP_RES_FAULT_CNT,
        Reg.PUMP_SYSWR_CNT, Reg.PUMP_BADOP_CNT], t.getR a = 0)

/-- R88: a write to SWAP_AT with MODE = 1 and a bank staged, naming a period that is past, sets MISSED and IRQ_RAW bit 5, and the bank does
not swap; the entry holds SWAP_AT and PERIOD_CNT. -/
def swapAtInThePastIsMissed : Prop :=
  ∀ (s : State) (d : Word), s.HostReady Pg.PUMP → s.pump.stagedBank = true → s.getB Reg.PUMP_SWAP_CFG 0 = true →
    (s.setR Reg.PUMP_SWAP_AT d).swapPast = true →
    ∃ t, exec (.swapAtWrite d) s = .next t ∧ t.pump.missed = true ∧ t.getR Reg.PUMP_SWAP_AT = d ∧
      t.getB (Hdr.IRQ_RAW Pg.PUMP) 5 = true ∧ t.pump.stagedBank = true ∧
      t = (((({ s with pump.missed := true }).setR Reg.PUMP_SWAP_AT d).irq Pg.PUMP 5).logE 1 (some 5) Pg.PUMP 0
        [(4, d.toNat), (4, (s.getR Reg.TIME_PERIOD_CNT).toNat)]).flushLog

/-- R95, R96: CH_QUOTA is accepted when the request fits into what the channel holds and the pool, and refused with its counter and
IRQ_RAW bit 1 when it does not. -/
def quotaIsGrantedFromThePool : Prop :=
  ∀ (s : State) (n : Nat) (d : Word), s.HostReady Pg.SUMP → s.logq = [] → s.Selected Reg.SUMP_CH_SEL 1 n → s.loadingSlot ≠ some n →
    (fld d 0 8 ≤ 240 → max (fld d 0 8) (s.chan n).used ≤ (s.chan n).eff + s.poolFree →
      ∃ t, exec (.chQuotaWrite d) s = .next t ∧ (t.chan n).req = fld d 0 8 ∧ (∀ k, k ≠ n → t.chan k = s.chan k) ∧
        t.sump = s.sump ∧ t.mem = s.mem) ∧
    ((s.chan n).eff + s.poolFree < max (fld d 0 8) (s.chan n).used →
      exec (.chQuotaWrite d) s = .next (((s.refuse Pg.SUMP).incSat Reg.SUMP_QREFUSE_CNT).irq Pg.SUMP 1))

/-- R102, R103, R106, R111: what each channel command does to the slot it is for. -/
def channelCommandsTakeEffect : Prop :=
  ∀ (s : State) (n : Nat), s.HostReady Pg.CHAN0 → s.logq = [] → s.chanModes = true →
    (∀ slot : Option (Fin 128), s.createSlot (slot.map (·.val)) = some n →
      ∃ t, exec (.chCreate slot) s = .next t ∧ (t.chan n).st = 1 ∧ (t.chan n).gen = (s.chan n).gen ∧
        t.getR Reg.CHAN0_NEW_HANDLE = s.chanHandle n ∧ t.getR Reg.CHAN0_CH_SEL = s.chanHandle n ∧ ∀ k, k ≠ n → t.chan k = s.chan k) ∧
    (s.Selected Reg.CHAN0_CH_SEL 1 n →
      ((s.chan n).st = 3 → (s.chan n).release = false → s.loaderBusy = false →
        exec .chDrain s = .next (({ s with drainJob := some ⟨n, (s.chan n).gen⟩ }).setR Reg.HOST_LOAD_STAT 1)) ∧
      ((s.chan n).st = 1 ∨ (s.chan n).st = 2 →
        ∃ t, exec .chDestroy s = .next t ∧ t.chan n = freeSlot (((s.chan n).gen + 1) % 256)) ∧
      ((s.chan n).st = 2 → (s.chan n).hasManual = true → s.clk.gen = true →
        exec .chManual s = .next (s.setChan n { s.chan n with auto := false })) ∧
      ((s.chan n).st = 3 → (s.chan n).hasManual = true → s.clk.gen = true →
        exec .chManual s = .next (s.setChan n { s.chan n with cmd := some false, cmdAfterExec := false })) ∧
      ((s.chan n).st = 2 → (s.chan n).feHeld = false → s.clk.gen = true →
        exec .chAuto s = .next (s.setChan n { s.chan n with auto := true })) ∧
      ((s.chan n).st = 3 → (s.chan n).feHeld = false → s.clk.gen = true →
        exec .chAuto s = .next (s.setChan n { s.chan n with cmd := some true, cmdAfterExec := false })) ∧
      exec .feClr s = .next (s.setChan n { s.chan n with feFired := false, feHeld := false }))

/-- R108, R106, R115: the ends of a drain, and a following error that fires. -/
def channelEventsTakeEffect : Prop :=
  ∀ (s : State) (n : Fin 128),
    ((s.chan n).st = 4 → (s.chan n).drain = 0 →
      ∃ t, exec (.channelFree n) s = .next t ∧ t.chan n = freeSlot (((s.chan n).gen + 1) % 256)) ∧
    (∀ j p, s.drainJob = some j → (s.chan j.slot).st = 3 → (s.chan j.slot).gen = j.gen → s.basePlan = some p →
      ∃ t, exec .drainDone s = .next t ∧ t.drainJob = none ∧ (t.chan j.slot).release = true ∧ t.pump.stagedBank = true ∧
        t.getR Reg.HOST_LOAD_STAT = 2) ∧
    ((s.chan n).supervised = true → (s.chan n).feTime < (s.chan n).feTimer → (s.chan n).feOver = false →
      s.pw.mode ≠ .armed → s.pw.mode ≠ .run → s.getR Reg.CHAN0_FE_EVENT_CNT ≠ 0xFFFFFFFF →
      ∃ t, exec (.followingErrorFire n) s = .next t ∧ t.chan n = { s.chan n with feOver := true, feFired := true } ∧
        t.getR Reg.CHAN0_FE_EVENT_CNT = s.getR Reg.CHAN0_FE_EVENT_CNT + 1 ∧ t.getB (Hdr.IRQ_RAW Pg.CHAN0) 2 = true)

/-- R112, R437: COEF_DATA stores the local word COEF_IDX names, after the retirements of the cycle that ends, and every other Sump word is
as those leave it. -/
def coefficientWriteStoresOneLocalWord : Prop :=
  ∀ (s : State) (n : Nat) (d : Word), s.HostReady Pg.CHAN0 → s.Selected Reg.CHAN0_CH_SEL 1 n →
    ((s.chan n).st = 2 ∨ (s.chan n).st = 3) → s.getF Reg.CHAN0_COEF_IDX 0 10 < 4 * (s.chan n).used →
    48 ≤ (s.chan n).place (s.getF Reg.CHAN0_COEF_IDX 0 10) →
    ∃ t, exec (.coefWrite d) s = .next t ∧ t.sumpW ((s.chan n).place (s.getF Reg.CHAN0_COEF_IDX 0 10)) = d ∧
      ∀ k, k ≠ (s.chan n).place (s.getF Reg.CHAN0_COEF_IDX 0 10) → t.sumpW k = s.settleNow.sumpW k

/-! ## Profiles and trackers -/

/-- R118, R121–R124, R139: what each profile command does to the slot it is for; commands wait for the next E0. -/
def profileCommandsTakeEffect : Prop :=
  ∀ (s : State) (n : Nat), s.HostReady Pg.PROF → s.logq = [] →
    (∀ slot : Option (Fin 16), pickSlot (fun k => !(s.prof k).alloc) 16 (slot.map (·.val)) = some n →
      ∃ t, exec (.pfCreate slot) s = .next t ∧ t.prof n = { freeProf (s.prof n).gen with alloc := true, st := 1 } ∧
        t.getR Reg.PROF_NEW_HANDLE = mkHandle 3 (s.prof n).gen n ∧ t.getR Reg.PROF_PF_SEL = mkHandle 3 (s.prof n).gen n ∧
        ∀ k, k ≠ n → t.prof k = s.prof k) ∧
    (s.Selected Reg.PROF_PF_SEL 3 n →
      (s.notRunModes = true → exec .pfDestroy s = .next (s.setProf n (freeProf (((s.prof n).gen + 1) % 256)))) ∧
      ((s.prof n).st < 4 → exec .pfHold s = .next (s.setProf n { s.prof n with cmds := (s.prof n).cmds ++ [3] })) ∧
      exec .pfRelease s = .next (s.setProf n { s.prof n with cmds := (s.prof n).cmds ++ [4] }) ∧
      exec .pfFstop s = .next (s.setProf n { s.prof n with fsPend := true }) ∧
      exec .pfResume s = .next (s.setProf n { s.prof n with cmds := (s.prof n).cmds ++ [6] }) ∧
      (s.notRunModes = true → exec .pfSet s = .next (s.setProf n { s.prof n with cmds := (s.prof n).cmds ++ [7] })) ∧
      (s.notRunModes = false → exec .pfSet s = .next (s.refuse Pg.PROF))) ∧
    (∃ t, exec .fsAll s = .next t ∧
      ∀ k, k < 16 → t.prof k = if (s.prof k).alloc then { s.prof k with fsPend := true } else s.prof k)

/-- R120, R123: a trajectory that has ended leaves the slot SETTLED on TARGET, and a fast stop FSTOPPED on FS_TARGET, with v and a at +0.0
and the interrupt bit set; no other slot and no Sump word changes. -/
def profileEndsOnItsTarget : Prop :=
  ∀ (s : State) (n : Fin 16), (s.prof n).alloc = true → (s.prof n).ended = true →
    ((s.prof n).st = 2 → ∃ t, exec (.profileSettled n) s = .next t ∧ t.prof n = { s.prof n with st := 1, ended := false } ∧
      t.getR (Reg.PROF_PS_Y n) = s.getR (Reg.PROF_PS_TARGET n) ∧ t.getR (Reg.PROF_PS_V n) = 0 ∧ t.getR (Reg.PROF_PS_A n) = 0 ∧
      t.getB (Hdr.IRQ_RAW Pg.PROF) 0 = true ∧ t.sump = s.sump ∧ ∀ k, k ≠ n.val → t.prof k = s.prof k) ∧
    ((s.prof n).st = 4 → ∃ t, exec (.fstopReached n) s = .next t ∧ t.prof n = { s.prof n with st := 5, ended := false } ∧
      t.getR (Reg.PROF_PS_Y n) = s.getR (Reg.PROF_PS_FS_TARGET n) ∧ t.getR (Reg.PROF_PS_V n) = 0 ∧ t.getR (Reg.PROF_PS_A n) = 0 ∧
      t.getB (Hdr.IRQ_RAW Pg.PROF) 1 = true ∧ t.sump = s.sump ∧ ∀ k, k ≠ n.val → t.prof k = s.prof k)

/-- R127, R131: what each tracker command does to the slot it is for, and the scan that falls due. -/
def trackerCommandsTakeEffect : Prop :=
  ∀ (s : State) (n : Nat), s.HostReady Pg.TRACK → s.logq = [] →
    (∀ slot : Option (Fin 64), pickSlot (fun k => !(s.trk k).alloc) 64 (slot.map (·.val)) = some n →
      ∃ t, exec (.tCreate slot) s = .next t ∧ t.trk n = { freeTrk (s.trk n).gen with alloc := true, st := 1 } ∧ t.vref n = 0 ∧
        t.getR Reg.TRACK_NEW_HANDLE = mkHandle 2 (s.trk n).gen n ∧ t.getR Reg.TRACK_T_SEL = mkHandle 2 (s.trk n).gen n ∧
        ∀ k, k ≠ n → t.trk k = s.trk k) ∧
    (s.Selected Reg.TRACK_T_SEL 2 n →
      ((s.trk n).st = 1 → ∃ t, exec .tDestroy s = .next t ∧ t.trk n = freeTrk (((s.trk n).gen + 1) % 256) ∧ t.vref n = 0) ∧
      (∃ t, exec .tStart s = .next t ∧ (t.trk n).st = 2 ∧ (t.trk n).baseline = true ∧
        t.vref n = (s.trk n).clampV ((s.trk n).get 0x060)) ∧
      exec .tStop s = .next (s.setTrk n { s.trk n with st := 1, stepDue := false, scanReq := false }) ∧
      exec .tScan s = .next (s.setTrk n { s.trk n with scanReq := true })) ∧
    (∀ k : Fin 64, (s.trk k).alloc = true → 2 ≤ (s.trk k).st → 0 < fld ((s.trk k).get 0x080) 0 16 → (s.trk k).scanReq = false →
      fld ((s.trk k).get 0x080) 0 16 * tickS ≤ (s.trk k).sinceScan →
      exec (.scanIntervalExpire k) s = .next (s.setTrk k { s.trk k with scanReq := true }))

/-- R129, R130, R133: a due step of a TRACKING tracker. With samples whose mean voltage is positive it records V, I and P, and the tracker's
word of the vector takes Vref; a baseline step moves nothing; without a sample the step is skipped and counted. -/
def trackerStepRecordsItsAverages : Prop :=
  ∀ (s : State) (n : Fin 64), s.logq = [] → (s.trk n).alloc = true → (s.trk n).stepDue = true → (s.trk n).st = 2 →
    (s.trk n).scanReq = false →
    let s0 := s.setTrk n { s.trk n with stepDue := false }
    let mv := s0.trkMean (s.trk n).sumV (s.trk n).runV (s.trk n).count
    let mi := mv.2.trkMean (s.trk n).sumI (s.trk n).runI (s.trk n).count
    ((s.trk n).count ≠ 0 → fltW 0 mv.1 = true →
      ∃ t, exec (.trackerStep n) s = .next t ∧ (t.trk n).stepDue = false ∧ (t.trk n).vp = mv.1 ∧ (t.trk n).ip = mi.1 ∧
        (t.trk n).skips = 0 ∧ t.getR (Reg.TRACK_V_V n) = mv.1 ∧ t.getR (Reg.TRACK_I_V n) = mi.1 ∧
        t.getR (Reg.TRACK_P_V n) = (fmulW mv.1 mi.1).w ∧ t.sramW (s.getF Reg.TRACK_VEC_BASE 0 18 + n) = t.vref n ∧
        ((s.trk n).baseline = true → t.vref n = s.vref n) ∧
        ∀ a, a < sramBase + 4 * (s.getF Reg.TRACK_VEC_BASE 0 18 + n) ∨ sramBase + 4 * (s.getF Reg.TRACK_VEC_BASE 0 18 + n) + 4 ≤ a →
          t.memB a = s.memB a) ∧
    ((s.trk n).count = 0 → (s.trk n).skips + 1 < 3 →
      ∃ t, exec (.trackerStep n) s = .next t ∧ (t.trk n).skips = (s.trk n).skips + 1 ∧ t.vref n = s.vref n ∧ (t.trk n).stepDue = false)

/-! ## Grid policy: SYNC, RIDE, ISLD, and the compensation tables -/

/-- R146, R151–R153, R164: the transitions of SYNC, each under the condition its rule gives; each sets its interrupt bit and changes no
register beyond those named. -/
def syncTransitionsFollowTheirRules : Prop :=
  ∀ s : State, s.logq = [] →
    let n := max 1 (s.getF Reg.SYNC_LOCK_N 0 16)
    let ret := decide (max 1 (s.getF Reg.SYNC_RET_SETTLE 0 8) ≤ s.sync.settle)
    (s.sync.st = 1 → s.sync.fClamp = false → n ≤ s.sync.lockCnt →
      ∃ t, exec .syncLock s = .next t ∧ t.sync = { s.sync with st := 2, lockCnt := 0 } ∧ t.getB (Hdr.IRQ_RAW Pg.SYNC) 0 = true ∧
        s.Keeps [Hdr.IRQ_RAW Pg.SYNC, Hdr.EVENT_CNT Pg.SYNC] t) ∧
    (s.sync.st = 2 → n ≤ s.sync.lockCnt →
      ∃ t, exec .syncUnlock s = .next t ∧ t.sync = { s.sync with st := 1, lockCnt := 0 } ∧ t.getB (Hdr.IRQ_RAW Pg.SYNC) 4 = true ∧
        s.Keeps [Hdr.IRQ_RAW Pg.SYNC, Hdr.EVENT_CNT Pg.SYNC] t) ∧
    (s.sync.st = 3 → ret = false → s.getF Reg.SYNC_COAST_MAX 0 16 * 1600000 < s.sync.coast * s.period →
      ∃ t, exec .syncLost s = .next t ∧ t.sync = { s.sync with st := 5 } ∧ t.getB (Hdr.IRQ_RAW Pg.SYNC) 3 = true ∧
        (s.getR Reg.SYNC_LOSS_CNT ≠ 0xFFFFFFFF → t.getR Reg.SYNC_LOSS_CNT = s.getR Reg.SYNC_LOSS_CNT + 1) ∧
        s.Keeps [Hdr.IRQ_RAW Pg.SYNC, Hdr.EVENT_CNT Pg.SYNC, Reg.SYNC_LOSS_CNT] t) ∧
    (s.sync.st = 5 → ret = true →
      ∃ t, exec .lostReturn s = .next t ∧ t.sync = { s.sync with st := 1, settle := 0, lockCnt := 0 } ∧ t.sumpW 8 = s.sync.thetaObs ∧
        t.sumpW 11 = s.sumpW 11 ∧ t.getR Reg.SYNC_THETA_V = s.sync.thetaObs ∧ ∀ k, k ∉ [8, 9, 10, 11] → t.sumpW k = s.sumpW k) ∧
    (s.sync.st = 4 → s.sumpW 8 = s.sync.thetaObs →
      ∃ t, exec .slewDone s = .next t ∧ t.sync = { s.sync with st := 2, lockCnt := 0 } ∧
        s.Keeps [Hdr.EVENT_CNT Pg.SYNC] t)

/-- R152: at the return of the voltage the jump and the length of the coast are recorded; a jump not above JUMP_SNAP is taken at once, and
SYNC is TRACKING; a larger one counts, and grid forming takes it at once too. -/
def phaseJumpIsMeasured : Prop :=
  ∀ s : State, s.sync.st = 3 → max 1 (s.getF Reg.SYNC_RET_SETTLE 0 8) ≤ s.sync.settle →
    let j := degOfTurns (wrapTurns (turnsOf s.sync.thetaObs - turnsOf (advanceAng (s.sumpW 8) (s.sumpW 11) s.tS)))
    ∃ t, exec .jumpMeasure s = .next t ∧ t.getR Reg.SYNC_JUMP_LAST = j ∧ t.getR Reg.SYNC_COAST_LAST = w32 s.sync.coast ∧
      t.getB (Hdr.IRQ_RAW Pg.SYNC) 2 = true ∧ t.sync.coast = 0 ∧
      (fleW (fabsW j) (s.getR Reg.SYNC_JUMP_SNAP) = true ∨ s.sync.gfm = true → t.sync.st = 2 ∧ t.sumpW 8 = s.sync.thetaObs) ∧
      (fleW (fabsW j) (s.getR Reg.SYNC_JUMP_SNAP) = true → t.getR Reg.SYNC_JUMP_CNT = s.getR Reg.SYNC_JUMP_CNT) ∧
      (fleW (fabsW j) (s.getR Reg.SYNC_JUMP_SNAP) = false → s.getR Reg.SYNC_JUMP_CNT ≠ 0xFFFFFFFF →
        t.getR Reg.SYNC_JUMP_CNT = s.getR Reg.SYNC_JUMP_CNT + 1)

/-- R148: CFG.MODE is taken in CONFIGURE and ARMED; elsewhere a change of it is refused and counted. -/
def gridFormingIsChosenBeforeRun : Prop :=
  ∀ (s : State) (gf : Bool), s.HostReady Pg.SYNC → s.logq = [] →
    (s.pw.mode = .configure ∨ s.pw.mode = .armed →
      ∃ t, exec (.syncModeWrite gf) s = .next t ∧ t.getB Reg.SYNC_CFG 1 = gf ∧ t.getB Reg.SYNC_CFG 0 = s.getB Reg.SYNC_CFG 0 ∧
        s.onlyRegs [Reg.SYNC_CFG] t) ∧
    (s.pw.mode ≠ .configure → s.pw.mode ≠ .armed → gf ≠ s.getB Reg.SYNC_CFG 1 →
      exec (.syncModeWrite gf) s = .next (s.refuse Pg.SYNC))

/-- R155, R156, R165: in RUN with RIDE on, a point that fires enters TRIP_REQUEST with its source and index, and the reactive current and
its limit fall to +0.0; EXIT_T good E0s end SUPPORT in RECOVERY. -/
def rideTransitionsFollowTheirRules : Prop :=
  ∀ s : State, s.pw.mode = .run → s.getB Reg.RIDE_CFG 0 = true →
    (∀ k : Fin 24, s.ride.sub ≠ 4 → s.rideTimer k ≠ 0 → s.getF (pointReg k) 0 16 ≠ 0xFFFF →
      s.getF (pointReg k) 0 16 * 1600000 < s.rideTimer k * s.period → s.sync.clamp = false →
      ∃ t, exec (.ridePointFire k) s = .next t ∧ t.ride.sub = 4 ∧ (t.ride.src, t.ride.point) = pointSrc k ∧
        t.getB (Hdr.IRQ_RAW Pg.RIDE) 1 = true ∧ t.sumpW 6 = 4 ∧ t.sumpW 18 = 0 ∧ t.sumpW 19 = 0 ∧
        (s.getR Reg.RIDE_TRIPREQ_CNT ≠ 0xFFFFFFFF → t.getR Reg.RIDE_TRIPREQ_CNT = s.getR Reg.RIDE_TRIPREQ_CNT + 1) ∧
        ∀ n, n ∉ [6, 18, 19] → t.sumpW n = s.sumpW n) ∧
    (s.ride.sub = 1 → max 1 (s.getF Reg.RIDE_EXIT_T 0 16) ≤ s.ride.exitCnt →
      ∃ t, exec .rideRecovery s = .next t ∧ t.ride.sub = 3 ∧ t.ride.exitCnt = 0 ∧ t.sumpW 6 = 3 ∧
        t.getR Reg.RIDE_FAULT_PERIODS = s.getR Reg.TIME_PERIOD_CNT - s.ride.supportAt)

/-- R161: the first decision latches the request with its method, counts and sets the interrupt bit; while a request stands a further
decision changes neither; and CLR takes the request back outside RUN only. -/
def islandingDecisionIsLatched : Prop :=
  ∀ s : State,
    (∀ m : Fin 4, s.pw.mode = .run → s.isldDue (m.val + 1) = true → s.isld.decided.getLsbD m = false →
      ∃ t, exec (.isldDecision m) s = .next t ∧ t.isld.req = true ∧ t.isld.decided.getLsbD m = true ∧ bit (t.sumpW 7) 9 = true ∧
        (s.isld.req = false → t.isld.src = m.val + 1 ∧ t.getB (Hdr.IRQ_RAW Pg.ISLD) 0 = true ∧
          (s.getR Reg.ISLD_DET_CNT ≠ 0xFFFFFFFF → t.getR Reg.ISLD_DET_CNT = s.getR Reg.ISLD_DET_CNT + 1)) ∧
        (s.isld.req = true → t.isld.src = s.isld.src ∧ t.getR Reg.ISLD_DET_CNT = s.getR Reg.ISLD_DET_CNT)) ∧
    (s.HostReady Pg.ISLD → s.logq = [] →
      (s.pw.mode ≠ .run → ∃ t, exec .isldClr s = .next t ∧ t.isld = { s.isld with req := false, src := 0 } ∧ t.regs = s.regs) ∧
      (s.pw.mode = .run → exec .isldClr s = .next (s.refuse Pg.ISLD)))

/-- R135: SWAP arms the tables of its mask beside those already armed; and a copy-back that runs leaves the edit half equal to the active
half, with no other byte of memory touched. -/
def tableHalvesSwapAndCopy : Prop :=
  ∀ s : State, s.logq = [] →
    (∀ mask : BitVec 8, s.HostReady Pg.COMP →
      exec (.tableSwapArm mask) s = .next { s with tab.armed := s.tab.armed ||| mask }) ∧
    (∀ k : Fin 8, s.tab.busy.getLsbD k = true →
      ∃ t, exec (.copyBackDone k) s = .next t ∧ t.tab.busy.getLsbD k = false ∧ t.tab.active = s.tab.active ∧
        t.getB (Hdr.IRQ_RAW Pg.COMP) 1 = true ∧
        (let edit := tableBase + 0x8000 * (1 - b2n (s.tab.active.getLsbD k)) + 0x1000 * k.val
         let act := tableBase + 0x8000 * b2n (s.tab.active.getLsbD k) + 0x1000 * k.val
         (∀ i, i < 4096 → t.memB (edit + i) = s.memB (act + i)) ∧
         ∀ a, a < edit ∨ edit + 4096 ≤ a → t.memB a = s.memB a))

/-! ## The period -/

/-- R90, R92: at E2 the main schedule of the bank in force begins in Pump cycle 1,600 with its predicates cleared; after E4 the slice
chosen begins. -/
def pumpSequencesBegin : Prop :=
  ∀ s : State, s.logq = [] → s.pw.mode ≠ .dormant → s.clk.gen = true →
    (s.pump.inForce = true → s.pump.started = false → s.pump.e4Done = false →
      ∃ t, exec .pumpStart s = .next t ∧ t.pump.started = true ∧ t.pump.preds = 0 ∧ t.pump.cyc = 1600 ∧
        s.clk.e0 + 3200 ≤ t.clk.tick ∧ t.pump.total = t.pump.issue.length) ∧
    (∀ j, s.pump.slice = some j → s.pump.e4Done = true → s.pump.overrun = false → s.pump.run = .idle →
      ∃ t, exec .slowSliceStart s = .next t ∧ t.pump.slice = none ∧ t.pump.preds = 0 ∧
        t.pump.cyc = s.e4Cycle (s.lay s.pump.active).outPhase + 1 ∧ t.getF Reg.PUMP_SLOW_STAT 0 16 = j % 2 ^ 16)

/-! ## Modes, power and reset -/

/-- R46, R48, R59: a cause taken outside SAFE leaves the device in SAFE with the control-domain block held, the cause latched, the pending
request cleared and the dwell count at 0; in SAFE a further cause is latched beside the others and nothing else changes. -/
def safeEntryBlocksAndLatches : Prop :=
  ∀ (s : State) (c : Fin 9),
    (s.pw.mode ≠ .dormant → s.pw.mode ≠ .safe →
      (s.enterSafe c).pw.mode = .safe ∧ (s.enterSafe c).pw.cblock = true ∧ (s.enterSafe c).pw.softOff = false ∧
      (s.enterSafe c).pw.clearedAt = none ∧ (s.enterSafe c).kp.modeRec = .safe ∧ (s.enterSafe c).getB Reg.PWR_SAFE_CAUSE c = true ∧
      (s.enterSafe c).getR Reg.PWR_MODE_CMD = 7 ∧ (s.enterSafe c).getR Reg.PWR_MODE_SINCE = 0 ∧
      (s.enterSafe c).getB (Hdr.IRQ_RAW Pg.PWR) 2 = true ∧ ∀ g, g < 12 → (s.enterSafe c).pwmBlocked g = true) ∧
    (s.pw.mode = .safe → s.enterSafe c = s.setB Reg.PWR_SAFE_CAUSE c true)

/-- R47, R48, R50: a request for CONFIGURE, ARMED or RUN, a cancel, and a code that is none stand in MODE_CMD until the next E0; SAFE is
entered at once; the Cell refuses what its command word carries. -/
def modeRequestsAreTaken : Prop :=
  ∀ s : State, s.HostReady Pg.PWR → s.logq = [] →
    (s.pw.role ≠ .cell →
      (∃ t, exec .modeRequestConfigure s = .next t ∧ t.getR Reg.PWR_MODE_CMD = 2 ∧ t.pw = s.pw ∧ s.Keeps [Reg.PWR_MODE_CMD] t) ∧
      (∃ t, exec .modeRequestArmed s = .next t ∧ t.getR Reg.PWR_MODE_CMD = 3 ∧ t.pw = s.pw ∧ s.Keeps [Reg.PWR_MODE_CMD] t) ∧
      (∃ t, exec .modeRequestRun s = .next t ∧ t.getR Reg.PWR_MODE_CMD = 4 ∧ t.pw = s.pw ∧ s.Keeps [Reg.PWR_MODE_CMD] t) ∧
      (∀ c : BitVec 3, c = 0 ∨ c = 1 ∨ c = 6 →
        ∃ t, exec (.modeRequestBadCode c) s = .next t ∧ t.getR Reg.PWR_MODE_CMD = w32 c.toNat ∧ t.pw = s.pw)) ∧
    (∃ t, exec .modeRequestCancel s = .next t ∧ t.getR Reg.PWR_MODE_CMD = 7 ∧ t.pw = s.pw) ∧
    (s.pw.mode = .configure ∨ s.pw.mode = .armed ∨ s.pw.mode = .run →
      ∃ t, exec .modeRequestSafe s = .next t ∧ t.pw.mode = .safe ∧ t.pw.cblock = true ∧ t.getB Reg.PWR_SAFE_CAUSE 1 = true ∧
        t.getR Reg.PWR_MODE_CMD = 7) ∧
    (s.pw.role = .cell →
      ∃ t, exec .modeRequestRun s = .next t ∧ t.getR Reg.PWR_REFUSE_WHY = 0x2000 ∧ t.getR Reg.PWR_MODE_CMD = s.getR Reg.PWR_MODE_CMD ∧
        t.getB (Hdr.IRQ_RAW Pg.PWR) 1 = true)

/-- R46, R47: what a pending request does at E0. ARMED and RUN are entered only where no condition of REFUSE_WHY fails; SAFE is left only
after clearance, and leaving it clears SAFE_CAUSE and the block; a refusal leaves the mode and says why; and MODE_CMD returns to 7. -/
def Obligations.ModeRequestsAreJudgedAtE0 : Prop :=
  ∀ s : State,
    s.modeEval.getF Reg.PWR_MODE_CMD 0 3 = 7 ∧
    (s.pw.mode ≠ .dormant → ∀ m, s.modeEval.pw.mode = m → m ≠ s.pw.mode → m ≠ .safe →
      (m = .armed ∧ s.pw.mode = .configure ∧ s.why &&& 0x27F = 0) ∨ (m = .run ∧ s.pw.mode = .armed ∧ s.why &&& 0x1FFF = 0) ∨
        (m = .armed ∧ s.pw.mode = .run) ∨ (m = .configure ∧ s.pw.mode = .armed) ∨
        (m = .configure ∧ s.pw.mode = .safe ∧ s.pw.clearedAt.isSome = true ∧ s.modeEval.pw.cblock = false ∧ s.modeEval.getR Reg.PWR_SAFE_CAUSE = 0)) ∧
    (s.getF Reg.PWR_MODE_CMD 0 3 = 4 → s.pw.mode = .armed → s.why &&& 0x1FFF ≠ 0 →
      s.modeEval.pw.mode = .armed ∧ s.modeEval.getR Reg.PWR_REFUSE_WHY = w32 (s.why &&& 0x1FFF) ∧
        s.modeEval.getB (Hdr.IRQ_RAW Pg.PWR) 1 = true)

/-- R49, R58: SOFT_OFF_DONE follows from the islands and the cells being off; the two keys within 1 ms, with the conditions met, set
CLEARED; it lapses 100 ms later; and a key that finds a condition unmet is refused. -/
def Obligations.ClearanceTakesTwoKeys : Prop :=
  ∀ s : State, s.logq = [] →
    (s.pw.mode = .safe → s.islAllOff = true → (∀ e ∈ s.dirs, e.2.st = 4 → e.2.mode = 5) →
      exec .softOffDone s = .next { s with pw.softOff := true }) ∧
    (s.HostReady Pg.PWR →
      (s.pw.clearFirst = none → exec .clearanceFirst s = .next { s with pw.clearFirst := some s.clk.tick }) ∧
      (∀ t0, s.pw.clearFirst = some t0 → s.clk.tick ≤ t0 + tickMs → s.pw.mode = .safe → s.safeActive = 0 → s.pw.softOff = true →
        s.gblock = false →
        ∃ t, exec .clearanceSecond s = .next t ∧ t.pw.clearedAt = some s.clk.tick ∧ t.pw.clearFirst = none ∧ t.pw.mode = .safe ∧ s.Keeps [] t) ∧
      (s.pw.clearFirst = none ∨ s.pw.mode ≠ .safe ∨ s.safeActive ≠ 0 ∨ s.pw.softOff = false →
        exec .clearanceSecond s = .next (({ s with pw.clearFirst := none }).refuse Pg.PWR))) ∧
    (∀ t0, s.pw.clearedAt = some t0 →
      ∃ t, exec .clearedLapse s = .next t ∧ t.pw.clearedAt = none ∧ t0 + 100 * tickMs ≤ t.clk.tick ∧ t.getB (Hdr.IRQ_RAW Pg.PWR) 3 = true) ∧
    (s.pw.mode = .configure ∨ s.pw.mode = .armed ∨ s.pw.mode = .run →
      ∃ t, exec .guardLost s = .next t ∧ t.pw.mode = .safe ∧ t.pw.guardLost = true ∧ t.getB Reg.PWR_SAFE_CAUSE 5 = true)

/-- R1, R54, R56: power and reset. The release of POR_N latches the role and enters BOOT with every register that no other die keeps at its
reset value; the loss of power from any live mode leaves DORMANT with the block held; RESET_N and the software reset enter BOOT; each notes
its cause. -/
def resetsEnterBoot : Prop :=
  ∀ s : State,
    (∀ b : BitVec 2, s.pw.mode = .dormant →
      ∃ t, exec (.porNRelease b) s = .next t ∧ t.pw.mode = .boot ∧ t.pw.role = roleOf b ∧ t.pw.bootDone = false ∧
        (b ≠ 1 → ∀ a, keptReg a = false → t.getR a = resetWord a) ∧ (∀ a, keptReg a = true → t.getR a = s.getR a) ∧
        (∀ a, a < 0x200000 → t.memB a = s.memB a)) ∧
    (s.pw.mode ≠ .dormant →
      (∃ t, exec .porNAssert s = .next t ∧ t.pw.mode = .dormant ∧ t.pw.cblock = true ∧ t.pw.causePending = s.pw.causePending ||| 1) ∧
      (∀ r, ∃ t, exec (.brownOut r) s = .next t ∧ t.pw.mode = .dormant ∧ t.pw.cblock = true ∧ t.pw.causePending = s.pw.causePending ||| 2) ∧
      (∃ t, exec .resetNAssert s = .next t ∧ t.pw.mode = .boot ∧ t.pw.role = s.pw.role ∧ t.pw.causePending = s.pw.causePending ||| 4)) ∧
    (s.HostReady Pg.PWR → s.logq = [] →
      (∃ t, exec (.swReset 0x6D0F) s = .next t ∧ t.pw.mode = .boot ∧ t.pw.role = s.pw.role ∧ t.pw.causePending = s.pw.causePending ||| 8) ∧
      ∀ k, k ≠ 0x6D0F → exec (.swReset k) s = .next (s.refuse Pg.PWR))

/-- R51: BOOT runs its steps once: the Sump is zeroed, the reset cause and the results stand in their registers, and a result that is
fatal, as a Guard that does not answer within 5 ms, leaves SAFE with its cause. -/
def bootRunsItsSteps : Prop :=
  ∀ (s : State) (otp mem nv : Bool) (links : BitVec 8), s.pw.mode = .boot → s.pw.bootDone = false → s.pw.bootFatal = false →
    (∃ t, exec (.boot otp mem links nv) s = .next t ∧ t.pw.bootDone = true ∧ t.getR Reg.PWR_RESET_CAUSE = w32 s.pw.causePending.toNat ∧
      t.getB Reg.PWR_BOOT_RESULT 0 = otp ∧ t.getB Reg.PWR_BOOT_RESULT 1 = mem ∧ t.getB Reg.PWR_BOOT_RESULT 4 = nv ∧
      t.getB Reg.PWR_BOOT_RESULT 16 = true ∧ (∀ k, 3 ≤ k → t.sumpW k = 0) ∧
      (otp = true → mem = true → s.pw.guardTimeout = false → s.grd.inReset = false → t.pw.mode = .boot) ∧
      (otp = false ∨ mem = false ∨ s.pw.guardTimeout = true ∨ s.grd.inReset = true →
        t.pw.mode = .safe ∧ t.pw.bootFatal = true ∧ t.getB Reg.PWR_SAFE_CAUSE 2 = true)) ∧
    (s.pw.guardTimeout = false →
      ∃ t, exec .guardHandshakeTimeout s = .next t ∧ t.pw.mode = .safe ∧ t.pw.bootFatal = true ∧ t.getB Reg.PWR_SAFE_CAUSE 2 = true)

/-! ## Clocks and plant time -/

/-- R62: at the end of a lock window the count and what was expected stand in their registers. A count within LOCK_PPM adds a good window, the
fourth locks; a count beyond UNLOCK_PPM unlocks a locked PLL, counts, and in ARMED and RUN enters SAFE; one in between changes nothing. -/
def lockWindowsJudgeTheCount : Prop :=
  ∀ (s : State) (c : BitVec 20), s.pw.mode ≠ .dormant → s.pw.bootDone = true → s.getB Reg.CLK_RPLL_STAT 1 = false →
    let d := ((c.toNat : Int) - s.winExpect).natAbs
    let good := ppmTol s.winExpect (s.getF Reg.CLK_LOCK_TOL 0 16)
    let bad := ppmTol s.winExpect (s.getF Reg.CLK_LOCK_TOL 16 16)
    let g := s.getF Reg.CLK_RPLL_STAT 8 3
    ∃ t, exec (.lockWindowEnd c) s = .next t ∧ t.getR Reg.CLK_WIN_COUNT = w32 c.toNat ∧ t.getR Reg.CLK_WIN_EXPECT = w32 s.winExpect ∧
      (d ≤ good → t.getF Reg.CLK_RPLL_STAT 8 3 = min 4 (g + 1) ∧ (3 ≤ g → t.pllLocked = true) ∧ (g < 3 → t.pllLocked = s.pllLocked)) ∧
      (good < d → bad < d → t.pllLocked = false ∧ t.getF Reg.CLK_RPLL_STAT 8 3 = 0 ∧
        (s.pllLocked = true → t.getB (Hdr.IRQ_RAW Pg.CLK) 1 = true ∧ t.clk.frozen = true ∧
          (s.pw.mode = .armed ∨ s.pw.mode = .run → t.pw.mode = .safe ∧ t.getB Reg.PWR_SAFE_CAUSE 4 = true))) ∧
      (good < d → d ≤ bad → t.pllLocked = s.pllLocked ∧ t.getF Reg.CLK_RPLL_STAT 8 3 = g ∧ t.pw = s.pw)

/-- R62, R63, R65: the other clock commands. A lost reference is flagged and unlocks; DITHER seeds the register of 23 bits, 0 as 1; a RELOCK
in CONFIGURE with settings in range stops the period generator and leaves the PLL unlocked, with settings out of range it only reports
NO_BAND, and elsewhere it is refused. -/
def clockCommandsTakeEffect : Prop :=
  ∀ s : State,
    (s.pw.mode ≠ .dormant →
      ∃ t, exec .referenceLost s = .next t ∧ t.getB Reg.CLK_RPLL_STAT 12 = true ∧ t.getF Reg.CLK_RPLL_STAT 8 3 = 0 ∧ t.pllLocked = false) ∧
    (s.HostReady Pg.CLK → s.logq = [] →
      (∀ d : Word, ∃ t, exec (.ditherWrite d) s = .next t ∧ t.getR Reg.CLK_DITHER = d &&& 0x807FFFFF ∧
        t.clk.lfsr = (if fld d 0 23 = 0 then 1 else BitVec.ofNat 23 (fld d 0 23))) ∧
      (s.pw.mode ≠ .configure → exec .relock s = .next (s.refuse Pg.CLK)) ∧
      (s.pw.mode = .configure →
        (let n := fld (s.staged Reg.CLK_RPLL_DIV) 0 9
         let bad := decide (n < 20 ∨ 320 < n ∨ s.getF Reg.CLK_LOCK_TOL 16 16 ≤ s.getF Reg.CLK_LOCK_TOL 0 16)
         (bad = true → ∃ t, exec .relock s = .next t ∧ t.getB Reg.CLK_RPLL_STAT 1 = true ∧ t.getB (Hdr.IRQ_RAW Pg.CLK) 2 = true ∧
           t.clk = s.clk ∧ t.pllLocked = s.pllLocked) ∧
         (bad = false → ∃ t, exec .relock s = .next t ∧ t.clk.gen = false ∧ t.clk.relock = true ∧ t.pllLocked = false ∧
           t.getF Reg.CLK_RPLL_STAT 8 3 = 0 ∧ ∀ a, a / 4096 = Pg.CLK → SMap.find a t.shadow = none))))

/-- R69, R70: the servo's commands. Three seconds without a sample enter HOLDOVER; SERVO_FRAC is the host's while no source is selected; a
change of the source keeps SERVO_FRAC, sets the integrator to its negation, and the servo is FREE or ACQUIRE. -/
def servoCommandsTakeEffect : Prop :=
  ∀ s : State, s.logq = [] →
    (s.pw.mode ≠ .dormant → s.servoSrc ≠ 0 → s.getF Reg.TIME_SERVO_STAT 0 2 ≠ 3 →
      ∃ t, exec .servoHoldover s = .next t ∧ t.getF Reg.TIME_SERVO_STAT 0 2 = 3 ∧ t.getB (Hdr.IRQ_RAW Pg.TIME) 2 = true ∧
        t.clk.servoRun = 0 ∧ t.getR Reg.TIME_SERVO_FRAC = s.getR Reg.TIME_SERVO_FRAC) ∧
    (s.HostReady Pg.TIME →
      (∀ d : Word,
        (s.servoSrc = 0 → exec (.servoFracWrite d) s = .next (s.setR Reg.TIME_SERVO_FRAC (d &&& 0x1FFFFFF))) ∧
        (s.servoSrc ≠ 0 → exec (.servoFracWrite d) s = .next (s.refuse Pg.TIME))) ∧
      ∀ src : BitVec 2, s.getF Reg.TIME_SERVO_CFG 0 2 ≠ src.toNat →
        ∃ t, exec (.servoSrcChange src) s = .next t ∧ t.getF Reg.TIME_SERVO_CFG 0 2 = src.toNat ∧
          t.getR Reg.TIME_SERVO_FRAC = s.getR Reg.TIME_SERVO_FRAC ∧
          t.getR Reg.TIME_SERVO_INTEG = w32 ((-signedFld (s.getR Reg.TIME_SERVO_FRAC) 0 25) % 2 ^ 25).toNat ∧
          t.getF Reg.TIME_SERVO_STAT 0 2 = (if t.servoSrc = 0 then 0 else 1) ∧ t.clk.servoRun = 0)

/-- R70: SET loads SET_SEC and SET_NS into plant time, and is refused whole when SET_NS is above 999,999,999; ADJ adds the signed ADJ_NS. -/
def plantTimeIsSetAndAdjusted : Prop :=
  ∀ s : State, s.HostReady Pg.TIME → s.logq = [] →
    ((s.getR Reg.TIME_SET_NS).toNat ≤ 999999999 →
      ∃ t, exec .timeSet s = .next t ∧ t.sec = s.getF Reg.TIME_SET_SEC_HI 0 16 * 2 ^ 32 + (s.getR Reg.TIME_SET_SEC_LO).toNat ∧
        t.ns = (s.getR Reg.TIME_SET_NS).toNat ∧ s.Keeps [Hdr.EVENT_CNT Pg.TIME] t) ∧
    (999999999 < (s.getR Reg.TIME_SET_NS).toNat → exec .timeSet s = .next (s.refuse Pg.TIME)) ∧
    (∃ t, exec .timeAdjust s = .next t ∧
      (t.clk.plant8 : Int) = ((s.clk.plant8 : Int) + 5 + 8 * (s.getR Reg.TIME_ADJ_NS).toInt) % (plantMod : Int) ∧
      s.Keeps [Hdr.EVENT_CNT Pg.TIME] t)

/-- R71, R72: the second. An edge of PPS_IN is timestamped unless it comes within 0.5 s of the last; PPS_OUT rises on the edge tick on which
NS passes 0 and falls after its width of 1 to 500 ms; and an alignment lengthens the period in progress, never shortens it, up to an instant
that is EPOCH_OFFSET and whole periods after a whole second. -/
def secondsAreMarkedAndAligned : Prop :=
  ∀ s : State, s.logq = [] → s.pw.mode ≠ .dormant →
    (s.clk.ppsLast = none ∨ (∃ t0, s.clk.ppsLast = some t0 ∧ t0 + 800000000 ≤ s.clk.tick) →
      ∃ t, exec .ppsInEdge s = .next t ∧ t.getR Reg.TIME_PPS_IN_NS = w32 s.ns ∧ t.clk.ppsLast = some s.clk.tick ∧
        (s.servoSrc = 2 → s.pllLocked = true → t.getR Reg.TIME_SERVO_SAMPLES = s.getR Reg.TIME_SERVO_SAMPLES + 1)) ∧
    (∀ t0, s.clk.ppsLast = some t0 → s.clk.tick < t0 + 800000000 →
      exec .ppsInEdge s = .next { s with clk.ppsIgnored := s.clk.ppsIgnored + 1 }) ∧
    (s.getB Reg.TIME_PPS_CFG 16 = true →
      ∃ t ms, exec .ppsOutPulse s = .next t ∧ t.clk.plant8 % 8000000000 < 5 ∧ 1 ≤ ms ∧ ms ≤ 500 ∧
        t.clk.ppsHigh = some (t.clk.tick + ms * tickMs) ∧
        (1 ≤ s.getF Reg.TIME_PPS_CFG 0 9 → s.getF Reg.TIME_PPS_CFG 0 9 ≤ 500 → ms = s.getF Reg.TIME_PPS_CFG 0 9)) ∧
    (∀ t0, s.clk.ppsHigh = some t0 → ∃ t, exec .ppsOutEnd s = .next t ∧ t.clk.ppsHigh = none ∧ t0 ≤ t.clk.tick) ∧
    (s.getB Reg.TIME_EPOCH_CTRL 0 = true → s.pw.mode = .configure → s.getF Reg.TIME_SERVO_STAT 0 2 = 2 → s.clk.gen = true →
      s.getB Reg.TIME_EPOCH_CTRL 16 = false → 0 < s.period →
      ∃ t e k, exec .epochAlign s = .next t ∧ t.clk.e0Plan = some e ∧ e = t.clk.tick + s.getF Reg.TIME_EPOCH_OFFSET 0 24 + k * s.period ∧
        s.clk.e0 + s.period ≤ e ∧ t.clk.plant8 % 8000000000 < 5 ∧ t.clk.aligning = true)

/-- R73, R74, R238: marks of the time lane. A mark is counted and kept; a Cell learns the period from two spacings that agree and takes it
as PERIOD; a mark that is missing is counted on its lane, and in a Cell, which goes on from its own count, in MISS as well; and 10 ms without
the pattern search both ports again. -/
def timeLaneMarksAreFollowed : Prop :=
  ∀ s : State,
    (∀ (p : Fin 8) (f : Fin 256), s.laneUsed (2 * p.val + 1) = true → s.laneMode (2 * p.val + 1) = 1 →
      ∃ t, exec (.epochMark p f) s = .next t ∧ (t.lane (2 * p.val + 1)).markLast = some s.clk.tick ∧
        t.getR (Reg.LANEn_MARK_CNT (2 * p.val + 1)) = s.getR (Reg.LANEn_MARK_CNT (2 * p.val + 1)) + 1 ∧
        ∀ last q, s.pw.role = .cell → s.clk.tlPort = some (decide (p.val = 1)) → s.clk.tlLast = some last → s.clk.tlSpacing = some q →
          ((s.clk.tick - last : Nat) : Int) - q ≤ 1 → (q : Int) - (s.clk.tick - last : Nat) ≤ 1 →
          (s.getF Reg.TIME_CELL_LEARNED 0 24 = 0 ∨ s.getF Reg.TIME_CELL_LEARNED 0 24 = s.clk.tick - last) → s.clk.tick - last < 2 ^ 24 →
          t.getF Reg.TIME_CELL_LEARNED 0 24 = s.clk.tick - last ∧ t.period = s.clk.tick - last ∧ t.clk.tlMisses = 0) ∧
    (∀ p : Fin 8, s.laneUsed (2 * p.val + 1) = true → s.laneMode (2 * p.val + 1) = 1 →
      ∃ t, exec (.markMiss p) s = .next t ∧
        (s.getR (Reg.LANEn_MARK_MISS_CNT (2 * p.val + 1)) ≠ 0xFFFFFFFF →
          t.getR (Reg.LANEn_MARK_MISS_CNT (2 * p.val + 1)) = s.getR (Reg.LANEn_MARK_MISS_CNT (2 * p.val + 1)) + 1) ∧
        t.getB (Hdr.IRQ_RAW (Pg.LANEn (2 * p.val + 1))) 4 = true ∧
        (s.pw.role = .cell → s.clk.tlPort = some (decide (p.val = 1)) → t.getB (Hdr.IRQ_RAW Pg.TIME) 5 = true)) ∧
    (s.pw.mode ≠ .dormant → s.pw.role = .cell →
      ∃ t, exec .timelaneSearch s = .next t ∧ t.clk.tlPort = none ∧ t.clk.tlMarks0 = 0 ∧ t.clk.tlMarks1 = 0 ∧ t.clk.tlSpacing = none)

/-! ## The edges of a period -/

/-- R11, R15, R67: EPOCH happens at the instant the next E0 falls, a period after the last or where it is planned, or afresh once the PLL
has locked after a relock or a halt; in SAFE with the PLL unlocked the generator halts there; and the end of BOOT is such a fresh E0. -/
def epochsFallWhereTheyAreDue : Prop :=
  ∀ (s : State) (i : EpochIn), s.pw.mode ≠ .dormant →
    (s.clk.gen = true → s.pw.mode ≠ .safe ∨ s.pllLocked = true →
      ∃ u : State, exec (.epoch i) s = .next (u.epochBody i false).flushLog ∧ u = s.advanceTo (s.clk.e0Plan.getD (s.clk.e0 + s.period))) ∧
    (s.logq = [] → s.clk.gen = true → s.pw.mode = .safe → s.pllLocked = false →
      ∃ t, exec (.epoch i) s = .next t ∧ t.clk.gen = false ∧ t.clk.halted = true ∧ t.regs = s.regs) ∧
    (s.clk.gen = false → s.clk.relock = true ∨ s.clk.halted = true → s.pllLocked = true →
      ∃ u : State, exec (.epoch i) s = .next (u.epochBody i false).pwmThaw.flushLog ∧ u = s.freshE0 ∧ u.clk.gen = true ∧ u.clk.div0 = u.clk.tick) ∧
    (s.pw.mode = .boot → s.pw.bootDone = true → s.pllLocked = true → s.clk.gen = false → s.clk.relock = false → s.clk.halted = false →
      ∃ u : State, exec .bootEnd s = .next (u.epochBody epochIn0 true).flushLog ∧ u.clk.gen = true ∧ u.clk.div0 = u.clk.tick)

/-- R11, R15, R52, R59, R67, R68: what happens at the instant of an E0 itself, and at the end of BOOT: PERIOD_CNT counts, plant time is
latched, the E0 bit is set, and BOOT ends in CONFIGURE, or in SAFE when the record shows that the device was serving. -/
def epochInstantCountsAndLatches : Prop :=
  ∀ s : State,
    (s.epochInstant.clk.e0 = s.clk.tick ∧ s.epochInstant.getR Reg.TIME_PERIOD_CNT = s.getR Reg.TIME_PERIOD_CNT + 1 ∧
      s.epochInstant.getR Reg.TIME_EPOCH_NS = w32 s.ns ∧ s.epochInstant.getB (Hdr.IRQ_RAW Pg.TIME) 0 = true ∧
      s.epochInstant.pump.run = .idle ∧ s.epochInstant.pump.e4Done = false ∧ s.epochInstant.clk.e6Done = false) ∧
    (s.pw.mode = .boot → s.getF Reg.PWR_MODE_CMD 0 3 = 7 →
      (s.pw.prior = false → (s.epochMode true).pw.mode = .configure) ∧
      (s.pw.prior = true → (s.epochMode true).pw.mode = .safe ∧ (s.epochMode true).getB Reg.PWR_SAFE_CAUSE 3 = true))

/-- R12, R13, R20, R86, R285: E4 and E6 each happen once a period. At E4 with FIN retired the whole output set is committed and the run of
overruns ends; without FIN the set is discarded and the overrun counted; at E6 a Wellhead stages its own generators, a Cell takes its part. -/
def outputAndApplyPhasesHappenOnce : Prop :=
  ∀ s : State, s.pw.mode ≠ .dormant → s.clk.gen = true →
    (s.pump.inForce = true → s.pump.e4Done = false →
      let u := (s.advanceTo (s.clk.e0 + s.stepTick s.outPhase))
      ∃ t, exec .outPhase s = .next t ∧ t.pump.e4Done = true ∧ t.pump.outPend = [] ∧ u.clk.tick ≤ t.clk.tick ∧
        ((u.settleTo (u.e4Cycle u.outPhase)).pump.finAt.isSome = true → t.pump.overruns = 0 ∧ t.pump.overrun = s.pump.overrun) ∧
        ((u.settleTo (u.e4Cycle u.outPhase)).pump.finAt = none → t.pump.overrun = true ∧ t.getB (Hdr.IRQ_RAW Pg.PUMP) 1 = true)) ∧
    (s.applyPhase ≠ 0 → s.clk.e6Done = false →
      ∃ t, exec .applyPhase s = .next t ∧ t.clk.e6Done = true ∧ s.clk.e0 + s.stepTick s.applyPhase ≤ t.clk.tick)

/-! ## The log, scrubbing and ageing -/

/-- R407–R410, R415: the log's own commands. The oldest waiting entry reaches the Keeper's ring while VKEEP stands and the ring's header
verified, and is counted as failed otherwise; VOL_RD may not pass VOL_WR; CLEAR clears the two counters and nothing else. -/
def logCommandsTakeEffect : Prop :=
  ∀ s : State, s.logq = [] →
    (∀ e rest, s.kp.pq = e :: rest → s.pw.mode ≠ .dormant →
      (s.kp.vkeepOk = true → s.kp.headerOk = true →
        ∃ t, exec .logPersistWrite s = .next t ∧ t.kp.pq = rest ∧ t.nvBytes (0x2000 + 24 * s.kp.pNext) e.length = e ∧
          t.kp.pNext = (s.kp.pNext + 1) % 1024 ∧ t.getR Reg.LOG_P_WR_CNT = s.getR Reg.LOG_P_WR_CNT + 1 ∧
          ∀ a, a < 0x2000 + 24 * s.kp.pNext ∨ 0x2000 + 24 * s.kp.pNext + e.length ≤ a → t.nvB a = s.nvB a) ∧
      (s.kp.vkeepOk = false ∨ s.kp.headerOk = false →
        ∃ t, exec .logPersistWrite s = .next t ∧ t.kp.pq = rest ∧ t.kp.nv = s.kp.nv ∧ t.getB (Hdr.IRQ_RAW Pg.LOG) 2 = true)) ∧
    (s.HostReady Pg.LOG →
      (∀ d : Word, (fld d 0 13 + 8192 - s.getF Reg.LOG_VOL_RD 0 13) % 8192 ≤ s.volHeld →
        ∃ t, exec (.volRdWrite d) s = .next t ∧ t.getF Reg.LOG_VOL_RD 0 13 = fld d 0 13 ∧ s.onlyRegs [Reg.LOG_VOL_RD] t) ∧
      (∀ d : Word, s.volHeld < (fld d 0 13 + 8192 - s.getF Reg.LOG_VOL_RD 0 13) % 8192 →
        exec (.volRdWrite d) s = .next (s.refuse Pg.LOG)) ∧
      (∃ t, exec .logClear s = .next t ∧ t.getR Reg.LOG_LOST_CNT = 0 ∧ t.getR Reg.LOG_P_FAIL_CNT = 0 ∧
        s.onlyRegs [Reg.LOG_LOST_CNT, Reg.LOG_P_FAIL_CNT] t))

/-- R407–R409: the entries of a command take consecutive sequence numbers and change only the log's registers and ring; the ageing record,
a class 9 entry of both counts, is handed to the Keeper in its 24-byte form. -/
def ageingRecordIsLogged : Prop :=
  ∀ s : State, s.logq = [] → s.pw.mode ≠ .dormant →
    ∃ t e, exec .ageingRecord s = .next t ∧ t.kp.pq = s.kp.pq ++ [e] ∧ e.length = 24 ∧ leNat ((e.drop 12).take 2) = 9 * 4096 + 0xFF ∧
      (e.drop 16).take 4 = leBytes 4 (s.getR Reg.TEST_SEC_105).toNat ∧ (e.drop 20).take 4 = leBytes 4 (s.getR Reg.TEST_SEC_125).toNat ∧
      t.getR Reg.LOG_SEQ_NEXT = s.getR Reg.LOG_SEQ_NEXT + 1 ∧ s.Keeps [] t

/-- R411–R414, R416: scrubbing, temperature, the ring oscillators and the clears of the TEST page. -/
def healthCommandsTakeEffect : Prop :=
  ∀ s : State, s.logq = [] →
    (s.pw.mode ≠ .dormant → s.getB Reg.TEST_SCRUB_CFG 0 = true → s.tst.scrubPos < scrubWords →
      ∀ e : Ecc, ∃ t, exec (.scrubStep e) s = .next t ∧ t.tst.scrubPos = (s.tst.scrubPos + 1) % scrubWords ∧
        (e = .single → t.getR Reg.TEST_CE_ADDR = w32 (scrubAddr s.tst.scrubPos) ∧ t.getB (Hdr.IRQ_RAW Pg.TEST) 0 = true) ∧
        (e = .uncorrectable → t.getR Reg.TEST_UE_ADDR = w32 (scrubAddr s.tst.scrubPos) ∧ t.getB (Hdr.IRQ_RAW Pg.TEST) 1 = true ∧
          (s.pw.mode = .run → s.criticalWord (scrubAddr s.tst.scrubPos) = true → t.pw.mode = .safe ∧ t.getB Reg.PWR_SAFE_CAUSE 7 = true))) ∧
    (s.pw.mode ≠ .dormant →
      (∀ tj : BitVec 16, ∃ t, exec (.tempSample tj) s = .next t ∧ t.getR Reg.TEST_TJ = w32 tj.toNat ∧
        (1050 < tj.toInt → s.getR Reg.TEST_SEC_105 ≠ 0xFFFFFFFF → t.getR Reg.TEST_SEC_105 = s.getR Reg.TEST_SEC_105 + 1) ∧
        (tj.toInt ≤ 1050 → t.getR Reg.TEST_SEC_105 = s.getR Reg.TEST_SEC_105) ∧
        (1250 < tj.toInt → t.getB Reg.TEST_AGE_STAT 3 = true)) ∧
      (∀ d : Word, ∃ t, exec (.roMeasure d) s = .next t ∧ t.getR Reg.TEST_RO_DRIFT = d ∧
        (s.getF Reg.TEST_RO_LIM 0 16 < d.toInt.natAbs → t.getB Reg.TEST_AGE_STAT 4 = true ∧ t.getB (Hdr.IRQ_RAW Pg.TEST) 3 = true) ∧
        (d.toInt.natAbs ≤ s.getF Reg.TEST_RO_LIM 0 16 → t.getB Reg.TEST_AGE_STAT 4 = s.getB Reg.TEST_AGE_STAT 4))) ∧
    (s.HostReady Pg.TEST →
      (s.pw.mode = .configure → ∃ t, exec .ageLoad s = .next t ∧ t.getR Reg.TEST_SEC_105 = s.getR Reg.TEST_AGE_LOAD_105 ∧
        t.getR Reg.TEST_SEC_125 = s.getR Reg.TEST_AGE_LOAD_125) ∧
      (s.pw.mode ≠ .configure → exec .ageLoad s = .next (s.refuse Pg.TEST)) ∧
      (∃ t, exec .testClearErrors s = .next t ∧ (∀ a ∈ [Reg.TEST_CE_CNT, Reg.TEST_UE_CNT, Reg.TEST_CE_ADDR, Reg.TEST_UE_ADDR], t.getR a = 0) ∧
        s.onlyRegs [Reg.TEST_CE_CNT, Reg.TEST_UE_CNT, Reg.TEST_CE_ADDR, Reg.TEST_UE_ADDR] t) ∧
      (∃ t, exec .testClearLaneMin s = .next t ∧ (∀ k, k < 16 → t.getR (Reg.TEST_LANE_MIN k) = 0xFF) ∧
        s.onlyRegs ((List.range 16).map Reg.TEST_LANE_MIN) t))

/-! ## Host accesses and the loader -/

/-- R23, R32: the cause a host write is recorded with by its address alone; 0 where none is. -/
def addressCause (a : Nat) : Nat :=
  if 0x1000000 ≤ a then 6
  else if a % 4 ≠ 0 then 7
  else if (0x58000 ≤ a ∧ a < 0x100000) ∨ (0x230000 ≤ a ∧ a < 0x400000) ∨ (0x431000 ≤ a ∧ a < 0x440000) ∨ 0x450000 ≤ a then 1
  else if (0x200000 ≤ a ∧ a < 0x230000) ∨ (0x428000 ≤ a ∧ a < 0x431000) then 3
  else 0

/-- R33: a bus error is counted and sets its interrupt bit; the first since the last clear keeps its address and cause. -/
def busErrorRecorded (s t : State) (cause a : Nat) : Prop :=
  t.getB (Hdr.IRQ_RAW Pg.HOST) 1 = true ∧
  (s.getR Reg.HOST_BUS_ERR_CNT ≠ 0xFFFFFFFF → t.getR Reg.HOST_BUS_ERR_CNT = s.getR Reg.HOST_BUS_ERR_CNT + 1) ∧
  (s.getR Reg.HOST_BUS_ERR_CNT = 0 →
    t.getR Reg.HOST_BUS_ERR_CAUSE = w32 cause ∧ t.getR Reg.HOST_BUS_ERR_ADDR = w32 (a % 2 ^ 24)) ∧
  (s.getR Reg.HOST_BUS_ERR_CNT ≠ 0 →
    t.getR Reg.HOST_BUS_ERR_CAUSE = s.getR Reg.HOST_BUS_ERR_CAUSE ∧ t.getR Reg.HOST_BUS_ERR_ADDR = s.getR Reg.HOST_BUS_ERR_ADDR)

/-- R23, R32, R33: a write outside the map, unaligned, into a hole or into a read-only memory stores nothing and is recorded. -/
def Obligations.BadAddressesAreRecorded : Prop :=
  ∀ (s : State) (ad data : Word) (be : BitVec 4), s.pw.mode ≠ .dormant → s.pw.busChange = none → s.logq = [] →
    addressCause ad.toNat ≠ 0 →
    ∃ t, exec (.hostMemoryWrite ad data be) s = .next t ∧ busErrorRecorded s t (addressCause ad.toNat) ad.toNat ∧ t.mem = s.mem ∧
      s.onlyRegs [Reg.HOST_BUS_ERR_CNT, Reg.HOST_BUS_ERR_ADDR, Reg.HOST_BUS_ERR_CAUSE, Hdr.IRQ_RAW Pg.HOST] t

/-- R23, R29, R86: a write to Main SRAM outside the output region stores the bytes its byte enables select and no other; one into the output
region stores nothing and is recorded with cause 3. -/
def memoryWritesStoreTheEnabledBytes : Prop :=
  ∀ (s : State) (ad data : Word) (be : BitVec 4), s.pw.mode ≠ .dormant → s.pw.busChange = none → s.pw.load = none →
    0x100000 ≤ ad.toNat → ad.toNat < 0x200000 → ad.toNat % 4 = 0 →
    (s.outputWord ad.toNat = none →
      ∃ t, exec (.hostMemoryWrite ad data be) s = .next t ∧
        (∀ k, k < 4 → s.settleNow.inVolRing (ad.toNat + k) = false →
          t.memB (ad.toNat + k) = if be.getLsbD k then BitVec.ofNat 8 (fld data (8 * k) 8) else s.settleNow.memB (ad.toNat + k)) ∧
        ∀ a, s.settleNow.inVolRing a = false → (a < ad.toNat ∨ ad.toNat + 4 ≤ a) → t.memB a = s.settleNow.memB a) ∧
    (s.logq = [] → (s.outputWord ad.toNat).isSome = true →
      ∃ t, exec (.hostMemoryWrite ad data be) s = .next t ∧ busErrorRecorded s t 3 ad.toNat ∧ t.mem = s.mem)

/-- R28: writes to the Guard's window are posted, sixteen at most, beyond which they are dropped with cause 5; the oldest takes effect once
the Guard is out of reset, byte by byte in its RAM. -/
def guardWritesArePosted : Prop :=
  ∀ (s : State) (ad data : Word) (be : BitVec 4), s.pw.mode ≠ .dormant → s.logq = [] →
    (s.pw.busChange = none → 0x440000 ≤ ad.toNat → ad.toNat < 0x450000 → ad.toNat % 4 = 0 →
      (s.pw.gpost.length < 16 →
        exec (.guardWritePost ad data be) s = .next { s with pw.gpost := s.pw.gpost ++ [(ad.toNat, data, be.toNat)] }) ∧
      (16 ≤ s.pw.gpost.length →
        ∃ t, exec (.guardWritePost ad data be) s = .next t ∧ busErrorRecorded s t 5 ad.toNat ∧ t.getB (Hdr.IRQ_RAW Pg.HOST) 3 = true ∧
          t.pw.gpost = s.pw.gpost)) ∧
    (∀ a w b rest, s.pw.gpost = (a, w, b) :: rest → s.grd.inReset = false → 0x440000 ≤ a → a < 0x444000 →
      ∃ t, exec .guardWriteApply s = .next t ∧ t.pw.gpost = rest ∧ t.regs = s.regs ∧
        ∀ k, SMap.get 0 k t.grd.ram =
          if a - 0x440000 ≤ k ∧ k < a - 0x440000 + 4 ∧ b.testBit (k - (a - 0x440000)) then BitVec.ofNat 8 (fld w (8 * (k - (a - 0x440000))) 8)
          else SMap.get 0 k s.grd.ram)

/-- R6, R29, R34, R35: writes to register pages. IRQ_RAW clears where ones are written and IRQ_EN takes the page's defined bits, locked or
not; a partial write changes only counters and is recorded with cause 2; a register of a locked page beyond the header refuses. -/
def registerWritesObeyTheHeader : Prop :=
  ∀ (s : State) (ad data : Word) (be : BitVec 4) (p : Nat), s.pw.mode ≠ .dormant → s.pw.busChange = none → s.logq = [] → p < 88 →
    s.idle p = false → ¬ (Pg.GRD ≤ p ∧ p ≤ Pg.GSAFE) → ad.toNat % 4 = 0 → ad.toNat / 4096 = p →
    (be = 0xF → ad.toNat % 4096 = 0x0C →
      ∃ t, exec (.registerWrite ad data be) s = .next t ∧ t.getR (Hdr.IRQ_RAW p) = s.getR (Hdr.IRQ_RAW p) &&& ~~~data ∧
        s.onlyRegs [Hdr.IRQ_RAW p] t) ∧
    (be = 0xF → ad.toNat % 4096 = 0x10 →
      exec (.registerWrite ad data be) s = .next (s.setR (Hdr.IRQ_EN p) (data &&& irqDefined p))) ∧
    (be ≠ 0xF → ∃ t, exec (.registerWrite ad data be) s = .next t ∧ busErrorRecorded s t 2 ad.toNat ∧
      s.onlyRegs [Hdr.EVENT_CNT p, Reg.HOST_BUS_ERR_CNT, Reg.HOST_BUS_ERR_ADDR, Reg.HOST_BUS_ERR_CAUSE, Hdr.IRQ_RAW Pg.HOST] t) ∧
    (be = 0xF → 0x40 ≤ ad.toNat % 4096 → s.locked p = true → exec (.registerWrite ad data be) s = .next (s.refuse p))

/-- R34, R35, R37: the commands of a page's header. The lock is taken, taken until reset, and given back unless it is sticky; a commit is
armed; a discard leaves no shadow of the page; and EVENT_CNT clears. -/
def pageHeaderCommandsTakeEffect : Prop :=
  ∀ (s : State) (p : Fin 88), s.pw.mode ≠ .dormant → s.pw.busChange = none → s.logq = [] → s.idle p = false →
    (∃ t, exec (.pageLock p) s = .next t ∧ t.locked p = true ∧ t.getB (Hdr.LOCK p) 1 = s.getB (Hdr.LOCK p) 1 ∧ s.onlyRegs [Hdr.LOCK p] t) ∧
    (∃ t, exec (.pageLockSticky p) s = .next t ∧ t.locked p = true ∧ t.getB (Hdr.LOCK p) 1 = true ∧ s.onlyRegs [Hdr.LOCK p] t) ∧
    (s.getB (Hdr.LOCK p) 1 = false →
      ∃ t, exec (.pageUnlock p 0xA500) s = .next t ∧ t.locked p = false ∧ s.onlyRegs [Hdr.LOCK p] t) ∧
    (s.getB (Hdr.LOCK p) 1 = true → exec (.pageUnlock p 0xA500) s = .next (s.refuse p)) ∧
    (∀ d : Word, fld d 8 8 ≠ 0x5A → fld d 8 8 ≠ 0xA5 → exec (.pageUnlock p d) s = .next (s.refuse p)) ∧
    (s.locked p = false →
      (hasShadow p = true →
        (∃ t, exec (.shadowCommit p) s = .next t ∧ t.getB (Hdr.SHADOW_CTRL p) 8 = true ∧ t.shadow = s.shadow) ∧
        (∃ t, exec (.shadowDiscard p) s = .next t ∧ t.getF (Hdr.SHADOW_CTRL p) 8 2 = 0 ∧ ∀ a, a / 4096 = p.val → SMap.find a t.shadow = none)) ∧
      (hasShadow p = false → exec (.shadowCommit p) s = .next s ∧ exec (.shadowDiscard p) s = .next s) ∧
      exec (.eventCntClear p) s = .next (s.setR (Hdr.EVENT_CNT p) 0))

/-- R24, R33, R41: the commands of the HOST page. A write of BUS_CFG that changes the mode lets it apply 1 µs later; the two clears leave
their records at 0. -/
def hostPageCommandsTakeEffect : Prop :=
  ∀ s : State,
    (s.HostReady Pg.HOST → s.logq = [] →
      (∀ d : Word, bit d 0 ≠ s.pw.busSync →
        ∃ t, exec (.busCfgWrite d) s = .next t ∧ t.pw.busChange = some (s.clk.tick + 1600, bit d 0) ∧ t.pw.busSync = s.pw.busSync) ∧
      (∃ t, exec .clearBusErrors s = .next t ∧
        (∀ a ∈ [Reg.HOST_BUS_ERR_CNT, Reg.HOST_BUS_ERR_ADDR, Reg.HOST_BUS_ERR_CAUSE], t.getR a = 0) ∧
        s.onlyRegs [Reg.HOST_BUS_ERR_CNT, Reg.HOST_BUS_ERR_ADDR, Reg.HOST_BUS_ERR_CAUSE] t) ∧
      (∃ t, exec .clearStale s = .next t ∧
        (∀ a ∈ [Reg.HOST_STALE_CNT, Reg.HOST_STALE_HANDLE, Reg.HOST_STALE_WHERE], t.getR a = 0) ∧
        s.onlyRegs [Reg.HOST_STALE_CNT, Reg.HOST_STALE_HANDLE, Reg.HOST_STALE_WHERE] t)) ∧
    (∀ t0 m, s.pw.busChange = some (t0, m) →
      ∃ t, exec .busModeApply s = .next t ∧ t.pw.busSync = m ∧ t.pw.busChange = none ∧ t0 ≤ t.clk.tick)

/-- R27, R30, R36: reads. A read drives the word of its address and changes no register and no memory; reading the first register of a
snapshot group latches the whole group; an uncorrectable word of Main SRAM is recorded with cause 4 and counted. -/
def readsReturnAndLatch : Prop :=
  ∀ (s : State) (ad : Word), s.pw.mode ≠ .dormant → s.pw.busChange = none → s.logq = [] → ad.toNat < 0x1000000 → ad.toNat % 4 = 0 →
    (∀ l, ad.toNat < 0x58000 → s.idle (ad.toNat / 4096) = false → snapGroup ad.toNat = some l →
      ∃ t, exec (.snapRead ad) s = .next t ∧ t.regs = s.regs ∧ t.mem = s.mem ∧
        ∀ a ∈ l, SMap.get (resetWord a) a t.snap = s.readLive (a / 4096) a) ∧
    (0x58000 ≤ ad.toNat →
      exec (.hostRead ad .good) s = .next { s with pw.hostData := s.readWord ad.toNat }) ∧
    (0x100000 ≤ ad.toNat → ad.toNat < 0x200000 →
      ∃ t, exec (.hostRead ad .uncorrectable) s = .next t ∧ t.pw.hostData = s.readWord ad.toNat ∧ busErrorRecorded s t 4 ad.toNat ∧
        t.getR Reg.TEST_UE_ADDR = w32 ad.toNat)

/-- The class of the objects a selector names (R41). -/
def selectorClass : Selector → Nat
  | .sumpChSel => 1
  | .chanChSel => 1
  | .pfSel => 3
  | .tSel => 2
  | .cellSel => 4
  | .subSel => 5
  | .recProf => 3

/-- R41: a selector takes a valid handle of its class; any other leaves it null, with the stale record. -/
def selectorsTakeValidHandles : Prop :=
  ∀ (s : State) (sel : Selector) (h : Word), sel ≠ .recProf → s.logq = [] → s.HostReady (selectorReg sel / 4096) →
    (s.validFor h (selectorClass sel) = true → exec (.handleSelect sel h) s = .next (s.setR (selectorReg sel) h)) ∧
    (s.validFor h (selectorClass sel) = false →
      ∃ t, exec (.handleSelect sel h) s = .next t ∧ t.getR (selectorReg sel) = 0 ∧ t.getR Reg.HOST_STALE_HANDLE = h ∧
        t.getB (Hdr.IRQ_RAW Pg.HOST) 2 = true ∧
        (s.getR Reg.HOST_STALE_CNT ≠ 0xFFFFFFFF → t.getR Reg.HOST_STALE_CNT = s.getR Reg.HOST_STALE_CNT + 1))

/-- R43, R435: the loader. A start while it is idle takes LOAD_SRC and LOAD_TARGET; an abort ends it with 0x0F; and when it completes,
LOAD_STAT holds the code and the detail of the first check that fails, in their order, or 0. -/
def loaderRunsItsChecks : Prop :=
  ∀ s : State,
    (s.HostReady Pg.HOST → s.logq = [] →
      (s.loaderBusy = false →
        ∃ t, exec .loadStart s = .next t ∧ t.getR Reg.HOST_LOAD_STAT = 1 ∧
          t.pw.load = some ((s.getR Reg.HOST_LOAD_SRC).toNat, s.getR Reg.HOST_LOAD_TARGET, s.clk.tick)) ∧
      (s.loaderBusy = true → exec .loadStart s = .next s)) ∧
    (∀ src tg t0, s.pw.load = some (src, tg, t0) →
      (s.HostReady Pg.HOST →
        ∃ t, exec .loadAbort s = .next t ∧ t.pw.load = none ∧ t.getR Reg.HOST_LOAD_STAT = 0x0F02 ∧ t.getB (Hdr.IRQ_RAW Pg.HOST) 0 = true) ∧
      (∃ t, exec .loadDone s = .next t ∧ t.pw.load = none ∧ t.getB (Hdr.IRQ_RAW Pg.HOST) 0 = true ∧
        (∀ c d, s.headerFail src = some (c, d) →
          t.getR Reg.HOST_LOAD_STAT = w32 (d % 65536 * 65536 + c * 256 + 2) ∧ t.pump = s.pump ∧ t.plan = s.plan ∧ t.tab = s.tab ∧
            t.chans = s.chans ∧ t.grd = s.grd ∧ s.Keeps [Reg.HOST_LOAD_STAT, Hdr.IRQ_RAW Pg.HOST] t) ∧
        (s.headerFail src = none → s.img src 4 1 = 3 → tg.toNat ≤ 7 → (s.loadTable src (s.img src 8 4) tg.toNat).1 = 0 →
          t.getR Reg.HOST_LOAD_STAT = 2 ∧ t.getR Reg.HOST_LOAD_TAG = w32 (s.img src 0x14 4) ∧
          (let edit := tableBase + 0x8000 * (1 - b2n (s.tab.active.getLsbD tg.toNat)) + 0x1000 * tg.toNat
           (∀ k, k < 4096 → t.memB (edit + k) = s.memB (sramBase + src + 0x70 + k)) ∧
           ∀ a, s.inVolRing a = false → a < edit ∨ edit + 4096 ≤ a → t.memB a = s.memB a))))

/-- R42, R43, R435: the header checks come in their order: an image beyond Main SRAM, then its magic, its type, its version and its role. -/
def headerChecksComeInOrder : Prop :=
  ∀ (s : State) (src : Nat),
    (0x100000 < src + 0x60 → s.headerFail src = some (0x05, 0)) ∧
    (src + 0x60 ≤ 0x100000 →
      (s.img src 0 4 ≠ 0x4E474457 → s.headerFail src = some (0x01, 0)) ∧
      (s.img src 0 4 = 0x4E474457 →
        (s.img src 4 1 = 0 ∨ 5 < s.img src 4 1 → s.headerFail src = some (0x02, s.img src 4 1)) ∧
        (1 ≤ s.img src 4 1 → s.img src 4 1 ≤ 5 →
          (s.img src 5 1 ≠ 1 → s.headerFail src = some (0x03, s.img src 5 1)) ∧
          (s.img src 5 1 = 1 → roleFits s.pw.role (s.img src 7 1) = false → s.headerFail src = some (0x04, s.img src 7 1)))))

/-! ## Generators and drive islands -/

/-- R168, R170, R181: the points of a period. A running generator reaches its BOUNDARY a period after the last, takes PRD and leaves no shadow
of its page when a commit was armed; in up-down counting MID opens the second half; and SYNC_OUT rises for 50 ns (80 edge ticks). -/
def generatorPointsFallInOrder : Prop :=
  ∀ (s : State) (g : Fin 12), s.pwmRuns g = true →
    (∃ t, exec (.pwmBoundary g) s = .next t ∧ (t.gen g).t0 = (s.gen g).t0 + ((s.gen g).prd : Nat) ∧ (t.gen g).prd = t.getF (Reg.PWMn_PRD g) 0 24 ∧
      t.getB (Hdr.IRQ_RAW (Pg.PWMn g)) 0 = true ∧ (t.gen g).t0 ≤ t.clk.tick ∧
      (s.xferBoundary g = true → s.getB (Hdr.SHADOW_CTRL (Pg.PWMn g)) 8 = true →
        t.getF (Hdr.SHADOW_CTRL (Pg.PWMn g)) 8 2 = 0 ∧ ∀ a, a / 4096 = Pg.PWMn g → SMap.find a t.shadow = none)) ∧
    (s.pwmUpDown g = true → (s.gen g).half = false → (s.gen g).prd % 2 = 0 →
      ∃ t, exec (.pwmMid g) s = .next t ∧ (t.gen g).half = true ∧ (t.gen g).t0 = (s.gen g).t0 ∧ (t.gen g).prd = (s.gen g).prd) ∧
    (s.getF Reg.PWMC_SYNCO 0 4 = g → s.getB Reg.PWMC_SYNCO 4 = true → s.getB Reg.TIME_IO_CFG 0 = false →
      s.getF Reg.PWMC_SYNCO_PHASE 0 24 < (s.gen g).prd →
      ∃ t, exec .syncOutPulse s = .next t ∧ t.syncOut = some (t.clk.tick + 80) ∧ t.pwmPos g = s.getF Reg.PWMC_SYNCO_PHASE 0 24)

/-- R169, R173–R175: edges. The next edge of the period takes place at its instant; a placed fall turns its output off and records the length
of the pulse; and no edge leaves both outputs of a complementary pair on. -/
def edgesNeverOverlap : Prop :=
  ∀ (s : State) (g : Fin 12),
    (∀ at_ e, s.pwmRuns g = true → s.nextEdge g = some (at_, e) →
      ∃ u : State, exec (.pwmCompareEdge g) s = .next u.flushLog ∧ u = (s.advanceTo at_.toNat).takeEdge g at_ e ∧
        ∀ b, e = .place b → ((s.gen g).out b).on = true →
          ((u.gen g).out b).on = false ∧
            u.getR (if b then Reg.PWMn_ONTIME_B g else Reg.PWMn_ONTIME_A g) = w32 (min (at_ - ((s.gen g).out b).rose).toNat 0xFFFFFF)) ∧
    (∀ at_ e, s.pwmIndep g = false → ¬ ((s.gen g).a.on = true ∧ (s.gen g).b.on = true) →
      ¬ (((s.takeEdge g at_ e).gen g).a.on = true ∧ ((s.takeEdge g at_ e).gen g).b.on = true))

/-- R176, R207: once a period, blocked or not, a generator reaches CMPC and CMPD and sets the interrupt bit where it is enabled. -/
def triggerComparesFireOnceAPeriod : Prop :=
  ∀ (s : State) (g : Fin 12) (d : Bool), s.pwmRuns g = true →
    let v := s.getF (if d then Reg.PWMn_CMPD g else Reg.PWMn_CMPC g) 0 24
    v < (s.gen g).prd → (if d then (s.gen g).dDone else (s.gen g).cDone) = false → (s.clk.tick : Int) ≤ (s.gen g).t0 + (v : Nat) →
    ∃ t, exec (.triggerCompareEvent g d) s = .next t ∧ (if d then (t.gen g).dDone else (t.gen g).cDone) = true ∧
      (t.clk.tick : Int) = (s.gen g).t0 + (v : Nat) ∧
      (s.getB (Hdr.IRQ_EN (Pg.PWMn g)) (if d then 6 else 5) = true → t.getB (Hdr.IRQ_RAW (Pg.PWMn g)) (if d then 6 else 5) = true)

/-- R177, R184: a trip input that asserts latches in TZ_STAT, sets its interrupt bit, and every generator that selects it is tripped with
both outputs off; its negation only follows; TRIP_CLR and TZ_CLR clear the records. -/
def tripInputsStopTheirGenerators : Prop :=
  ∀ (s : State) (tz : Fin 4),
    (s.pw.mode ≠ .dormant → s.getB Reg.PWMC_TZ_STAT tz = false →
      ∃ t, exec (.tzAssert tz true) s = .next t ∧ t.getB Reg.PWMC_TZ_STAT tz = true ∧ t.getB Reg.PWMC_TZ_STAT (8 + tz.val) = true ∧
        t.getB (Hdr.IRQ_RAW Pg.PWMC) 0 = true ∧
        ∀ g, g < 12 → s.idle (Pg.PWMn g) = false → s.getB (Reg.PWMn_TRIP_EN g) tz = true →
          (t.gen g).tripped = true ∧ (t.gen g).a.on = false ∧ (t.gen g).b.on = false ∧ t.getB (Reg.PWMn_TRIP_STAT g) tz = true) ∧
    (s.logq = [] → s.pw.mode ≠ .dormant → s.getB Reg.PWMC_TZ_STAT tz = true →
      exec (.tzAssert tz false) s = .next (s.setB Reg.PWMC_TZ_STAT tz false)) ∧
    (s.HostReady Pg.PWMC → s.logq = [] →
      ∃ t, exec .tzClr s = .next t ∧ t.getF Reg.PWMC_TZ_STAT 8 4 = 0 ∧ t.getF Reg.PWMC_TZ_STAT 0 4 = s.getF Reg.PWMC_TZ_STAT 0 4 ∧
        s.onlyRegs [Reg.PWMC_TZ_STAT] t) ∧
    (∀ g : Fin 12, s.HostReady (Pg.PWMn g) → s.logq = [] →
      ∃ t, exec (.pwmTripClr g) s = .next t ∧ t.getR (Reg.PWMn_TRIP_STAT g) = 0 ∧
        (s.tripLevel = 0 → (s.gen g).oneShot = 1 → (t.gen g).oneShot = 2))

/-- R170–R172, R180, R185: the generators' commands. START, a SYNC_IN edge and EN put counters at their positions; a compare value waits in
its shadow, and is refused while staged fractions or an auxiliary port own it; and the clears leave their records at 0. -/
def Obligations.GeneratorCommandsTakeEffect : Prop :=
  ∀ (s : State) (g : Fin 12),
    (∀ m : BitVec 12, s.HostReady Pg.PWMC → m.getLsbD g = true → s.pwmEn g = true → s.pwmLock g = false → s.pwmSynci g = false →
      s.idle (Pg.PWMn g) = false →
      ∃ t, exec (.pwmStart m) s = .next t ∧ t.clk.tick = s.clk.tick + 16 ∧ (t.gen g).running = true ∧ (t.gen g).t0 = (t.clk.tick : Nat)) ∧
    (∀ m : BitVec 12, s.HostReady Pg.PWMC → m.getLsbD g = true → s.idle (Pg.PWMn g) = false →
      ∃ t, exec (.gcommit m) s = .next t ∧ t.getB (Hdr.SHADOW_CTRL (Pg.PWMn g)) 8 = true) ∧
    (s.pw.mode ≠ .dormant → s.pwmSynci g = true → s.pwmLock g = false → s.pwmEn g = true → s.idle (Pg.PWMn g) = false →
      ∃ t, exec (.syncInEdge (s.getB Reg.PWMC_SYNCI_CFG 0)) s = .next t ∧ (t.gen g).running = true ∧
        (t.gen g).t0 = (s.clk.tick : Int) - (s.getF (Reg.PWMn_SYNCI_PHASE g) 0 24 % max 1 (s.getF (Reg.PWMn_PRD g) 0 24) : Nat)) ∧
    (∀ d : Word, s.HostReady (Pg.PWMn g) → s.logq = [] →
      (s.pwmStaged g = false → s.auxOwns g = false →
        ∃ t, exec (.cmpaWrite g d) s = .next t ∧ SMap.find (Reg.PWMn_CMPA g) t.shadow = some (d &&& 0xFFFFFF) ∧
          t.getR (Reg.PWMn_CMPA g) = s.getR (Reg.PWMn_CMPA g) ∧
          (s.getB (Reg.PWMn_CTRL g) 4 = true → t.getB (Hdr.SHADOW_CTRL (Pg.PWMn g)) 8 = true)) ∧
      (s.pwmStaged g = true ∨ s.auxOwns g = true → exec (.cmpaWrite g d) s = .next (s.refuse (Pg.PWMn g))) ∧
      (s.pw.role ≠ .cell → s.pw.mode = .configure → bit d 1 = false → bit d 6 = false → bit d 0 = false →
        ∃ t, exec (.pwmCtrlWrite g d) s = .next t ∧ t.getR (Reg.PWMn_CTRL g) = d &&& 0xFFF ∧ (t.gen g).running = false ∧
          (t.gen g).a.on = false ∧ (t.gen g).b.on = false) ∧
      (s.pw.role ≠ .cell → s.pw.mode ≠ .configure → ((d &&& 0xFFF) ^^^ s.getR (Reg.PWMn_CTRL g)) &&& 0xFEE ≠ 0 →
        exec (.pwmCtrlWrite g d) s = .next (s.refuse (Pg.PWMn g))) ∧
      (∃ t, exec (.pwmStatClrFlags g) s = .next t ∧ t.getB (Reg.PWMn_STAT g) 4 = false ∧
        t.getB (Reg.PWMn_STAT g) 5 = decide (s.getF (Reg.PWMn_PRD g) 0 24 < s.getF (Reg.PWMn_CMPA g) 0 24 ∨
          s.getF (Reg.PWMn_PRD g) 0 24 < s.getF (Reg.PWMn_CMPB g) 0 24) ∧ s.onlyRegs [Reg.PWMn_STAT g] t) ∧
      (∃ t, exec (.pwmStatClrCounters g) s = .next t ∧
        (∀ a ∈ [Reg.PWMn_SPLIT_CNT g, Reg.PWMn_MP_DROP_CNT g, Reg.PWMn_MP_STRETCH_CNT g, Reg.PWMn_TRIP_CNT g, Reg.PWMn_LOCK_SLIP_CNT g],
          t.getR a = 0) ∧
        s.onlyRegs [Reg.PWMn_SPLIT_CNT g, Reg.PWMn_MP_DROP_CNT g, Reg.PWMn_MP_STRETCH_CNT g, Reg.PWMn_TRIP_CNT g, Reg.PWMn_LOCK_SLIP_CNT g] t))

/-- R189–R191, R194: commands of an island. A command that rises on an island nothing holds turns its gate on and counts; with the interlock
on and the partner's command high neither conducts, the pair is held and the block recorded; a command that falls turns the gate off, softly
under a block. -/
def islandCommandsDriveTheGate : Prop :=
  ∀ (s : State) (n : Fin 8), s.pw.mode ≠ .dormant → s.islSwin n = false →
    (s.islLevel n = true → (s.isl n).level = false → s.ilkHeld (n.val / 2) = false →
      (s.getB Reg.ISLC_ILK_CFG (n.val / 2) = false ∨ (s.isl (partner n)).level = false →
        (s.islIgnores n = false →
          ∃ t, exec (.islandCommandRise n) s = .next t ∧ (t.isl n).out = true ∧ (t.isl n).seqAt = s.clk.tick ∧ (t.isl n).blank = true ∧
            t.getR (Reg.ISLn_SWITCH_CNT n) = s.getR (Reg.ISLn_SWITCH_CNT n) + 1 ∧ ∀ k, k ≠ n.val → t.isl k = s.isl k) ∧
        (s.islIgnores n = true → ∃ t, exec (.islandCommandRise n) s = .next t ∧ (t.isl n).out = (s.isl n).out)) ∧
      (s.getB Reg.ISLC_ILK_CFG (n.val / 2) = true → (s.isl (partner n)).level = true →
        ∃ t, exec (.islandCommandRise n) s = .next t ∧ (t.isl n).out = (s.isl n).out ∧ (t.isl (partner n)).out = false ∧
          t.ilkHeld (n.val / 2) = true ∧ t.getB (Hdr.IRQ_RAW Pg.ISLC) 1 = true)) ∧
    (s.islLevel n = false → (s.isl n).level = true →
      ∃ t, exec (.islandCommandFall n) s = .next t ∧ (t.isl n).level = false ∧ (t.isl n).out = false ∧
        (s.islBlock = true → (s.isl n).out = true → (t.isl n).soft = some s.clk.tick) ∧ (s.islBlock = false → (t.isl n).soft = (s.isl n).soft))

/-- R190, R192, R193, R195: turning off and blanking. A block turns a conducting island off softly; soft turn-off ends at the low gate or at
SOFT_MAX; GATE_OFF follows an ordinary turn-off; and an assertion that stands when blanking ends, or comes after it, is a fault. -/
def islandsTurnOffAndBlank : Prop :=
  ∀ (s : State) (n : Fin 8),
    (s.islBlock = true → (s.isl n).out = true →
      ∃ t, exec (.islandBlock n) s = .next t ∧ (t.isl n).out = false ∧ (t.isl n).soft = some s.clk.tick ∧ ∀ k, k ≠ n.val → t.isl k = s.isl k) ∧
    (∀ t0, (s.isl n).soft = some t0 →
      (∃ t, exec (.softTurnOffEnd n true) s = .next t ∧ (t.isl n).soft = none ∧ (t.isl n).gateOff = true) ∧
      (∃ t, exec (.softTurnOffEnd n false) s = .next t ∧ (t.isl n).soft = none ∧
        t0 + 160 * s.getF (Reg.ISLn_SOFT_CFG n) 8 8 ≤ t.clk.tick)) ∧
    ((s.isl n).out = false → (s.isl n).soft = none → (s.isl n).gateOff = false → (s.isl n).linkOk = true →
      ∃ t, exec (.gateOff n) s = .next t ∧ (t.isl n).gateOff = true ∧ (t.isl n).clamp = s.getB (Reg.ISLn_CTRL n) 5) ∧
    ((s.isl n).out = true → (s.isl n).blank = true →
      (s.dsatEn n = true → (s.isl n).armed = false →
        ∃ t, exec (.blankArm n true) s = .next t ∧ (t.isl n).armed = true ∧ t.getB (Hdr.IRQ_RAW (Pg.ISLn n)) 6 = true) ∧
      ((s.isl n).armed = false →
        ∃ t, exec (.blankingEnd n) s = .next t ∧ (t.isl n).blank = false ∧ (t.isl n).out = true ∧
          (s.isl n).seqAt + (152 * s.getF (Reg.ISLn_DSAT_CFG n) 16 6 - 32) ≤ t.clk.tick) ∧
      ((s.isl n).armed = true → s.dsatEn n = true → (s.isl n).soft = none → (s.isl n).fault = false →
        ∃ t, exec (.blankingEnd n) s = .next t ∧ (t.isl n).out = false ∧ t.getB (Hdr.IRQ_RAW (Pg.ISLn n)) 0 = true))

/-- R187, R192, R195–R200: the faults. Each counts, sets its interrupt bits and, while none is latched, turns its island off softly and
latches its type; a link report that fails clears LINK_OK; a supply that enters undervoltage is no longer good. -/
def islandFaultsLatchTheirType : Prop :=
  ∀ (s : State) (n : Fin 8), (s.isl n).soft = none → (s.isl n).fault = false →
    ((s.isl n).out = true → (s.isl n).blank = false → s.dsatEn n = true →
      ∃ t, exec (.desatDetect n) s = .next t ∧ (t.isl n).fault = true ∧ (t.isl n).typ = 1 ∧ (t.isl n).out = false ∧
        t.getB (Hdr.IRQ_RAW (Pg.ISLn n)) 0 = true ∧ t.getB (Hdr.IRQ_RAW Pg.ISLC) 0 = true) ∧
    ((s.isl n).out = true → s.getB (Reg.ISLn_CTRL n) 6 = true →
      ∃ t, exec (.hardFault n) s = .next t ∧ (t.isl n).fault = true ∧ (t.isl n).typ = 3 ∧ (t.isl n).out = false ∧
        t.getB (Hdr.IRQ_RAW (Pg.ISLn n)) 1 = true) ∧
    (∃ t, exec (.islandLinkTimeout n) s = .next t ∧ (t.isl n).fault = true ∧ (t.isl n).typ = 4 ∧ (t.isl n).out = false ∧ t.pw.mode = s.pw.mode) ∧
    (∃ t, exec (.uvloEntry n false) s = .next t ∧ (t.isl n).fault = true ∧ (t.isl n).typ = 5 ∧ (t.isl n).vddGood = false ∧
      t.getB (Hdr.IRQ_RAW (Pg.ISLn n)) 2 = true ∧ t.getB (Hdr.IRQ_RAW Pg.ISLC) 2 = true) ∧
    (s.getF (Reg.ISLn_UVLO_CFG n) 8 2 = 0 → s.logq = [] → exec (.uvloEntry n true) s = .next s) ∧
    (∃ t, exec (.supplyGood n false) s = .next t ∧ (t.isl n).vddGood = true) ∧
    (s.pw.mode ≠ .dormant →
      (∃ t, exec (.islandLinkReturn n) s = .next t ∧ (t.isl n).linkOk = true) ∧
      ((s.isl n).linkOk = true →
        (∃ t, exec (.linkReportTimeout n) s = .next t ∧ (t.isl n).linkOk = false ∧ t.getB (Hdr.IRQ_RAW Pg.ISLC) 3 = true ∧
          (s.islEn n = true → s.pw.mode = .run → t.pw.mode = .safe)) ∧
        (∀ raw : BitVec 10, ∃ t, exec (.ntcConversion n raw) s = .next t ∧ t.getR (Reg.ISLn_NTC_RAW n) = w32 raw.toNat ∧
          (raw.toNat < s.getF (Reg.ISLn_NTC_LIM n) 0 10 → t.getB (Hdr.IRQ_RAW (Pg.ISLn n)) 4 = true) ∧
          (raw.toNat < s.getF (Reg.ISLn_NTC_LIM n) 16 10 → s.getB (Reg.ISLn_CTRL n) 4 = true → (t.isl n).fault = true ∧ (t.isl n).typ = 7))))

/-- R190, R194, R197, R199, R204: the commands that release what the islands hold, and CTRL. -/
def islandCommandsRelease : Prop :=
  ∀ (s : State) (n : Fin 8), s.logq = [] →
    (∀ pair : Fin 4, s.ilkHeld pair = true → s.getB Reg.ISLC_ILK_CFG (8 + pair.val) = true → 2 ≤ SMap.get 0 pair.val s.ilkE0 →
      exec (.ilkHoldExpire pair) s = .next (s.setB Reg.ISLC_ILK_STAT pair false)) ∧
    (s.HostReady Pg.ISLC →
      (∀ (m : BitVec 4) (pair : Fin 4), m.getLsbD pair = true → (s.isl (2 * pair.val)).level = false → (s.isl (2 * pair.val + 1)).level = false →
        ∃ t, exec (.ilkClr m) s = .next t ∧ t.getB Reg.ISLC_ILK_STAT (8 + pair.val) = false ∧
          (s.getB Reg.ISLC_ILK_CFG (8 + pair.val) = false → t.ilkHeld pair = false)) ∧
      (∃ t, exec .islcFaultClr s = .next t ∧ t.getR Reg.ISLC_FAULT_FIRST = 0 ∧ t.getR Reg.ISLC_FAULT_FOLLOW = 0 ∧ t.faultAt = none ∧
        (∀ k, k < 8 → (t.isl k).scope = false) ∧ s.onlyRegs [Reg.ISLC_FAULT_FIRST, Reg.ISLC_FAULT_FOLLOW] { t with isls := s.isls, faultAt := s.faultAt })) ∧
    (s.HostReady (Pg.ISLn n) →
      (s.causeAbsent n = true → (s.isl n).level = false → (s.isl n).soft = none →
        exec (.islFaultClr n) s = .next (s.modIsl n (fun i => { i with fault := false, typ := 0 }))) ∧
      (s.causeAbsent n = false ∨ (s.isl n).level = true ∨ (s.isl n).soft.isSome = true →
        exec (.islFaultClr n) s = .next (s.refuse (Pg.ISLn n))) ∧
      (∃ t, exec (.islStatClr n) s = .next t ∧
        (∀ a ∈ [Reg.ISLn_DSAT_CNT n, Reg.ISLn_HARD_CNT n, Reg.ISLn_UVLO_CNT n, Reg.ISLn_LINK_CNT n, Reg.ISLn_BLANK_ARM_CNT n,
          Reg.ISLn_NTC_EVT_CNT n], t.getR a = 0) ∧
        s.onlyRegs [Reg.ISLn_DSAT_CNT n, Reg.ISLn_HARD_CNT n, Reg.ISLn_UVLO_CNT n, Reg.ISLn_LINK_CNT n, Reg.ISLn_BLANK_ARM_CNT n,
          Reg.ISLn_NTC_EVT_CNT n] t) ∧
      (∀ d : Word, s.pw.role ≠ .cell → s.pw.mode = .configure →
        ∃ t, exec (.islCtrlWrite n d) s = .next t ∧ t.getR (Reg.ISLn_CTRL n) = d &&& 0x77 ∧
          (bit d 0 = false → (t.isl n).out = false)))

/-! ## Converters, comparators and lanes -/

/-- R206–R208, R210: a trigger that is taken starts the delay of its sequence, or is ignored and counted while the sequence is busy; the delay
ends with the sequence pending; the sequence that is chosen starts its conversion on an edge of CK_ADC; and EN = 0 leaves the converter at
rest. -/
def Obligations.ConvertersRunTheirSequences : Prop :=
  ∀ (s : State) (n : Fin 2) (inj : Bool),
    let delay := s.getF (if inj then Reg.ADCn_INJ_TRIG n else Reg.ADCn_REG_TRIG n) 16 16
    (∀ at_ rest, s.pw.mode ≠ .dormant → ((s.adcS n).seq inj).fired = at_ :: rest → inj = true ∨ s.adcCont n = false →
      (s.adcBusy n inj = false →
        ∃ t, exec (.adcTrigger n inj) s = .next t ∧ ((t.adcS n).seq inj).wait = some (t.clk.tick + 8 * delay) ∧
          ((t.adcS n).seq inj).fired = rest ∧ at_ ≤ t.clk.tick) ∧
      (s.adcBusy n inj = true →
        ∃ t, exec (.adcTrigger n inj) s = .next t ∧ ((t.adcS n).seq inj).wait = ((s.adcS n).seq inj).wait ∧
          t.getB (Hdr.IRQ_RAW (Pg.ADCn n)) 2 = true)) ∧
    (s.HostReady (Pg.ADCn n) → s.logq = [] →
      (s.adcEn n = true → s.adcBusy n false = false → s.adcCont n = false →
        ∃ t, exec (.adcSwTrigRegular n) s = .next t ∧
          ((t.adcS n).seq false).wait = some (s.clk.tick + 8 * s.getF (Reg.ADCn_REG_TRIG n) 16 16)) ∧
      (s.adcEn n = true → s.adcBusy n true = false →
        ∃ t, exec (.adcSwTrigInjected n) s = .next t ∧
          ((t.adcS n).seq true).wait = some (s.clk.tick + 8 * s.getF (Reg.ADCn_INJ_TRIG n) 16 16)) ∧
      (∃ t, exec (.adcEnable n false) s = .next t ∧ t.adcEn n = false ∧ (t.adcS n).convs = [] ∧ (t.adcS n).seq inj = adcSeq0) ∧
      (∃ t, exec (.adcEnable n true) s = .next t ∧ t.adcEn n = true ∧ (t.adcS n).convs = (s.adcS n).convs) ∧
      (∃ t, exec (.adcClear n) s = .next t ∧
        (∀ a ∈ [Reg.ADCn_CONV_CNT n, Reg.ADCn_INJ_CNT n, Reg.ADCn_TRIG_MISS_CNT n], t.getR a = 0) ∧
        s.onlyRegs [Reg.ADCn_CONV_CNT n, Reg.ADCn_INJ_CNT n, Reg.ADCn_TRIG_MISS_CNT n] t)) ∧
    (∀ t0, ((s.adcS n).seq inj).wait = some t0 →
      ∃ t, exec (.adcTriggerDelayEnd n inj) s = .next t ∧ ((t.adcS n).seq inj).wait = none ∧ ((t.adcS n).seq inj).pend = true ∧
        t0 ≤ t.clk.tick) ∧
    (∀ k, s.pw.mode ≠ .dormant → s.adcEn n = true → s.clk.relock = false → s.adcChoice n = some (inj, k) →
      ∃ t c, exec (.adcConversionStart n) s = .next t ∧ (t.adcS n).convs = (s.adcS n).convs ++ [c] ∧ c.inj = inj ∧ c.entry = k ∧
        c.start = t.clk.tick ∧ t.clk.tick % 32 = s.clk.div0 % 32 ∧ c.word = s.getR (if inj then Reg.ADCn_INJ_SEQ n k else Reg.ADCn_REG_SEQ n k))

/-- R206, R209, R211, R212: a conversion ends ten CK_ADC cycles and a fabric tick after it began, with its result in RESULT_LAST and, where
its entry says so, in the latest value of its channel; the snapshot of the latest values leaves none fresh; and Q_RD may not pass Q_WR. -/
def conversionsDeliverTheirResults : Prop :=
  ∀ s : State,
    (∀ (n : Fin 2) (code : BitVec 16) c cs, (s.adcS n).convs = c :: cs → (c.inj = true → c.entry < 8) →
      ∃ t, exec (.adcConversionDone n code) s = .next t ∧ (t.adcS n).convs = cs ∧ c.start + 328 ≤ t.clk.tick ∧
        t.getR (Reg.ADCn_RESULT_LAST n) = queueEntry (s.getR Reg.TIME_PERIOD_CNT).toNat c.inj n (fld c.word 0 5) code.toNat ∧
        (s.getR (Reg.ADCn_CONV_CNT n) ≠ 0xFFFFFFFF → t.getR (Reg.ADCn_CONV_CNT n) = s.getR (Reg.ADCn_CONV_CNT n) + 1) ∧
        (n = 0 → bit c.word 6 = true → fld c.word 0 5 ≤ 16 → t.getR (lvReg (fld c.word 0 5)) = w32 (2 ^ 17 + code.toNat))) ∧
    (s.pw.mode ≠ .dormant → s.clk.gen = true → s.lvDone = false → s.pw.role ≠ .cell →
      ∃ t, exec .lvSnapshot s = .next t ∧ t.lvDone = true ∧ s.clk.e0 + 3040 ≤ t.clk.tick ∧
        ∀ ch, ch < 17 → SMap.get 0 ch t.lvSnap = s.getR (lvReg ch) ∧ t.getR (lvReg ch) = lvAge (s.getR (lvReg ch))) ∧
    (s.HostReady Pg.ADCQ → s.logq = [] → ∀ d : Word,
      ((fld d 0 7 + 128 - s.getF Reg.ADCQ_Q_RD 0 7) % 128 ≤ s.adcqHeld →
        ∃ t, exec (.qRdWrite d) s = .next t ∧ t.getF Reg.ADCQ_Q_RD 0 7 = fld d 0 7 ∧ s.onlyRegs [Reg.ADCQ_Q_RD] t) ∧
      (s.adcqHeld < (fld d 0 7 + 128 - s.getF Reg.ADCQ_Q_RD 0 7) % 128 → exec (.qRdWrite d) s = .next (s.refuse Pg.ADCQ)))

/-- R214–R217: comparators. A change of level gives the raw output of WIN, and without a filter the filtered output, whose rise sets the
latch; a sampled decision gives the same at its instant; and a latch goes when it is cleared, but stays while its output is 1. -/
def comparatorsLatchTheirRise : Prop :=
  ∀ (s : State) (n : Fin 16) (high low : Bool), s.cmpKept n = false → s.getB (Reg.CMP_C_FILT n) 16 = false →
    let v := cmpRaw (s.getR (Reg.CMP_C_CFG n)) high low
    (s.pw.mode ≠ .dormant → s.getB (Reg.CMP_C_CFG n) 6 = false →
      ∃ t, exec (.cmpRawChange n high low) s = .next t ∧ t.getB Reg.CMP_LEVEL (16 + n.val) = v ∧ t.getB Reg.CMP_LEVEL n = v ∧
        (v = true → s.getB Reg.CMP_LEVEL n = false → t.getB Reg.CMP_LATCH n = true)) ∧
    (s.pw.mode ≠ .dormant → s.getB (Reg.CMP_C_CFG n) 6 = true → s.clk.gen = true →
      (s.getR Reg.TIME_PERIOD_CNT).toNat % 2 ^ s.getF (Reg.CMP_C_SAMP n) 0 4 = 0 →
      ∃ t, exec (.cmpSampledDecision n high low) s = .next t ∧ t.getB Reg.CMP_LEVEL (16 + n.val) = v ∧ t.getB Reg.CMP_LEVEL n = v ∧
        s.clk.e0 + 3200 ≤ t.clk.tick) ∧
    (∀ m : BitVec 16, s.HostReady Pg.CMP → m.getLsbD n = true → s.getB (Reg.CMP_C_CFG n) 7 = false → s.getB Reg.CMP_LATCH n = true →
      ∃ t, exec (.cmpLatchClear m) s = .next t ∧ t.getB Reg.CMP_LATCH n = s.getB Reg.CMP_LEVEL n)

/-- R226, R233–R236: the receiver of a data lane. Lock, then 4,096 UI without a violation, gives SYNC; the sixteenth violation within 65,536 UI
ends it, as the loss of lock does; and a TRIP counts once a pair. -/
def laneReceiversLockAndSync : Prop :=
  ∀ (s : State) (n : Fin 16), s.laneUsed n = true → s.laneMode n = 1 →
    ((s.lane n).cdr = false → ∃ t, exec (.cdrLock n) s = .next t ∧ (t.lane n).cdr = true ∧ (t.lane n).clean = s.clk.tick) ∧
    ((s.lane n).cdr = true → ∃ t, exec (.cdrLockLoss n) s = .next t ∧ (t.lane n).cdr = false ∧ (t.lane n).sync = false ∧ (t.lane n).marksOk = 0 ∧
      ((s.lane n).sync = true → t.getB (Hdr.IRQ_RAW (Pg.LANEn n)) 0 = true)) ∧
    (isData n = true → (s.lane n).cdr = true → (s.lane n).sync = false →
      ∃ t, exec (.laneSync n) s = .next t ∧ (t.lane n).sync = true ∧ (s.lane n).clean + 1024 ≤ t.clk.tick) ∧
    (∃ t, exec (.codeViolation n) s = .next t ∧
      (s.getR (Reg.LANEn_CODE_ERR_CNT n) ≠ 0xFFFFFFFF → t.getR (Reg.LANEn_CODE_ERR_CNT n) = s.getR (Reg.LANEn_CODE_ERR_CNT n) + 1) ∧
      (isData n = true → 15 ≤ ((s.lane n).viol.filter (fun k => decide (s.clk.tick < k + 16384))).length → (t.lane n).sync = false) ∧
      (isData n = true → ((s.lane n).viol.filter (fun k => decide (s.clk.tick < k + 16384))).length < 15 →
        (t.lane n).sync = (s.lane n).sync)) ∧
    (isData n = true → (s.lane n).sync = true → (s.lane n).tripAt = none →
      ∃ t, exec (.tripMarkerReceived n) s = .next t ∧ (t.lane n).tripAt = some s.clk.tick ∧ t.getB (Hdr.IRQ_RAW (Pg.LANEn n)) 3 = true ∧
        (s.getR (Reg.LANEn_TRIP_RX_CNT n) ≠ 0xFFFFFFFF → t.getR (Reg.LANEn_TRIP_RX_CNT n) = s.getR (Reg.LANEn_TRIP_RX_CNT n) + 1) ∧
        (s.pw.role = .cell → s.servingLane = n → s.pw.mode = .run → t.pw.mode = .safe))

/-- R240–R245: eye measurement, adaptation, tuning and test patterns. The figure of merit is four times the smaller of the two openings, at
most 255; a point is open when the samplers never disagreed; a FOM below the warning limit suspends adaptation on the best settings; a tune
command acts only with TUNE_EN = 1; and errors of the pattern are counted and flagged. -/
def lanesMeasureAndAdapt : Prop :=
  ∀ (s : State) (n : Fin 16), s.laneUsed n = true →
    (∀ e l u d : Fin 33, s.laneMode n = 1 → s.getB (Reg.LANEn_CTRL n) 6 = false →
      ∃ t, exec (.eyeSweepEnd n e l u d) s = .next t ∧
        t.getF (Reg.LANEn_FOM n) 0 8 = min 255 (4 * min (e.val + l.val) (u.val + d.val)) ∧ (t.lane n).fomFrom = (s.lane n).sweepAt ∧
        (t.lane n).sweepAt = s.clk.tick) ∧
    (∀ t0 (dis : BitVec 17), (s.lane n).eyeAt = some t0 →
      ∃ t, exec (.eyePointDone n dis) s = .next t ∧ (t.lane n).eyeAt = none ∧ t0 + 16384 ≤ t.clk.tick ∧ t.getB (Reg.LANEn_EYE_RES n) 0 = true ∧
        t.getB (Reg.LANEn_EYE_RES n) 1 = decide (dis = 0)) ∧
    (s.getB (Reg.LANEn_CTRL n) 4 = true → s.getB (Reg.LANEn_CTRL n) 6 = false → s.adaptInterval n ≤ (s.lane n).adPeriods →
      ∃ t, exec (.adaptDecision n) s = .next t ∧ (t.lane n).adPeriods = 0 ∧
        (s.getF (Reg.LANEn_FOM n) 0 8 < s.getF (Reg.LANEn_FOM_LIM n) 0 8 →
          (t.lane n).suspended = true ∧ (t.lane n).trial = false ∧ t.getR (Reg.LANEn_RX_EQ n) = s.getR (Reg.LANEn_EQ_BEST n))) ∧
    (∀ c, (s.lane n).tuneCmd = some c → (s.lane n).tuneDue = true →
      ∃ t, exec (.tuneCommandApply n) s = .next t ∧ (t.lane n).tuneCmd = none ∧ (t.lane n).tuneDue = false ∧
        (s.getB (Reg.LANEn_CTRL n) 5 = false → s.logq = [] → t.regs = s.regs)) ∧
    (s.laneTest n = true → (s.lane n).prbsFrom = none →
      ∃ t, exec (.prbsLock n) s = .next t ∧ (t.lane n).prbsFrom = some s.clk.tick) ∧
    (s.laneTest n = true → (s.lane n).prbsFrom.isSome = true →
      ∃ t, exec (.prbsError n) s = .next t ∧ (t.lane n).prbsErrs = min (2 ^ 48 - 1) ((s.lane n).prbsErrs + 1) ∧
        t.getB (Reg.LANEn_PRBS_STAT n) 1 = true)

/-- R226, R240, R245, R247: what the host commands of a lane do. CTRL takes its mode unless the lane is owned by a ring; a point is measured
with EYE_MAN only; injected errors are counted, in TEST and LOOPBACK only; and the clears leave their counts at 0. -/
def Obligations.LaneCommandsTakeEffect : Prop :=
  ∀ (s : State) (n : Fin 16), s.HostReady (Pg.LANEn n) → s.logq = [] →
    (∀ d : Word, (s.lane n).owned = false →
      ∃ t, exec (.laneCtrlWrite n d) s = .next t ∧ t.getR (Reg.LANEn_CTRL n) = d &&& 0x7F ∧ t.laneMode n = fld d 0 2) ∧
    (∀ d : Word, (s.lane n).owned = true → (d ^^^ s.getR (Reg.LANEn_CTRL n)) &&& 0xF ≠ 0 →
      exec (.laneCtrlWrite n d) s = .next (s.refuse (Pg.LANEn n))) ∧
    (∀ d : Word,
      (s.getB (Reg.LANEn_CTRL n) 6 = true →
        ∃ t, exec (.eyePointStart n d) s = .next t ∧ (t.lane n).eyeAt = some s.clk.tick ∧ t.getR (Reg.LANEn_EYE_RES n) = 0 ∧
          t.getR (Reg.LANEn_EYE_CMD n) = d &&& 0x3F3F) ∧
      (s.getB (Reg.LANEn_CTRL n) 6 = false → exec (.eyePointStart n d) s = .next (s.refuse (Pg.LANEn n)))) ∧
    (s.laneTest n = true → s.getR (Reg.LANEn_PRBS_INJ_CNT n) = 0 →
      (∃ t, exec (.prbsInjectSingle n) s = .next t ∧ t.getR (Reg.LANEn_PRBS_INJ_CNT n) = 1 ∧ s.onlyRegs [Reg.LANEn_PRBS_INJ_CNT n] t) ∧
      ∀ k : BitVec 8, ∃ t, exec (.prbsInjectBurst n k) s = .next t ∧ t.getR (Reg.LANEn_PRBS_INJ_CNT n) = w32 (max 1 k.toNat) ∧
        s.onlyRegs [Reg.LANEn_PRBS_INJ_CNT n] t) ∧
    (s.laneTest n = false → exec (.prbsInjectSingle n) s = .next (s.refuse (Pg.LANEn n))) ∧
    (∃ t, exec (.laneClearCounters n) s = .next t ∧
      (∀ a ∈ [Reg.LANEn_CODE_ERR_CNT n, Reg.LANEn_TSTART_CNT n, Reg.LANEn_TRIP_RX_CNT n, Reg.LANEn_SYNC_LOSS_CNT n, Reg.LANEn_MARK_CNT n,
        Reg.LANEn_MARK_MISS_CNT n], t.getR a = 0) ∧ t.getF (Reg.LANEn_TUNE_STAT n) 16 16 = 0 ∧ (t.lane n).tx.stuffed = 0) ∧
    (∃ t, exec (.laneClearPrbs n) s = .next t ∧ (t.lane n).prbsErrs = 0 ∧ (t.lane n).prbsBits = 0 ∧ t.getB (Reg.LANEn_PRBS_STAT n) 1 = false ∧
      t.getR (Reg.LANEn_PRBS_INJ_CNT n) = 0)

/-! ## Rings, trains and cells -/

/-- R251, R252, R255: an outbound train at a trained cell, with a good header that names its position and no request for it. A part whose CRC-8,
VALID and generation are right is kept for E6 with the step and the block bit of the header; another is counted and flagged, and the part kept
stays as it was; in both cases APPLY_PHASE follows the header. -/
def Obligations.CellTakesItsPartFromTheTrain : Prop :=
  ∀ (s : State) (p : Fin 8) (bs : List Byte) (drift : BitVec 16), s.pw.role = .cell → s.laneUsed (2 * p.val) = true →
    (s.lane (2 * p.val)).sync = true → trainShape bs = true → p.val = b2n (fromB bs) → hcrcOk bs = true → (bs.getD 1 0).getLsbD 5 = false →
    (bs.getD 0x18 0).getLsbD 0 = false → s.cellTrained = true → (trainAside bs).getD 0 0 = 0 →
    let pos := s.getF Reg.CELL_POSITION 0 7
    let imp := (trainSlot bs pos).take 12
    pos < (bs.getD 2 0).toNat → (bs.getD 0x1A 0).toNat = pos →
    ∃ t, exec (.trainPass p bs drift) s = .next t ∧ t.getR Reg.TIME_APPLY_PHASE = w32 (bs.getD 3 0).toNat ∧
      (s.impOk pos imp = true → t.cell.part = some { imp := imp, step := w32 (leNat ((bs.drop 0x10).take 4)), blockAll := (bs.getD 0x18 0).getLsbD 1 } ∧
        t.cell.impBad = false) ∧
      (s.impOk pos imp = false → t.cell.part = s.cell.part ∧ t.cell.impBad = true ∧ t.getB (Hdr.IRQ_RAW Pg.CELL) 4 = true ∧
        (s.getR Reg.CELL_IMP_BAD_CNT ≠ 0xFFFFFFFF → t.getR Reg.CELL_IMP_BAD_CNT = s.getR Reg.CELL_IMP_BAD_CNT + 1))

/-- R257, R259, R278: a train that comes back to its serving end, with the length its plan gives it, is kept for the next E0, late where
another period has begun; its checks are counted. -/
def returnedTrainsAreKeptAndCounted : Prop :=
  ∀ (s : State) (n : Fin 8) (bs : List Byte), s.pw.mode ≠ .dormant → s.ringOn n = true → s.serves n = true → trainShape bs = true →
    (bs.getD 2 0).toNat = s.slots n →
    ∃ t, exec (.trainReturn n bs) s = .next t ∧
      (t.ring n).ret = (s.ring n).ret ++ [(bs, decide (trainPcnt bs ≠ (s.getR Reg.TIME_PERIOD_CNT).toNat))] ∧
      (hcrcOk bs = true → crc32Ok bs = true → s.getR (Reg.RINGn_RX_OK_CNT n) ≠ 0xFFFFFFFF →
        t.getR (Reg.RINGn_RX_OK_CNT n) = s.getR (Reg.RINGn_RX_OK_CNT n) + 1) ∧
      (crc32Ok bs = false → s.getR (Reg.RINGn_CRC32_ERR_CNT n) ≠ 0xFFFFFFFF →
        t.getR (Reg.RINGn_CRC32_ERR_CNT n) = s.getR (Reg.RINGn_CRC32_ERR_CNT n) + 1 ∧ t.getR (Reg.RINGn_RX_OK_CNT n) = s.getR (Reg.RINGn_RX_OK_CNT n))

/-- R262, R265, R270, R278: enabling, linking, training and rejoining a ring. EN takes the lanes of the port and begins to link; a training that
passes leaves the ring TRAINED, one that does not leaves it FAILED, each with its result; a rejoined ring is whole at the next E0. -/
def Obligations.RingsLinkAndTrain : Prop :=
  ∀ (s : State) (n : Fin 8),
    (s.HostReady (Pg.RINGn n) → s.logq = [] →
      (∀ d : Word, s.pw.mode = .configure → s.getB (Reg.RINGn_CFG n) 0 = false → bit d 0 = true →
        (∀ m, m < 8 → m ≠ n.val → s.ringOn m = true → ¬ (planTail s.body m = 1 ∧ planTailPort s.body m = n.val)) →
        ∃ t, exec (.ringEnable n d) s = .next t ∧ t.getR (Reg.RINGn_CFG n) = d &&& 3 ∧ (t.ring n).st = 1 ∧ (t.lane (2 * n.val)).owned = true ∧
          (t.lane (2 * n.val + 1)).owned = true ∧ t.laneMode (2 * n.val) = 1 ∧ t.laneMode (2 * n.val + 1) = 1) ∧
      (∀ d : Word, s.pw.mode = .run → bit d 0 ≠ s.getB (Reg.RINGn_CFG n) 0 → exec (.ringEnable n d) s = .next (s.refuse (Pg.RINGn n))) ∧
      (s.ringOn n = true → s.serves n = true → 2 ≤ (s.ring n).st → (s.ring n).training = false → (s.ring n).rejoining = false →
        ∃ t, exec (.ringTrain n) s = .next t ∧ (t.ring n).training = true ∧ t.getR (Reg.RINGn_TRAIN_RESULT n) = 0) ∧
      ((s.ring n).st < 2 → exec (.ringTrain n) s = .next (s.refuse (Pg.RINGn n))) ∧
      ((s.ring n).st = 4 → (s.ring n).training = false → (s.ring n).rejoining = false → s.serves n = true → s.pw.role ≠ .standby →
        ∃ t, exec (.ringRejoin n) s = .next t ∧ (t.ring n).rejoining = true ∧ t.getR (Reg.RINGn_TRAIN_RESULT n) = 0)) ∧
    (s.getB (Reg.RINGn_CFG n) 0 = true → (s.ring n).st = 1 → ∃ t, exec (.ringLinked n) s = .next t ∧ (t.ring n).st = 2) ∧
    (∀ cells hN fault, s.pw.mode ≠ .dormant → (s.ring n).training = true →
      let v := s.trainVerdict n cells hN.toNat fault
      ∃ t, exec (.trainingDone n cells hN fault) s = .next t ∧ (t.ring n).training = false ∧
        t.getR (Reg.RINGn_TRAIN_RESULT n) = w32 (v.1 + 2 ^ 8 * (v.2 % 256)) ∧
        (v.1 = 1 → (t.ring n).st = 3 ∧ (t.ring n).breakPos = 0xFF ∧ t.getB (Hdr.IRQ_RAW (Pg.RINGn n)) 0 = true) ∧
        (v.1 ≠ 1 → (t.ring n).st = 5 ∧ t.getB (Hdr.IRQ_RAW (Pg.RINGn n)) 3 = true)) ∧
    (∀ h cells, s.pw.mode ≠ .dormant → (s.ring n).rejoining = true →
      (hopAbove h.toNat (planHop s.body n) = false →
        ∃ t, exec (.rejoinDone n h cells none) s = .next t ∧ (t.ring n).rejoining = false ∧ (t.ring n).rejoined = true ∧
          t.getR (Reg.RINGn_TRAIN_RESULT n) = 1) ∧
      (∀ p, ∃ t, exec (.rejoinDone n h cells (some (.timeout, p))) s = .next t ∧ (t.ring n).rejoining = false ∧
        (t.ring n).rejoined = (s.ring n).rejoined ∧ t.getF (Reg.RINGn_TRAIN_RESULT n) 0 8 = 5))

/-- R274, R278: the host's Interrogative request waits for the next train; it is refused while another is under way, and answered at once with
RESULT 4 where the directory has no cell; an abort ends it with RESULT 0; and CLEAR leaves the ring's counters at 0. -/
def interrogativeRequestsWait : Prop :=
  ∀ (s : State) (n : Fin 8) (target : BitVec 8) (op : BitVec 2), s.HostReady (Pg.RINGn n) → s.logq = [] →
    (op = 1 ∨ op = 2 → s.getB (Reg.RINGn_IQ_STAT n) 0 = false →
      (96 ≤ target.toNat ∨ 2 ≤ (s.dir (96 * n.val + target.toNat)).st →
        ∃ t q, exec (.iqRequest n target op) s = .next t ∧ (t.ring n).iqWait = some q ∧ q.target = target.toNat ∧ q.op = op.toNat ∧
          q.addr = s.getR (Reg.RINGn_IQ_ADDR n) ∧ q.data = s.getR (Reg.RINGn_IQ_WDATA n) ∧ q.host = true ∧ t.getR (Reg.RINGn_IQ_STAT n) = 1) ∧
      (target.toNat < 96 → (s.dir (96 * n.val + target.toNat)).st < 2 →
        ∃ t, exec (.iqRequest n target op) s = .next t ∧ t.getR (Reg.RINGn_IQ_STAT n) = 0x402 ∧ (t.ring n).iqWait = (s.ring n).iqWait ∧
          t.getB (Hdr.IRQ_RAW (Pg.RINGn n)) 2 = true)) ∧
    (op = 0 ∨ op = 3 ∨ s.getB (Reg.RINGn_IQ_STAT n) 0 = true → exec (.iqRequest n target op) s = .next (s.refuse (Pg.RINGn n))) ∧
    (s.getB (Reg.RINGn_IQ_STAT n) 0 = true →
      ∃ t, exec (.iqAbort n) s = .next t ∧ t.getR (Reg.RINGn_IQ_STAT n) = 0 ∧ (t.ring n).iqWait = none) ∧
    (∃ t, exec (.ringClear n) s = .next t ∧
      (∀ a ∈ [Reg.RINGn_RX_OK_CNT n, Reg.RINGn_CRC32_ERR_CNT n, Reg.RINGn_HCRC_ERR_CNT n, Reg.RINGn_SLOT_ERR_CNT n, Reg.RINGn_SPLIT_CNT n,
        Reg.RINGn_RET_LATE_CNT n, Reg.RINGn_RET_MAX n], t.getR a = 0) ∧
      s.onlyRegs [Reg.RINGn_RX_OK_CNT n, Reg.RINGn_CRC32_ERR_CNT n, Reg.RINGn_HCRC_ERR_CNT n, Reg.RINGn_SLOT_ERR_CNT n, Reg.RINGn_SPLIT_CNT n,
        Reg.RINGn_RET_LATE_CNT n, Reg.RINGn_RET_MAX n] t)

/-- R271, R289: the directory's commands, through CELL_SEL. ADMIT takes a FOUND cell to READY and sends it its generation; RETIRE leaves it
ABSENT with the next generation; BYPASS and UNBYPASS set the bit of the entry they act on; and a cell too long unheard is LOST. -/
def directoryCommandsTakeEffect : Prop :=
  ∀ s : State,
    (∀ i, s.HostReady Pg.CELLS → s.Selected Reg.CELLS_CELL_SEL 4 i → s.logq = [] →
      ((s.dir i).st = 2 → ∃ t, exec .cellAdmit s = .next t ∧ (t.dir i).st = 3 ∧ (t.dir i).gen = (s.dir i).gen ∧
        ∃ q, (t.ring (i / 96)).own = (s.ring (i / 96)).own ++ [q] ∧ q.target = i % 96 ∧ q.op = 2 ∧ q.addr = w32 Reg.CELL_ADMIT_GEN ∧
          q.data = w32 (s.dir i).gen) ∧
      ((s.dir i).st ≠ 2 → exec .cellAdmit s = .next (s.refuse Pg.CELLS)) ∧
      (∃ t, exec .cellRetire s = .next t ∧ (t.dir i).st = 1 ∧ (t.dir i).gen = ((s.dir i).gen + 1) % 256 ∧
        t.getB (Hdr.IRQ_RAW Pg.CELLS) 2 = true ∧ ∀ k, k ≠ i → t.dir k = s.dir k) ∧
      exec .cellBypass s = .next (s.modDir (s.bypassTarget i) (fun e => { e with bypassed := true })) ∧
      exec .cellUnbypass s = .next (s.modDir (s.bypassTarget i) (fun e => { e with bypassed := false }))) ∧
    (∀ c : Fin 768, s.pw.mode ≠ .dormant → 2 ≤ (s.dir c).st → (s.dir c).st ≤ 4 → s.getF Reg.CELLS_STALE_AGE 0 8 < (s.dir c).age →
      ∃ t, exec (.cellLost c) s = .next t ∧ (t.dir c).st = 5 ∧ t.getB (Hdr.IRQ_RAW Pg.CELLS) 1 = true ∧
        (s.getR Reg.CELLS_LOST_CNT ≠ 0xFFFFFFFF → t.getR Reg.CELLS_LOST_CNT = s.getR Reg.CELLS_LOST_CNT + 1))

/-- R282, R287, R291–R293, R296: the Cell's own commands. The digest is good when it equals the announced one, which is not 0; the bypass is
asserted BYP_DELAY after the gates are off, its failure to close within BYP_TIMEOUT latches FAULT 0x80, and its opening while asserted 0x81; a
cell too old enters SAFE; and a fraction is staged on both outputs before the transfer point. -/
def Obligations.CellCommandsTakeEffect : Prop :=
  ∀ s : State, s.pw.role = .cell → s.pw.mode ≠ .dormant →
    (let ann := BitVec.ofNat 256 (leNat ((List.range 8).flatMap (fun k => leBytes 4 (s.getR (Reg.CELL_DIGEST_ANN k)).toNat)))
     ∃ t, exec .digestEvaluate s = .next t ∧ t.cell.digestOk = (decide (s.lsetDigest = ann) && decide (ann ≠ 0)) ∧
       (t.cell.digestOk ≠ s.cell.digestOk → t.getB (Hdr.IRQ_RAW Pg.CELL) 3 = true)) ∧
    (s.cell.bypWait = true → s.gatesOff = true →
      ∃ t, exec .bypassAssert s = .next t ∧ t.cell.bypOn = true ∧ t.cell.bypWait = false ∧ t.cell.bypAt = t.clk.tick ∧
        s.cell.gateTick + s.getF Reg.CELL_BYP_CFG 8 8 * 1600 ≤ t.clk.tick ∧ t.getB (Hdr.IRQ_RAW Pg.CELL) 2 = true) ∧
    (s.cell.bypOn = true → s.cell.bypClosed = false → s.cell.bypLate = false → s.getF Reg.CELL_FAULT_CODE 0 8 = 0 →
      ∃ t, exec .bypassTimeout s = .next t ∧ t.cell.bypLate = true ∧ t.getR Reg.CELL_FAULT_CODE = 0x80 ∧
        s.cell.bypAt + s.getF Reg.CELL_BYP_CFG 16 16 * 1600000 ≤ t.clk.tick) ∧
    (∀ level : Bool, (level != s.getB Reg.CELL_BYP_CFG 1) ≠ s.cell.bypClosed →
      ∃ t, exec (.bypassFeedback level) s = .next t ∧ t.cell.bypClosed = (level != s.getB Reg.CELL_BYP_CFG 1) ∧
        t.getB (Hdr.IRQ_RAW Pg.CELL) 2 = true ∧
        (s.cell.bypOn = true → s.cell.bypClosed = true → s.getF Reg.CELL_FAULT_CODE 0 8 = 0 → t.getR Reg.CELL_FAULT_CODE = 0x81)) ∧
    (s.pw.mode = .armed ∨ s.pw.mode = .run → s.getF Reg.CELL_SAFE_AGE 0 8 ≤ s.cell.c →
      ∃ t, exec .safeAgeReached s = .next t ∧ t.pw.mode = .safe ∧ t.getB Reg.PWR_SAFE_CAUSE 8 = true ∧
        (s.getF Reg.CELL_FAULT_CODE 0 8 = 0 → t.getR Reg.CELL_FAULT_CODE = 0x82)) ∧
    (∀ g : Fin 4, s.cell.phasor = true → s.cell.coastBlock = false → s.srcOn g = true → (s.gen g).running = true →
      ∃ t, exec (.phasorStage g) s = .next t ∧ t.getR (Reg.PWMn_STG_A g) = t.getR (Reg.PWMn_STG_B g) ∧ (t.gen g).stg = true ∧
        t.getB (Hdr.SHADOW_CTRL (Pg.PWMn g)) 8 = true) ∧
    (s.HostReady Pg.CELL → s.logq = [] →
      (s.pw.mode = .safe ∨ s.pw.mode = .configure → s.faultCausePresent = false →
        ∃ t, exec .cellFaultClr s = .next t ∧ t.getR Reg.CELL_FAULT_CODE = 0 ∧ t.getR Reg.CELL_LPROT_STAT = 0) ∧
      (s.pw.mode = .run ∨ s.faultCausePresent = true → exec .cellFaultClr s = .next (s.refuse Pg.CELL)) ∧
      exec .bypClr s = .next { s with cell.autoHeld := false } ∧
      (∃ t, exec .cellClear s = .next t ∧ (∀ k, k < 6 → t.getR (Reg.CELL_COAST_CNT + 4 * k) = 0) ∧
        s.onlyRegs ((List.range 6).map (fun k => Reg.CELL_COAST_CNT + 4 * k)) t))

/-! ## Metering and power quality -/

/-- R298: 256 cycles of its clock without a change mark an enabled channel stuck, now and ever, counted the first time and shown in its point's
status; its next transition ends the present mark and leaves the other channels'. -/
def stuckChannelsAreMarked : Prop :=
  ∀ (s : State) (ch : Fin 24), s.logq = [] → s.pw.mode ≠ .dormant →
    let p := s.mdatPoint ch
    (s.mdatEn ch = true →
      ∃ t, exec (.stuckDetect ch) s = .next t ∧ t.getB Reg.METC_STUCK_NOW ch = true ∧ t.getB Reg.METC_STUCK_SEEN ch = true ∧
        (s.getB Reg.METC_STUCK_SEEN ch = false → t.getB (Hdr.IRQ_RAW Pg.METC) 0 = true ∧
          (s.getR Reg.METC_STUCK_CNT ≠ 0xFFFFFFFF → t.getR Reg.METC_STUCK_CNT = s.getR Reg.METC_STUCK_CNT + 1)) ∧
        (s.getB Reg.METC_STUCK_SEEN ch = true → t.getR Reg.METC_STUCK_CNT = s.getR Reg.METC_STUCK_CNT) ∧
        (s.idle (Pg.METn p) = false → t.getB (Reg.METn_STAT p) 2 = true) ∧
        s.Keeps [Reg.METC_STUCK_NOW, Reg.METC_STUCK_SEEN, Reg.METC_STUCK_CNT, Hdr.IRQ_RAW Pg.METC, Hdr.IRQ_RAW (Pg.METn p), Reg.METn_STAT p] t) ∧
    (s.mdatEn ch = false → exec (.stuckDetect ch) s = .next s) ∧
    (∃ t, exec (.stuckClear ch) s = .next t ∧ t.getB Reg.METC_STUCK_NOW ch = false ∧
      (∀ c : Fin 24, c ≠ ch → t.getB Reg.METC_STUCK_NOW c = s.getB Reg.METC_STUCK_NOW c) ∧
      s.onlyRegs [Reg.METC_STUCK_NOW, Reg.METn_STAT p] t)

/-- R304, R309–R312, R315: points. The end of a tracked cycle counts it, stamps the measurements with its number, adds to import or to export
but never to both, and writes nothing outside its point's page but the log; a large sample of the high channel takes its pair to the high
range; and E_CMD clears or loads the accumulators in CONFIGURE only, clearing with its key only. -/
def pointsMeasureAndAccumulate : Prop :=
  ∀ (s : State) (p : Fin 3), s.logq = [] →
    (∀ c : CycleIn, s.metOn p = true →
      ∃ t, exec (.cycleEnd p c) s = .next t ∧ t.getR (Reg.METn_CYCLE_CNT p) = s.getR (Reg.METn_CYCLE_CNT p) + 1 ∧
        t.getR (Reg.METn_MEAS_CYC p) = s.getR (Reg.METn_CYCLE_CNT p) + 1 ∧ t.getR (Reg.METn_E_CYC p) = s.getR (Reg.METn_CYCLE_CNT p) + 1 ∧
        (0 < qW (t.getR (Reg.METn_P p 3)) → t.getR (Reg.METn_FAST p 1) = s.getR (Reg.METn_FAST p 1) ∧
          t.getR (Reg.METn_EIMP_LO p + 8) = s.getR (Reg.METn_EIMP_LO p + 8) ∧ t.getR (Reg.METn_EIMP_LO p + 12) = s.getR (Reg.METn_EIMP_LO p + 12)) ∧
        (qW (t.getR (Reg.METn_P p 3)) < 0 → t.getR (Reg.METn_FAST p 0) = s.getR (Reg.METn_FAST p 0) ∧
          t.getR (Reg.METn_EIMP_LO p) = s.getR (Reg.METn_EIMP_LO p) ∧ t.getR (Reg.METn_EIMP_LO p + 4) = s.getR (Reg.METn_EIMP_LO p + 4)) ∧
        (∀ a, a / 4096 ≠ Pg.METn p → a ∉ logRegs → t.getR a = s.getR a) ∧ (∀ a, s.inVolRing a = false → t.memB a = s.memB a) ∧
        t.sump = s.sump) ∧
    (∀ (c : CycleIn), s.metOn p = false → exec (.cycleEnd p c) s = .next s) ∧
    (∀ (q : Fin 2) (pair : Fin 4) (x : Word) (first : Bool),
      let big := decide (8 * qW (s.getR (Reg.METn_I_RATIO q (2 * pair.val + 1))) < 10 * ((qW x).natAbs : Int))
      (s.metOn q = true → s.autoRange q pair = true → s.inLow q pair = true → big = true →
        ∃ t, exec (.rangeSwitchHigh q pair x first) s = .next t ∧ t.inLow q pair = false ∧
          s.Keeps [Reg.METn_STAT q, Reg.METn_RANGE_SW_CNT q, Hdr.EVENT_CNT (Pg.METn q)] t ∧
          (first = false → s.getR (Reg.METn_RANGE_SW_CNT q) ≠ 0xFFFFFFFF →
            t.getR (Reg.METn_RANGE_SW_CNT q) = s.getR (Reg.METn_RANGE_SW_CNT q) + 1)) ∧
      (s.metOn q = false ∨ s.autoRange q pair = false ∨ s.inLow q pair = false ∨ big = false →
        exec (.rangeSwitchHigh q pair x first) s = .next s)) ∧
    (s.HostReady (Pg.METn p) →
      (s.pw.mode = .configure →
        (∃ t, exec (.energyClr p 0xE5) s = .next t ∧ (∀ k, k < 18 → t.getR (Reg.METn_EIMP_LO p + 4 * k) = 0) ∧
          (∀ q, q < 9 → t.getR (Reg.METn_FAST p q) = 0) ∧ (t.met p).frac = List.replicate 9 0) ∧
        (∃ t, exec (.energyLoad p) s = .next t ∧
          (∀ k, k < 18 → t.getR (Reg.METn_EIMP_LO p + 4 * k) = s.sramW (s.getF (Reg.METn_E_LOAD_SRC p) 0 18 + k)) ∧
          (∀ q, q < 9 → t.getR (Reg.METn_FAST p q) = s.sramW (s.getF (Reg.METn_E_LOAD_SRC p) 0 18 + 2 * q)) ∧
          (t.met p).frac = List.replicate 9 0) ∧
        (∀ key, key ≠ 0xE5 → exec (.energyClr p key) s = .next (s.refuse (Pg.METn p)))) ∧
      (s.pw.mode ≠ .configure →
        (∀ key, exec (.energyClr p key) s = .next (s.refuse (Pg.METn p))) ∧ exec (.energyLoad p) s = .next (s.refuse (Pg.METn p))))

/-- R316–R318: the end of a W-cycle window writes the harmonic buffer, its sequence word up by 2, and nothing else of memory; a synchrophasor
report writes its estimate with its instant and the servo's state. -/
def harmonicsAndPhasorsAreReported : Prop :=
  ∀ (s : State) (p : Fin 3), s.logq = [] → s.metOn p = true →
    (∀ (start : BitVec 64) (freq : Word) (bins : List (List Word)),
      s.getB (Reg.METn_CFG p) 5 = true → s.harmOff p = false → s.metW p ≤ (s.met p).winCycles →
      let base := s.getF (Reg.METn_HARM_BASE p) 0 18
      ∃ t, exec (.harmonicWindow p start freq bins) s = .next t ∧ t.sramW base = s.sramW base + 2 ∧
        t.sramW (base + 1) = w32 (start.toNat % 1000000000) ∧ t.sramW (base + 2) = w32 (start.toNat / 1000000000) ∧
        t.sramW (base + 3) = w32 (s.metW p) ∧ t.getR (Reg.METn_HARM_SEQ p) = s.getR (Reg.METn_HARM_SEQ p) + 1 ∧
        t.getB (Hdr.IRQ_RAW (Pg.METn p)) 0 = true ∧
        (∀ a, a ∉ [Reg.METn_HARM_SEQ p, Hdr.IRQ_RAW (Pg.METn p)] → t.getR a = s.getR a) ∧
        (∀ a, a < sramBase + 4 * base ∨ sramBase + 4 * (base + 1040) ≤ a → t.memB a = s.memB a)) ∧
    (∀ (n : BitVec 7) (e : PhasorIn), n.toNat < s.getF (Reg.METn_PH_RATE p) 0 8 →
      ∃ t, exec (.phasorReport p n e) s = .next t ∧
        t.getR (Reg.METn_PH_NS p) = w32 (reportNs n.toNat (s.getF (Reg.METn_PH_RATE p) 0 8)) ∧ t.getR (Reg.METn_PH_FREQ p) = e.freq ∧
        (∀ k, k < 4 → t.getR (Reg.METn_PH_VMAG p k) = e.vmag.getD k 0 ∧ t.getR (Reg.METn_PH_VANG p k) = e.vang.getD k 0 ∧
          t.getR (Reg.METn_PH_IMAG p k) = e.imag.getD k 0 ∧ t.getR (Reg.METn_PH_IANG p k) = e.iang.getD k 0) ∧
        t.getB (Reg.METn_STAT p) 4 = s.getB Reg.TIME_SERVO_STAT 8 ∧ t.getB (Hdr.IRQ_RAW (Pg.METn p)) 1 = true ∧
        (∀ a, a / 4096 ≠ Pg.METn p → t.getR a = s.getR a) ∧ t.mem = s.mem)

/-- R319–R322: a refresh with one voltage below SAG_TH begins a dip, and one with all three at SAG_TH plus HYST or above ends it and counts it;
an aggregate takes and clears the window's flag; ten seconds give FREQ10; and EV_RD may not pass EV_WR. -/
def Obligations.PowerQualityEventsAreKept : Prop :=
  ∀ s : State, s.logq = [] →
    (s.pqOn = true →
      (∀ (now : BitVec 64) (u0 u1 u2 : Word),
        ∃ t, exec (.pqRefresh now u0 u1 u2) s = .next t ∧
          (let u (k : Nat) : Int := qW (t.getR (Reg.PQ_URMS_H k))
           let sag := qW (s.getR Reg.PQ_SAG_TH)
           let back := sag + qW (s.getR Reg.PQ_HYST)
           (s.pq.dip = none → (∃ k, k < 3 ∧ u k < sag) →
             (∃ e, t.pq.dip = some e ∧ e.start = now.toNat) ∧ t.getB (Hdr.IRQ_RAW Pg.PQ) 1 = true) ∧
           (s.pq.dip = none → (∀ k, k < 3 → sag ≤ u k) → t.pq.dip = none) ∧
           (∀ e, s.pq.dip = some e → (∀ k, k < 3 → back ≤ u k) →
             t.pq.dip = none ∧ (s.getR Reg.PQ_DIP_CNT ≠ 0xFFFFFFFF → t.getR Reg.PQ_DIP_CNT = s.getR Reg.PQ_DIP_CNT + 1)) ∧
           (∀ e, s.pq.dip = some e → (∃ k, k < 3 ∧ u k < back) → ∃ e', t.pq.dip = some e' ∧ e'.start = e.start)) ∧
          (∀ a, a / 4096 ≠ Pg.PQ → a ∉ logRegs → t.getR a = s.getR a)) ∧
      (∀ u0 u1 u2 : Word,
        ∃ t, exec (.pqAggregate u0 u1 u2) s = .next t ∧ t.getR Reg.PQ_AGG_FLAG = w32 (b2n s.pq.flag) ∧
          t.getR Reg.PQ_AGG_CNT = s.getR Reg.PQ_AGG_CNT + 1 ∧ t.getB (Hdr.IRQ_RAW Pg.PQ) 3 = true ∧
          t.pq.flag = (s.pq.dip.isSome || s.pq.swell.isSome || s.pq.intr.isSome)) ∧
      (∃ t, exec .pqFreq10 s = .next t ∧ t.pq.count10 = 0 ∧ t.pq.len10 = 0 ∧ s.Keeps [Reg.PQ_FREQ10] t)) ∧
    (s.HostReady Pg.PQ →
      let rd := s.getF Reg.PQ_EV_RD 0 8
      let held := (s.getF Reg.PQ_EV_WR 0 8 + 256 - rd) % 256
      ∀ d : Word,
        ((fld d 0 8 + 256 - rd) % 256 ≤ held → held ≤ 16 + (fld d 0 8 + 256 - rd) % 256 →
          ∃ t, exec (.evRdWrite d) s = .next t ∧ t.getF Reg.PQ_EV_RD 0 8 = fld d 0 8 ∧ s.onlyRegs [Reg.PQ_EV_RD] t) ∧
        (held < (fld d 0 8 + 256 - rd) % 256 ∨ 16 + (fld d 0 8 + 256 - rd) % 256 < held → exec (.evRdWrite d) s = .next (s.refuse Pg.PQ)))

/-! ## The Guard -/

/-- The first function recorded in `s` fired on the Guard tick of `t` and has a higher code than `f` (R337). -/
def firstOfTick (s t : State) (f : Nat) : Prop :=
  s.getR Reg.GRD_FIRST_NS = w32 t.ns ∧ s.getR Reg.GRD_FIRST_SEC_LO = w32 t.sec ∧ f < s.getF Reg.GRD_FIRST_FN 0 5

/-- From `s` to `t` the Guard decided on function `f` and on no other (R337): latched and active, its GTRIP outputs released (those of an
ESTOP wait), the block line asserted, the first record kept or taken, the decision counted, and SAFE entered with cause 0. -/
def guardTripped (s t : State) (f point : Nat) : Prop :=
  t.getR Reg.GRD_TRIP_LATCH = s.getR Reg.GRD_TRIP_LATCH ||| w32 (2 ^ f) ∧
  t.getR Reg.GRD_TRIP_ACTIVE = s.getR Reg.GRD_TRIP_ACTIVE ||| w32 (2 ^ f) ∧
  t.grd.released = s.grd.released ||| (if f = 21 then 0 else BitVec.ofNat 4 (s.fnMask f)) ∧ t.gblock = true ∧ t.gwdo = false ∧
  t.getB (Hdr.IRQ_RAW Pg.GRD) 0 = true ∧
  (s.getB Reg.GRD_FIRST_FN 15 = false ∨ firstOfTick s t f → t.getR Reg.GRD_FIRST_FN = w32 (f + point * 256 + 0x8000) ∧ t.getR Reg.GRD_FIRST_NS = w32 t.ns ∧
    t.getR Reg.GRD_FIRST_SEC_LO = w32 t.sec) ∧
  (s.getB Reg.GRD_FIRST_FN 15 = true → ¬ firstOfTick s t f → t.getR Reg.GRD_FIRST_FN = s.getR Reg.GRD_FIRST_FN) ∧
  (s.getR Reg.GRD_TRIP_CNT ≠ 0xFFFFFFFF → t.getR Reg.GRD_TRIP_CNT = s.getR Reg.GRD_TRIP_CNT + 1) ∧
  (s.pw.mode ≠ .dormant → t.pw.mode = .safe ∧ t.getB Reg.PWR_SAFE_CAUSE 0 = true)

/-- R330, R332–R337: the Guard's functions. A curve's point, a request held for its delay, a heartbeat lost, a measurement lost and an output
that does not follow its command are decided on where the mode reported arms them; elsewhere nothing happens. -/
def Obligations.GuardFunctionsDecide : Prop :=
  ∀ s : State, s.logq = [] → s.grd.inReset = false →
    (∀ (st : Fin 16) (pt : Fin 8),
      (s.pointLive st pt = true → fnArmed st s.grd.modeRep = true →
        ∃ t, exec (.gcurvePointFire st pt) s = .next t ∧ guardTripped s t st pt ∧ t.getB (Reg.GCURVE_STG_STAT st) pt = true ∧
          t.getB (Reg.GCURVE_STG_STAT st) (8 + pt.val) = true ∧ t.getB (Hdr.IRQ_RAW Pg.GCURVE) 0 = true) ∧
      (s.pointLive st pt = false ∨ fnArmed st s.grd.modeRep = false → exec (.gcurvePointFire st pt) s = .next s)) ∧
    (∀ r : Fin 3,
      (s.guardOk = true → s.guardReq r = true → fnArmed (16 + r.val) s.grd.modeRep = true →
        ∃ t, exec (.guardRequestFire r) s = .next t ∧ guardTripped s t (16 + r.val) 0 ∧
          ∀ t0, s.guardReqSince r = some t0 → t0 + fld (s.profW (0x80 + 4 * r.val)) 0 8 * tickMs ≤ t.clk.tick) ∧
      (s.guardOk = false ∨ s.guardReq r = false → exec (.guardRequestFire r) s = .next s)) ∧
    (s.guardOk = true → s.pw.role ≠ .cell → bit (s.profW 0x8C) 16 = true → fnArmed 19 s.grd.modeRep = true →
      ∃ t, exec .heartbeatTimeout s = .next t ∧ guardTripped s t 19 0 ∧ t.getB (Hdr.IRQ_RAW Pg.GRD) 2 = true) ∧
    (∀ c : Fin 4, s.guardOk = true → s.getB (Reg.METC_MDAT_CFG 0) (8 * c.val) = true → fnArmed 20 s.grd.modeRep = true →
      ∃ t, exec (.guardMeasLost c) s = .next t ∧ guardTripped s t 20 0) ∧
    (∀ b : Fin 4,
      (s.guardOk = true → bit (s.profW 0x98) (8 + b.val) = true → s.grd.stuckBalls.getLsbD b = false →
        ∃ t, exec (.gtripReadbackFault b) s = .next t ∧ guardTripped s t 25 0 ∧ t.getB (Hdr.IRQ_RAW Pg.GRD) 1 = true ∧
          (s.getR Reg.GRD_GTRIP_FLT_CNT ≠ 0xFFFFFFFF → t.getR Reg.GRD_GTRIP_FLT_CNT = s.getR Reg.GRD_GTRIP_FLT_CNT + 1)) ∧
      (s.guardOk = false ∨ bit (s.profW 0x98) (8 + b.val) = false ∨ s.grd.stuckBalls.getLsbD b = true →
        exec (.gtripReadbackFault b) s = .next s))

/-- R338: TRIP_RESET with its key, in SAFE or CONFIGURE with no cause active and no safety fault, clears the latches and commands the outputs
closed; anything else is refused. It reaches a Guard that runs. -/
def tripResetClearsTheLatches : Prop :=
  ∀ (s : State) (key : BitVec 8), s.logq = [] →
    (s.grd.inReset = true → exec (.tripReset key) s = .next s) ∧
    (s.grd.inReset = false → s.HostReady Pg.GRD →
      let may := key = 0x47 ∧ (s.pw.mode = .safe ∨ s.pw.mode = .configure) ∧ s.getR Reg.GRD_TRIP_ACTIVE = 0 ∧ s.getR Reg.GSAFE_FAULT = 0
      (may →
        ∃ t, exec (.tripReset key) s = .next t ∧ t.getR Reg.GRD_TRIP_LATCH = 0 ∧ t.getR Reg.GRD_FIRST_FN = 0 ∧ t.grd.released = 0 ∧
          t.grd.estop = none ∧ t.gblock = (!s.guardOk || decide (s.grd.session = 3)) ∧ t.pw = s.pw ∧
          s.Keeps (Reg.GRD_TRIP_LATCH :: Reg.GRD_FIRST_FN :: (List.range 16).map Reg.GCURVE_STG_STAT) t) ∧
      (¬ may → exec (.tripReset key) s = .next (s.refuse Pg.GRD)))

/-- R344: a readback of GTP0 or GTP1 that differs from its command sets GSAFE.FAULT.TP and fires function 24. -/
def Obligations.TestPulseReadbackFires24 : Prop :=
  ∀ s : State, s.guardOk = true → s.pw.role ≠ .cell →
    ∃ t, exec .tpReadbackFault s = .next t ∧ t.getB Reg.GSAFE_FAULT 24 = true ∧ guardTripped s t 24 0

/-- R341–R344: the safety inputs. A change outside the blind window is taken; an enabled input that ceases to be healthy is a demand, whose
ESTOP releases its outputs after ESTOP_DELAY; a channel high in its source's pulse, channels that differ too long and a test-pulse readback
that disagrees are faults of function 24, which FAULT_CLR clears only once they are proved gone. -/
def safetyInputsDemandAndFault : Prop :=
  ∀ s : State, s.logq = [] → s.grd.inReset = false →
    (∀ gtp level : Bool, s.guardOk = true → s.pw.role ≠ .cell → bit (s.profW 0x2E0) 3 = true →
      ∃ t, exec (.testPulse gtp level) s = .next t ∧ t.pulseLow gtp = (!level) ∧ t.pulseLow (!gtp) = s.pulseLow (!gtp) ∧
        t.grd.tpBad = false ∧ t.regs = s.regs ∧ t.mem = s.mem) ∧
    (s.guardOk = true → s.pw.role ≠ .cell →
      ∃ t, exec .tpReadbackFault s = .next t ∧ guardTripped s t 24 0 ∧ t.getB Reg.GSAFE_FAULT 24 = true ∧ t.grd.tpBad = true) ∧
    (∀ (i : Fin 3) (chB closed : Bool), s.pw.role ≠ .cell →
      let lev := (if chB then 16 else 8) + i.val
      (closed = true → s.pulseLow chB = true →
        (s.safetyEn i = true →
          ∃ t, exec (.safetyInputChange i chB closed) s = .next t ∧ guardTripped s t 24 0 ∧ t.getB Reg.GSAFE_FAULT lev = true ∧
            t.getB (Hdr.IRQ_RAW Pg.GSAFE) 1 = true) ∧
        (s.safetyEn i = false → exec (.safetyInputChange i chB closed) s = .next s)) ∧
      (closed = false ∨ s.pulseLow chB = false →
        (s.pulseWindow chB = true → exec (.safetyInputChange i chB closed) s = .next s) ∧
        (s.pulseWindow chB = false →
          ∃ t, exec (.safetyInputChange i chB closed) s = .next t ∧ t.getB Reg.GSAFE_STAT lev = closed ∧
            (s.safetyEn i = true → s.inputHealthy i = true → closed = false →
              (s.getR Reg.GSAFE_DEMAND_CNT ≠ 0xFFFFFFFF → t.getR Reg.GSAFE_DEMAND_CNT = s.getR Reg.GSAFE_DEMAND_CNT + 1) ∧
              (fnArmed (21 + i.val) s.grd.modeRep = true → guardTripped s t (21 + i.val) 0 ∧
                (i.val = 0 → t.grd.estop = some t.clk.tick))) ∧
            (s.safetyEn i = false ∨ s.inputHealthy i = false ∨ closed = true →
              t.pw = s.pw ∧ t.getR Reg.GRD_TRIP_LATCH = s.getR Reg.GRD_TRIP_LATCH)))) ∧
    (∀ t0, s.grd.estop = some t0 →
      ∃ t, exec .estopDelayExpire s = .next t ∧ t.grd.estop = none ∧ t.grd.released = s.grd.released ||| BitVec.ofNat 4 (s.fnMask 21) ∧
        t0 + fld (s.profW 0x2E8) 0 4 * tickMs ≤ t.clk.tick) ∧
    (∀ i : Fin 3, s.safetyEn i = true →
      s.getB Reg.GSAFE_STAT (8 + i.val) ≠ s.getB Reg.GSAFE_STAT (16 + i.val) →
      ∃ t, exec (.discrepancy i) s = .next t ∧ guardTripped s t 24 0 ∧ t.getB Reg.GSAFE_FAULT i = true ∧
        (s.getR Reg.GSAFE_FAULT_CNT ≠ 0xFFFFFFFF → t.getR Reg.GSAFE_FAULT_CNT = s.getR Reg.GSAFE_FAULT_CNT + 1)) ∧
    (∀ d : Word, s.HostReady Pg.GSAFE →
      (s.faultClrOk d = true →
        ∃ t, exec (.safetyFaultClr d) s = .next t ∧
          t.getR Reg.GSAFE_FAULT = s.getR Reg.GSAFE_FAULT &&& ~~~((d &&& 7) * 0x10101 ||| (d &&& 0x1000000)) ∧
          (t.getR Reg.GSAFE_FAULT = 0 → t.getB Reg.GRD_TRIP_ACTIVE 24 = false) ∧ s.onlyRegs [Reg.GSAFE_FAULT, Reg.GRD_TRIP_ACTIVE] t) ∧
      (s.faultClrOk d = false → exec (.safetyFaultClr d) s = .next (s.refuse Pg.GSAFE)))

/-- From `s` to `t` a seal command was refused with `code`: REFUSE says why, the nonce is renewed, and session and slots are as before (R348,
R355). -/
def sealRefused (s t : State) (code : Nat) : Prop :=
  t.getR Reg.GSEAL_REFUSE = w32 code ∧ t.grd = { s.grd with nonceIx := s.grd.nonceIx + 1 } ∧ t.getB (Hdr.IRQ_RAW Pg.GSEAL) 2 = true ∧
    t.kp.nv = s.kp.nv

/-- R348, R349, R355: seal sessions. Each command needs its key; a change opens in CONFIGURE with a free slot and the right authorisation, a
restore with the active digest; BURN writes digest and time into the next free slot with the block line asserted; ABORT and the 600 s close
the session. -/
def sealSessionsOpenAndClose : Prop :=
  ∀ s : State, s.logq = [] →
    (s.HostReady Pg.GSEAL → s.pw.role ≠ .cell → s.grd.inReset = false →
      (∀ key : BitVec 8, key ≠ 0x5E → ∀ c ∈ [Instr.openChange key, .openRestore key, .burn key, .sealAbort key],
        ∃ t, exec c s = .next t ∧ sealRefused s t 8) ∧
      (s.grd.session = 0 → s.pw.mode = .configure → s.getR Reg.GSEAL_AUTH_FAIL_CNT < 8 →
        (s.freeSlots 48 ≠ 0 → ((s.activeSlot 48).isSome = true → s.sealNow = fld (s.profW 0x68) 16 16 ∧ s.grd.profileOk = true) →
          (s.authValid true (48 - s.freeSlots 48) = true →
            exec (.openChange 0x5E) s =
              .next { s with grd.session := 1, grd.sessionAt := s.clk.tick, grd.sessionDigest := s.newDigest, grd.staged := false }) ∧
          (s.authValid true (48 - s.freeSlots 48) = false →
            ∃ t, exec (.openChange 0x5E) s = .next t ∧ sealRefused s t 4 ∧
              t.getR Reg.GSEAL_AUTH_FAIL_CNT = s.getR Reg.GSEAL_AUTH_FAIL_CNT + 1)) ∧
        (∀ k, s.activeSlot 48 = some k → s.newDigest = (s.slot k).digest →
          (s.authValid false k = true →
            exec (.openRestore 0x5E) s =
              .next { s with grd.session := 2, grd.sessionAt := s.clk.tick, grd.sessionDigest := s.newDigest, grd.staged := false }) ∧
          (s.authValid false k = false →
            ∃ t, exec (.openRestore 0x5E) s = .next t ∧ sealRefused s t 4 ∧
              t.getR Reg.GSEAL_AUTH_FAIL_CNT = s.getR Reg.GSEAL_AUTH_FAIL_CNT + 1)) ∧
        (s.activeSlot 48 = none → ∃ t, exec (.openRestore 0x5E) s = .next t ∧ sealRefused s t 9)) ∧
      (s.grd.session = 0 → s.pw.mode ≠ .configure →
        (∃ t, exec (.openChange 0x5E) s = .next t ∧ sealRefused s t 1) ∧ ∃ t, exec (.openRestore 0x5E) s = .next t ∧ sealRefused s t 1) ∧
      (s.grd.session = 1 → s.grd.staged = true → s.kp.headerOk = true → s.kp.vkeepOk = true →
        digestBV (sha256 (s.nvBytes 0x600 0x4F0)) = s.grd.sessionDigest → s.sealNow = fld (s.nvW 0x668) 0 16 →
        ∃ t, exec (.burn 0x5E) s = .next t ∧ t.grd.session = 3 ∧ t.gblock = true ∧
          t.slot (48 - s.freeSlots 48) = ⟨false, s.grd.sessionDigest, w32 s.sec⟩ ∧ t.regs = s.regs ∧ t.kp = s.kp) ∧
      (s.grd.session ≠ 1 ∨ s.grd.staged = false → ∃ t, exec (.burn 0x5E) s = .next t ∧ sealRefused s t 5) ∧
      (s.grd.session = 1 ∨ s.grd.session = 2 → exec (.sealAbort 0x5E) s = .next s.sealClose) ∧
      (s.grd.session ≠ 1 → s.grd.session ≠ 2 → ∃ t, exec (.sealAbort 0x5E) s = .next t ∧ sealRefused s t 5)) ∧
    (s.grd.session = 1 ∨ s.grd.session = 2 →
      ∃ t, exec .sealSessionTimeout s = .next t ∧ t.grd.session = 0 ∧ t.grd.nonceIx = s.grd.nonceIx + 1 ∧ t.grd.slots = s.grd.slots ∧
        s.grd.sessionAt + 600 * tickS ≤ t.clk.tick ∧ t.regs = s.regs)

/-- R347, R349: the end of a burn makes the staged profile the active one once its slot has its fuse and verifies, and spoils the slot
otherwise; a change of the seal switches is counted and logged, at the next BOOT where the control domain is off. -/
def burnsAndSealSwitchesAreKept : Prop :=
  ∀ s : State, s.logq = [] →
    (s.grd.session = 3 →
      let k := 48 - s.freeSlots 48 - 1
      (∃ t, exec (.burnDone true) s = .next t ∧ t.grd.session = 0 ∧ t.slot k = { s.slot k with fuse := true } ∧
        t.nvBytes 0x100 0x4F0 = s.nvBytes 0x600 0x4F0 ∧ t.getB (Hdr.IRQ_RAW Pg.GSEAL) 0 = true) ∧
      (∃ t, exec (.burnDone false) s = .next t ∧ t.grd.session = 0 ∧ t.grd.slots = s.grd.slots ∧ t.kp.nv = s.kp.nv ∧
        t.getR Reg.GSEAL_REFUSE = 11)) ∧
    (∀ v, s.grd.session ≠ 3 → exec (.burnDone v) s = .next s) ∧
    (∀ pat : BitVec 16, s.pw.role ≠ .cell → s.sealNow ≠ pat.toNat →
      ∃ t, exec (.sealSwitchChange pat) s = .next t ∧ t.sealNow = pat.toNat ∧
        (s.getR Reg.GSEAL_SW_CHG_CNT ≠ 0xFFFFFFFF → t.getR Reg.GSEAL_SW_CHG_CNT = s.getR Reg.GSEAL_SW_CHG_CNT + 1) ∧
        (s.pw.mode ≠ .dormant → t.getB (Hdr.IRQ_RAW Pg.GSEAL) 1 = true ∧ t.kp.sealLater = s.kp.sealLater) ∧
        (s.pw.mode = .dormant → ∃ o, t.kp.sealLater = some (o, pat)) ∧
        s.Keeps [Reg.GSEAL_SW_NOW, Reg.GSEAL_SW_CHG_CNT, Hdr.IRQ_RAW Pg.GSEAL] t)

/-- R55, R56: while the Guard is in reset, or below its brown-out threshold, the block line is asserted and every GTRIP output released; a
control domain in CONFIGURE, ARMED or RUN that loses its handshake enters SAFE with cause GUARD_LOST. A reset of the Guard asserts the block line, releases every GTRIP output, loses latches, session and Guard RAM and keeps the
slots; its release verifies the profile against the newest burned slot. -/
def Obligations.GuardResetReleasesEverything : Prop :=
  (∀ s : State, s.grd.inReset = true → s.gblock = true ∧ s.relEff = 0xF) ∧
  (∀ s : State, s.pw.mode = .configure ∨ s.pw.mode = .armed ∨ s.pw.mode = .run →
    ∃ t, exec .guardLost s = .next t ∧ t.pw.mode = .safe ∧ t.getB Reg.PWR_SAFE_CAUSE 5 = true) ∧
  ∀ s : State, s.logq = [] →
    (∃ t, exec .guardReset s = .next t ∧ t.gblock = true ∧ t.relEff = 0xF ∧ t.grd.inReset = true ∧ t.grd.session = 0 ∧ t.grd.ram = [] ∧
      t.grd.slots = s.grd.slots ∧ t.kp = s.kp ∧
      (∀ a, Pg.GRD ≤ a / 4096 → a / 4096 ≤ Pg.GSAFE → 0x40 ≤ a % 4096 → a ≠ Reg.GSEAL_SW_NOW → t.getR a = resetWord a) ∧
      (∀ a, t.memB a = s.memB a) ∧ t.pw = s.pw) ∧
    (s.grd.inReset = true →
      ∃ t, exec .guardResetRelease s = .next t ∧ t.grd.inReset = false ∧ t.pw.guardLost = false ∧
        (t.grd.profileOk = true ↔ ∃ k, s.activeSlot 48 = some k ∧ s.profileDigest = (s.slot k).digest) ∧ s.onlyRegs [Hdr.IRQ_RAW Pg.GRD]
          { t with grd := s.grd, pw := s.pw }) ∧
    (s.grd.inReset = false → exec .guardResetRelease s = .next s)


/-! ## The Keeper and the Cistern -/

/-- R378–R380, R382, R384: a wake takes the measured store, KPG and the Keeper's state follow it, and a pending burst starts only where the
store left after its frames stays above STORE_MEASURE; the charger's stage shows; a cut-off cell keeps only the nonvolatile memory; and the RTC
counts, or takes plant time where that is trusted. -/
def Obligations.KeeperFollowsTheStore : Prop :=
  ∀ s : State, s.logq = [] →
    (∀ (store : BitVec 13) (temp : BitVec 16) (harvest : Word) (vddio : Bool),
      ∃ t, exec (.keeperWake store temp harvest vddio) s = .next t ∧ t.store = store.toNat ∧ t.getR Reg.KEEP_TEMP = w32 temp.toNat ∧
        t.getR Reg.KEEP_HARVEST = harvest ∧ t.kp.vddioSrc = vddio ∧ t.kp.vkeepOk = decide (2000 ≤ store.toNat) ∧
        t.kp.kpg = (if 3600 ≤ store.toNat then true else if store.toNat < 3000 then false else s.kp.kpg) ∧
        (s.kp.st = 0 → t.kp.st = if t.kp.kpg then 1 else 0) ∧ (s.kp.st = 1 → t.kp.st = if store.toNat < 3000 then 2 else 1) ∧
        (s.kp.st = 2 → t.kp.st = if t.kp.kpg then 1 else 2) ∧ (s.kp.st = 3 → t.kp.st = 3) ∧
        (∀ ty, s.kp.burstPend = some ty → s.kp.burstRun = none → s.kp.burstRetry = none →
          let n := s.getF Reg.KEEP_BEACON_CFG 4 4
          let enough := if t.kp.st = 1 then s.getF Reg.KEEP_STORE_MEASURE 0 13 + n * s.dvEst < store.toNat else t.kp.kpg = true
          (enough → t.kp.burstRun = some (ty, n, store.toNat) ∧ t.kp.burstPend = none) ∧
          (¬ enough → t.kp.burstRun = none ∧ t.kp.burstPend = some ty ∧
            (s.kp.burstDenied = false → s.getR Reg.KEEP_DENY_CNT ≠ 0xFFFFFFFF →
              t.getR Reg.KEEP_DENY_CNT = s.getR Reg.KEEP_DENY_CNT + 1))) ∧
        t.kp.nv = s.kp.nv ∧ t.pw = s.pw) ∧
    (∀ g : ChargeStage, (s.kp.cistConn = true →
        ∃ t, exec (.chargerStageChange g) s = .next t ∧ s.onlyRegs [Reg.KEEP_CHG_STAT] t ∧
          t.getR Reg.KEEP_CHG_STAT = (match g with
            | .constantCurrent => 1
            | .constantVoltage => 2
            | .done => 4
            | .cold => 8
            | .trickle => 16)) ∧
      (s.kp.cistConn = false → exec (.chargerStageChange g) s = .next s)) ∧
    (∃ t, exec .cisternCutoff s = .next t ∧ t.kp.cistConn = false ∧ t.kp.rtcValid = false ∧ t.kp.burstPend = none ∧ t.kp.burstRun = none ∧
      t.getB Reg.KEEP_CHG_STAT 5 = true ∧ t.kp.nv = s.kp.nv) ∧
    (s.kp.cistConn = true ∨ s.kp.vddioSrc = true →
      (s.pw.mode ≠ .dormant → s.getB Reg.KEEP_CTRL 1 = true → s.getB Reg.TIME_SERVO_STAT 8 = false →
        ∃ t, exec .rtcSecond s = .next t ∧ t.kp.rtcSec = s.sec ∧ t.kp.rtcValid = true ∧ t.regs = s.regs) ∧
      (s.pw.mode = .dormant ∨ s.getB Reg.KEEP_CTRL 1 = false ∨ s.getB Reg.TIME_SERVO_STAT 8 = true →
        ∃ t, exec .rtcSecond s = .next t ∧ t.kp.rtcSec = (s.kp.rtcSec + 1) % 2 ^ 48 ∧ t.kp.rtcValid = s.kp.rtcValid ∧ t.regs = s.regs)) ∧
    (∃ t, exec .keeperReset s = .next t ∧ t.kp.st = 0 ∧ t.kp.rtcValid = false ∧ t.pw.causePending = s.pw.causePending ||| 16 ∧
      t.regs = s.regs ∧ t.kp.nv = s.kp.nv)

/-- R387, R388: grid-return sensing. With it off nothing is sampled; a sample that is not admitted counts as skipped; RUN counts samples of
the new state together, any sample of the present state clears it, and at CONFIRM the state changes: a return asserts KWAKE and counts, a loss
releases it. -/
def gridReturnIsConfirmed : Prop :=
  ∀ (s : State) (a b : Bool), s.logq = [] →
    let r := grCombine (s.getF Reg.KEEP_GR_CFG 1 2) a b
    let present := s.getB Reg.KEEP_GR_STAT 0
    let run := if s.kp.grCand = r then satInc 4 (s.getF Reg.KEEP_GR_STAT 4 4) else 1
    (s.getB Reg.KEEP_GR_CFG 0 = false → exec (.gridReturnSample a b) s = .next s) ∧
    (s.getB Reg.KEEP_GR_CFG 0 = true → s.measOk = false → exec (.gridReturnSample a b) s = .next (s.incSat Reg.KEEP_SKIP_CNT)) ∧
    (s.getB Reg.KEEP_GR_CFG 0 = true → s.measOk = true →
      (r = present →
        ∃ t, exec (.gridReturnSample a b) s = .next t ∧ t.getF Reg.KEEP_GR_STAT 4 4 = 0 ∧ t.getB Reg.KEEP_GR_STAT 0 = present) ∧
      (r ≠ present → run < s.getF Reg.KEEP_GR_CFG 8 4 →
        ∃ t, exec (.gridReturnSample a b) s = .next t ∧ t.getF Reg.KEEP_GR_STAT 4 4 = run ∧ t.getB Reg.KEEP_GR_STAT 0 = present) ∧
      (r ≠ present → s.getF Reg.KEEP_GR_CFG 8 4 ≤ run →
        ∃ t, exec (.gridReturnSample a b) s = .next t ∧ t.getF Reg.KEEP_GR_STAT 4 4 = 0 ∧ t.getB Reg.KEEP_GR_STAT 0 = r ∧
          t.getB Reg.KEEP_GR_STAT 8 = r ∧ t.getB (Hdr.IRQ_RAW Pg.KEEP) (if r then 1 else 2) = true ∧
          (r = true → s.getR Reg.KEEP_GR_CNT ≠ 0xFFFFFFFF → t.getR Reg.KEEP_GR_CNT = s.getR Reg.KEEP_GR_CNT + 1)))

/-- R381, R383, R389, R391: beacons. A period and a command make a burst pending where the store admits it; a brown-out lets the frame under
way complete and puts the burst off; a burst's end states its frames and their cost; WAKE_CLR and CLEAR clear what they name. -/
def beaconsAreSentWithinTheStore : Prop :=
  ∀ s : State, s.logq = [] →
    (s.getB Reg.KEEP_BEACON_CFG 0 = true → s.txOk = true →
      ∃ t, exec .beaconPeriodExpire s = .next t ∧ t.kp.burstPend = some (max (s.kp.burstPend.getD 0) 1) ∧ t.regs = s.regs) ∧
    (s.getB Reg.KEEP_BEACON_CFG 0 = false ∨ s.txOk = false → exec .beaconPeriodExpire s = .next s) ∧
    (s.HostReady Pg.KEEP →
      (s.txOk = true →
        ∃ t, exec .beaconSend s = .next t ∧ t.kp.burstPend = some (max (s.kp.burstPend.getD 0) 2) ∧ t.regs = s.regs) ∧
      (s.txOk = false → exec .beaconSend s = .next s) ∧
      (∃ t, exec .wakeClr s = .next t ∧ t.getB Reg.KEEP_GR_STAT 8 = false ∧ t.getB Reg.KEEP_GR_STAT 0 = s.getB Reg.KEEP_GR_STAT 0 ∧
        s.onlyRegs [Reg.KEEP_GR_STAT] t) ∧
      (let counts := [Reg.KEEP_BURST_CNT, Reg.KEEP_ABORT_CNT, Reg.KEEP_DENY_CNT, Reg.KEEP_SKIP_CNT, Reg.KEEP_GR_CNT]
       ∃ t, exec .keepClear s = .next t ∧ (∀ a ∈ counts, t.getR a = 0) ∧ s.onlyRegs counts t)) ∧
    (∀ ty n v0, s.kp.burstRun = some (ty, n, v0) →
      let limit := if s.kp.st = 1 then s.getF Reg.KEEP_STORE_BROWN 0 13 else 3000
      (∀ (store : BitVec 13) (frame : Fin 8),
        (store.toNat < limit → s.kp.burstCut = none →
          ∃ t, exec (.burstBrownoutCheck store frame) s = .next t ∧ t.kp.burstCut = some (frame.val + 1) ∧ t.kp.burstRetry = some ty ∧
            t.getB Reg.KEEP_BURST_STAT 8 = true ∧ t.getB Reg.KEEP_BURST_STAT 9 = true ∧ t.getB (Hdr.IRQ_RAW Pg.KEEP) 3 = true) ∧
        (limit ≤ store.toNat → exec (.burstBrownoutCheck store frame) s = .next (s.setR Reg.KEEP_STORE_V (w32 store.toNat)))) ∧
      (∀ store : BitVec 13, n < 16 → v0 < 8192 →
        let sent := min n (s.kp.burstCut.getD n)
        ∃ t, exec (.burstEnd store) s = .next t ∧ t.kp.burstRun = none ∧ t.kp.burstCut = none ∧ t.getF Reg.KEEP_BURST_STAT 0 4 = sent ∧
          t.getF Reg.KEEP_BURST_STAT 16 16 = (v0 - store.toNat + sent - 1) / max 1 sent ∧ t.getB (Hdr.IRQ_RAW Pg.KEEP) 4 = true ∧
          (s.kp.burstCut.isSome = true → t.getR Reg.KEEP_BURST_CNT = s.getR Reg.KEEP_BURST_CNT) ∧
          (s.kp.burstCut = none → s.getR Reg.KEEP_BURST_CNT ≠ 0xFFFFFFFF →
            t.getR Reg.KEEP_BURST_CNT = s.getR Reg.KEEP_BURST_CNT + 1)))

/-! ## Station ports, PTP, GOOSE and sampled values -/

/-- R357, R362, R363: a frame of a bad length or check is counted and dropped; an accepted one that the host receives takes the descriptor at
RX_HEAD, or is dropped and counted where the ring is full. Stated for independent ports (PRP.CFG.MODE 0). -/
def receivedFramesReachTheRing : Prop :=
  ∀ (s : State) (f : RxFrame), s.logq = [] →
    let p := pn f.port
    (s.stnUp f.port = false → exec (.stationFrameReceive f) s = .next s) ∧
    (s.stnUp f.port = true →
      (f.bytes.length + 4 < 64 ∨ s.getF (Reg.STNn_MAX_LEN p) 0 11 < f.bytes.length + 4 →
        ∃ t, exec (.stationFrameReceive f) s = .next t ∧ t.getR (Reg.STNn_RX_FRAMES p) = s.getR (Reg.STNn_RX_FRAMES p) ∧ t.mem = s.mem ∧
          (s.getR (Reg.STNn_LEN_ERR_CNT p) ≠ 0xFFFFFFFF → t.getR (Reg.STNn_LEN_ERR_CNT p) = s.getR (Reg.STNn_LEN_ERR_CNT p) + 1)) ∧
      (f.fcsOk = false →
        ∃ t, exec (.stationFrameReceive f) s = .next t ∧ t.getR (Reg.STNn_RX_FRAMES p) = s.getR (Reg.STNn_RX_FRAMES p) ∧ t.mem = s.mem ∧
          (s.getR (Reg.STNn_FCS_ERR_CNT p) ≠ 0xFFFFFFFF → t.getR (Reg.STNn_FCS_ERR_CNT p) = s.getR (Reg.STNn_FCS_ERR_CNT p) + 1)) ∧
      (64 ≤ f.bytes.length + 4 → f.bytes.length + 4 ≤ s.getF (Reg.STNn_MAX_LEN p) 0 11 → f.fcsOk = true → ethType f.bytes ≠ 0x8808 →
        s.redMode = 0 → s.hostCopy f.bytes = true → s.getF (Reg.STNn_RX_CFG p) 0 4 ≤ 10 →
        let n := s.ringCount (Reg.STNn_RX_CFG p)
        let head := s.getF (Reg.STNn_RX_HEAD p) 0 11
        let held := ringHeld head (s.getF (Reg.STNn_RX_TAIL p) 0 11) n
        (held < n →
          ∃ t, exec (.stationFrameReceive f) s = .next t ∧ t.getR (Reg.STNn_RX_FRAMES p) = s.getR (Reg.STNn_RX_FRAMES p) + 1 ∧
            t.getF (Reg.STNn_RX_HEAD p) 0 11 = (head + 1) % (2 * n) ∧ t.getB (Hdr.IRQ_RAW (Pg.STNn p)) 0 = true ∧
            t.memBytes (sramBase + 4 * (s.getF (Reg.STNn_RX_BASE p) 0 18 + 4 * (head % n)) + 6) 2 = leBytes 2 f.bytes.length) ∧
        (n ≤ held →
          ∃ t, exec (.stationFrameReceive f) s = .next t ∧ t.getR (Reg.STNn_RX_FRAMES p) = s.getR (Reg.STNn_RX_FRAMES p) + 1 ∧
            t.getR (Reg.STNn_RX_HEAD p) = s.getR (Reg.STNn_RX_HEAD p) ∧ t.mem = s.mem ∧ t.getB (Hdr.IRQ_RAW (Pg.STNn p)) 3 = true ∧
            (s.getR (Reg.STNn_RX_DROP_CNT p) ≠ 0xFFFFFFFF → t.getR (Reg.STNn_RX_DROP_CNT p) = s.getR (Reg.STNn_RX_DROP_CNT p) + 1))))

/-- R357, R359, R360, R362, R373, R374: the ports' other commands. TX_HEAD and RX_TAIL move within what their ring holds; the descriptor at
TX_TAIL is served and its frame leaves; supervision goes out of both ports under one sequence number; the oldest entry of the discard table
goes DD_TIME after it was made; a link's change shows in STAT. -/
def stationCommandsTakeEffect : Prop :=
  ∀ (s : State) (port : Bool), s.logq = [] →
    let p := pn port
    let tn := s.ringCount (Reg.STNn_TX_CFG p)
    let tail := s.getF (Reg.STNn_TX_TAIL p) 0 11
    let thead := s.getF (Reg.STNn_TX_HEAD p) 0 11
    (s.HostReady (Pg.STNn p) →
      (∀ d : Word,
        let v := fld d 0 11
        (v < 2 * tn → ringHeld v tail tn ≤ tn → ringHeld thead tail tn ≤ ringHeld v tail tn →
          ∃ t, exec (.txHeadWrite port d) s = .next t ∧ t.getF (Reg.STNn_TX_HEAD p) 0 11 = v ∧ s.onlyRegs [Reg.STNn_TX_HEAD p] t) ∧
        (2 * tn ≤ v ∨ tn < ringHeld v tail tn ∨ ringHeld v tail tn < ringHeld thead tail tn →
          exec (.txHeadWrite port d) s = .next (s.refuse (Pg.STNn p)))) ∧
      (∀ d : Word,
        let n := s.ringCount (Reg.STNn_RX_CFG p)
        let v := fld d 0 11
        let head := s.getF (Reg.STNn_RX_HEAD p) 0 11
        let held := ringHeld head (s.getF (Reg.STNn_RX_TAIL p) 0 11) n
        (v < 2 * n → ringHeld head v n ≤ held →
          ∃ t, exec (.rxTailWrite port d) s = .next t ∧ t.getF (Reg.STNn_RX_TAIL p) 0 11 = v ∧ s.onlyRegs [Reg.STNn_RX_TAIL p] t) ∧
        (2 * n ≤ v ∨ held < ringHeld head v n → exec (.rxTailWrite port d) s = .next (s.refuse (Pg.STNn p)))) ∧
      (let counts := (List.range 5).map (fun k => Reg.STNn_FCS_ERR_CNT p + 4 * k)
       ∃ t, exec (.stnClear port) s = .next t ∧ (∀ a ∈ counts, t.getR a = 0) ∧ s.onlyRegs counts t)) ∧
    (s.HostReady Pg.PRP →
      let counts := (List.range 5).map (fun k => Reg.PRP_DUP_CNT + 4 * k)
      ∃ t, exec .prpClear s = .next t ∧ (∀ a ∈ counts, t.getR a = 0) ∧ s.onlyRegs counts t) ∧
    (s.redMode = 0 → s.stnUp port = true → ringHeld thead tail tn ≠ 0 → s.getF (Reg.STNn_TX_CFG p) 0 4 ≤ 10 →
      let d := sramBase + 4 * (s.getF (Reg.STNn_TX_BASE p) 0 18 + 4 * (tail % tn))
      let len := fld (s.memW (d + 4)) 0 16
      let good := 60 ≤ len ∧ len ≤ s.getF (Reg.STNn_MAX_LEN p) 0 11 - 4
      ∃ t, exec (.txFrameDone port) s = .next t ∧ t.getF (Reg.STNn_TX_TAIL p) 0 11 = (tail + 1) % (2 * tn) ∧
        t.getB (Hdr.IRQ_RAW (Pg.STNn p)) 1 = true ∧
        (good → (t.stnP port).last = some ⟨.host (s.memBytes (sramBase + (s.memW d).toNat % 0x100000) len), none⟩ ∧
          t.getR (Reg.STNn_TX_FRAMES p) = s.getR (Reg.STNn_TX_FRAMES p) + 1) ∧
        (¬ good → (t.stnP port).last = (s.stnP port).last ∧ t.getR (Reg.STNn_TX_FRAMES p) = s.getR (Reg.STNn_TX_FRAMES p)) ∧
        ∀ a, a < d + 8 ∨ d + 16 ≤ a → t.memB a = s.memB a) ∧
    (s.redMode = 1 → s.stnUp false = true ∨ s.stnUp true = true →
      let q := s.getF Reg.PRP_TX_SEQ 0 16
      ∃ t, exec .prpSupervisionTx s = .next t ∧ t.getF Reg.PRP_TX_SEQ 0 16 = (q + 1) % 65536 ∧
        (s.stnUp port = true → (t.stnP port).last = some ⟨.supervision, some (BitVec.ofNat 16 q)⟩)) ∧
    (∀ e rest, s.stn.dd = e :: rest →
      ∃ t, exec .ddEntryExpire s = .next t ∧ t.stn.dd = rest ∧ e.2.2 + s.ddTicks ≤ t.clk.tick ∧ t.regs = s.regs) ∧
    (s.pw.mode ≠ .dormant → s.pw.role ≠ .cell → s.getB (Reg.STNn_CFG p) 0 = true →
      (s.getB (Reg.STNn_STAT p) 0 = false →
        ∃ t, exec (.stationLinkChange port .up) s = .next t ∧ t.getB (Reg.STNn_STAT p) 0 = true ∧ t.getB (Hdr.IRQ_RAW (Pg.STNn p)) 2 = true) ∧
      (s.getB (Reg.STNn_STAT p) 0 = true →
        ∃ t, exec (.stationLinkChange port .down) s = .next t ∧ t.getR (Reg.STNn_STAT p) = 0 ∧ t.getB (Hdr.IRQ_RAW (Pg.STNn p)) 2 = true) ∧
      (∃ t, exec (.stationLinkChange port .refused) s = .next t ∧ t.getB (Reg.STNn_STAT p) 0 = false ∧ t.getB (Reg.STNn_STAT p) 2 = true))

/-- From `s` to `t` PTP took an offset sample of `port` (R365): OFFSET is t2 − t1 − meanPathDelay − correction to within the rounding that the
spec leaves open, the sample is counted and the clock is a slave. -/
def ptpSampled (s t : State) (port : Bool) (t1 t2 : Nat) (corr : Int) : Prop :=
  let m := s.peerMean port
  let den : Int := 65536 * (2 * (m.2 : Int))
  let num := ((t2 : Int) - t1) * den - m.1 * 65536 - corr * (2 * (m.2 : Int))
  (∃ th, num / den ≤ th ∧ th ≤ num / den + 1 ∧ t.getR Reg.PTP_OFFSET = wInt th) ∧
    t.getR Reg.PTP_SYNC_CNT = s.getR Reg.PTP_SYNC_CNT + 1 ∧ t.getF Reg.PTP_STAT 0 2 = 3

/-- R364, R365: PTP as a slave-only clock. Peer delay is asked for and answered on each port; the best Announce heard selects the master; a
Sync, or its Follow_Up, of that master gives an offset sample; three silent intervals forget a master. -/
def Obligations.PtpFollowsItsMaster : Prop :=
  ∀ s : State, s.logq = [] → s.ptpOn = true →
    (∀ port, s.stnUp port = true →
      let p := s.stnP port
      ∃ t q, exec (.pdelayReqTx port) s = .next t ∧ (t.stnP port).pdSeq = p.pdSeq + 1 ∧
        (t.stnP port).pdOut.map (·.1) = some p.pdSeq ∧ (t.stnP port).last = some ⟨.pdelayReq p.pdSeq, q⟩ ∧
        (p.pdOut.isSome = true → s.getR Reg.PTP_PD_FAIL_CNT ≠ 0xFFFFFFFF → t.getR Reg.PTP_PD_FAIL_CNT = s.getR Reg.PTP_PD_FAIL_CNT + 1)) ∧
    (∀ (f : RxFrame) x, s.stnUp f.port = true → (s.stnAccept f false).2 = some x →
      (∀ seq, ∃ t q, exec (.pdelayReqReceive f seq) s = .next t ∧
        (t.stnP f.port).last = some ⟨if s.getB Reg.PTP_CFG 2 then .pdelayResp seq false (s.tsAdj f.port false f.ts.toNat)
          else .pdelayFollow seq, q⟩) ∧
      (∀ (m : PdelayIn) t1, (s.stnP f.port).pdOut = some (m.seq, t1) →
        ∃ t c, exec (.pdelayRespReceive f m) s = .next t ∧ m.corr.toInt / 65536 ≤ c ∧ c ≤ m.corr.toInt / 65536 + 1 ∧
          (t.stnP f.port).pdOut = none ∧
          (t.stnP f.port).delays = (((s.tsAdj f.port false f.ts.toNat : Int) - t1 - ((m.t3.toNat : Int) - m.t2.toNat) - c) ::
            (s.stnP f.port).delays).take 16) ∧
      (∀ a : AnnounceIn, a.domain.toNat = s.getF Reg.PTP_CFG 8 8 → (s.getB Reg.PTP_CFG 1 = true → a.tlv ≠ none) →
        (∀ o, (s.stnP f.port).ann = some o → o.1.src = a.src ∨ annBetter a o.1 f.port f.port = true) →
        ∃ t, exec (.announceReceive f a) s = .next t ∧ (t.stnP f.port).ann = some (a, s.clk.tick) ∧
          t.stn.master = t.bestAnn.map (fun b => (b.1, b.2.src)) ∧
          ∀ b, t.bestAnn = some b → t.getR Reg.PTP_GM_ID_LO = b.2.gm.truncate 32 ∧
            (s.stn.master ≠ some (b.1, b.2.src) → s.getR Reg.PTP_MASTER_CHG_CNT ≠ 0xFFFFFFFF →
              t.getR Reg.PTP_MASTER_CHG_CNT = s.getR Reg.PTP_MASTER_CHG_CNT + 1))) ∧
    (∀ port a t0, (s.stnP port).ann = some (a, t0) →
      ∃ t, exec (.announceTimeout port) s = .next t ∧ (t.stnP port).ann = none ∧ t0 + 3 * a.interval.toNat * tickMs ≤ t.clk.tick ∧
        t.stn.master = t.bestAnn.map (fun b => (b.1, b.2.src))) ∧
    (∀ (f : RxFrame) (m : PtpIn) x, s.stnUp f.port = true → (s.stnAccept f (!m.twoStep)).2 = some x → s.fromMaster f m = true →
      (m.twoStep = true →
        ∃ t, exec (.ptpSyncReceive f m) s = .next t ∧ t.stn.sync = some (m.seq, s.tsAdj f.port false f.ts.toNat, m.corr.toInt)) ∧
      (m.twoStep = false → (s.peerMean f.port).2 ≠ 0 →
        ∃ t, exec (.ptpSyncReceive f m) s = .next t ∧ ptpSampled s t f.port m.origin.toNat (s.tsAdj f.port false f.ts.toNat) m.corr.toInt)) ∧
    (∀ (f : RxFrame) (m : PtpIn) x t2 corr, s.stnUp f.port = true → (s.stnAccept f true).2 = some x → s.fromMaster f m = true →
      s.stn.sync = some (m.seq, t2, corr) → (s.peerMean f.port).2 ≠ 0 →
      ∃ t, exec (.ptpFollowUpReceive f m) s = .next t ∧ t.stn.sync = none ∧ ptpSampled s t f.port m.origin.toNat t2 (corr + m.corr.toInt)) ∧
    (s.HostReady Pg.PTP →
      let counts := (List.range 4).map (fun k => Reg.PTP_ANN_TMO_CNT + 4 * k)
      ∃ t, exec .ptpClear s = .next t ∧ (∀ a ∈ counts, t.getR a = 0) ∧ s.onlyRegs counts t)

/-- R366, R367: GOOSE subscriptions. An entry that matches takes the frame's numbers and value, unless they repeat; no other entry changes; an
entry whose time is up goes stale and takes its fail value; slots are created and destroyed by handle. -/
def subscriptionsTakeTheirFrames : Prop :=
  ∀ s : State, s.logq = [] →
    (∀ (f : RxFrame) (g : GooseIn) x, s.stnUp f.port = true → (s.stnAccept f false).2 = some x →
      ∃ t, exec (.gooseReceive f g) s = .next t ∧
        ∀ k, k < 64 →
          let e := s.sub k
          let drop := e.seen = true ∧ g.stNum = e.stNum ∧ g.sqNum.toNat ≤ e.sqNum.toNat
          (s.subMatches k g = false ∨ drop → t.sub k = e) ∧
          (s.subMatches k g = true → ¬ drop →
            (t.sub k).seen = true ∧ (t.sub k).stNum = g.stNum ∧ (t.sub k).sqNum = g.sqNum ∧ (t.sub k).stale = false ∧
            (t.sub k).expire = some (s.clk.tick + min g.tal.toNat (s.getF Reg.GOOSE_TAL_MAX 0 16) * tickMs) ∧
            (∀ v, g.data[s.getF (Reg.GOOSE_SUB_CFG k) 16 6]? = some (.boolean v) → (t.sub k).value = v ∧ (t.sub k).typeErr = false) ∧
            (g.data[s.getF (Reg.GOOSE_SUB_CFG k) 16 6]? = none → (t.sub k).value = s.failValue k ∧ (t.sub k).typeErr = true))) ∧
    (∀ (k : Fin 64) t0, (s.sub k).expire = some t0 → s.stnAwake = true → s.subActive k = true →
      ∃ t, exec (.gooseStale k) s = .next t ∧ (t.sub k).stale = true ∧ (t.sub k).expire = none ∧ (t.sub k).value = s.failValue k ∧
        t0 ≤ t.clk.tick ∧ t.getB (Hdr.IRQ_RAW Pg.GOOSE) 1 = true ∧ ∀ j, j ≠ k.val → t.sub j = s.sub j) ∧
    (s.HostReady Pg.GOOSE →
      (∀ (slot : Option (Fin 64)) n, pickSlot (fun k => !(s.sub k).alloc) 64 (slot.map (·.val)) = some n →
        ∃ t, exec (.subCreate slot) s = .next t ∧ t.sub n = { freeSub (s.sub n).gen with alloc := true } ∧
          t.getR Reg.GOOSE_NEW_HANDLE = mkHandle 5 (s.sub n).gen n ∧ t.getR Reg.GOOSE_SUB_SEL = mkHandle 5 (s.sub n).gen n ∧
          ∀ j, j ≠ n → t.sub j = s.sub j) ∧
      (∀ slot : Option (Fin 64), pickSlot (fun k => !(s.sub k).alloc) 64 (slot.map (·.val)) = none →
        exec (.subCreate slot) s = .next ((s.setR Reg.GOOSE_NEW_HANDLE 0).refuse Pg.GOOSE)) ∧
      (∀ n, s.Selected Reg.GOOSE_SUB_SEL 5 n →
        (s.notRunModes = true →
          ∃ t, exec .subDestroy s = .next t ∧ t.sub n = freeSub (((s.sub n).gen + 1) % 256) ∧ ∀ j, j ≠ n → t.sub j = s.sub j) ∧
        (s.notRunModes = false → exec .subDestroy s = .next (s.refuse Pg.GOOSE))) ∧
      (let counts := (List.range 4).map (fun k => Reg.GOOSE_RX_OK_CNT + 4 * k)
       ∃ t, exec .gooseClear s = .next t ∧ (∀ a ∈ counts, t.getR a = 0) ∧ s.onlyRegs counts t))

/-- R368–R370: publishers. A change of the published bits takes the next stNum with sqNum 0 at MIN_T, a repetition the next sqNum at twice the
interval up to MAX_T; a frame of sampled values numbers its two ASDUs; and nothing is sent where a publisher does not run. -/
def publishersSendTheirStates : Prop :=
  ∀ s : State, s.logq = [] →
    (∀ p : Fin 8,
      (s.pubWanted p = true → (s.pub p).active = true →
        (s.pubBits p ≠ (s.pub p).data →
          ∃ t, exec (.goosePublish p) s = .next t ∧ (t.pub p).stNum = wrapTo1 (s.pub p).stNum ∧ (t.pub p).sqNum = 0 ∧
            (t.pub p).data = s.pubBits p ∧ (t.pub p).interval = s.getF (Reg.GOOSE_PUB_MIN_T p) 0 16 ∧
            (t.pub p).due = s.clk.tick + s.getF (Reg.GOOSE_PUB_MIN_T p) 0 16 * tickMs ∧
            t.getR (Reg.GOOSE_PUB_TX_CNT p) = s.getR (Reg.GOOSE_PUB_TX_CNT p) + 1) ∧
        (s.pubBits p = (s.pub p).data → exec (.goosePublish p) s = .next s) ∧
        (∃ t, exec (.gooseRetransmit p) s = .next t ∧ (t.pub p).stNum = (s.pub p).stNum ∧ (t.pub p).sqNum = wrapTo1 (s.pub p).sqNum ∧
          (t.pub p).interval = min (2 * (s.pub p).interval) (s.getF (Reg.GOOSE_PUB_MAX_T p) 0 16) ∧ (s.pub p).due ≤ t.clk.tick ∧
          t.getR (Reg.GOOSE_PUB_TX_CNT p) = s.getR (Reg.GOOSE_PUB_TX_CNT p) + 1)) ∧
      (s.pubWanted p = false ∨ (s.pub p).active = false →
        exec (.goosePublish p) s = .next s ∧ exec (.gooseRetransmit p) s = .next s)) ∧
    (∀ (n : Fin 2400) (a b : List Word),
      (s.svOn = true →
        ∃ t, exec (.svFrame n a b) s = .next t ∧ t.getR Reg.SV_SMP_CNT = w32 (2 * n.val + 1) ∧
          t.getR Reg.SV_TX_CNT = s.getR Reg.SV_TX_CNT + 1 ∧ t.getF Reg.SV_STAT 2 2 = s.svSynch) ∧
      (s.svOn = false → exec (.svFrame n a b) s = .next s)) ∧
    (s.HostReady Pg.SV → ∃ t, exec .svClear s = .next t ∧ t.getR Reg.SV_OVF_CNT = 0 ∧ s.onlyRegs [Reg.SV_OVF_CNT] t)

/-! ## Identity buses, auxiliary pumps and line coding -/

/-- R393–R397: identity. A scan reads every module and every enabled record; a poll follows the modules' presence and has what appears read; a
record without an acknowledge, with a bad magic or a bad check says so, and is applied in CONFIGURE only; a stuck bus loses its modules. -/
def identitiesAreRead : Prop :=
  ∀ s : State, s.logq = [] →
    (s.HostReady Pg.IDM →
      ∃ t, exec .idmScan s = .next t ∧ t.regs = s.regs ∧ (t.idm.scan = true ↔ t.idm.todo ≠ []) ∧
        ∀ i, i ∈ t.idm.todo ↔ i < 32 ∧ s.idmBus (s.idmBusOf i) = true ∧ (i < 16 ∨ s.recEn (i - 16) = true)) ∧
    (s.pw.mode ≠ .dormant →
      (∀ (ms : List (Option (List Byte))) (rs : BitVec 16), s.clk.gen = true → s.getF Reg.IDM_CFG 8 8 ≠ 0 →
        ∃ t, exec (.idmPoll ms rs) s = .next t ∧
          ∀ n, n < 16 → s.idmBus (n / 2) = true → s.getB Reg.IDM_STAT (8 + n / 2) = false →
            t.getB (Reg.IDM_MOD_STAT n) 0 = (ms.getD n none).isSome ∧
            (s.getB (Reg.IDM_MOD_STAT n) 0 = false → (ms.getD n none).isSome = true → n ∈ t.idm.todo)) ∧
      (∀ n : Fin 16, n.val ∈ s.idm.todo →
        (∀ a d, ∃ t, exec (.idmReadDone (.module n (some (a, d)))) s = .next t ∧ t.getB (Reg.IDM_MOD_STAT n) 0 = true ∧
          n.val ∉ t.idm.todo ∧ (s.getB (Reg.IDM_MOD_STAT n) 0 = true → t.memBytes (s.modAt n) 96 = padTo 96 a)) ∧
        (∃ t, exec (.idmReadDone (.module n none)) s = .next t ∧ t.getB (Reg.IDM_MOD_STAT n) 0 = false ∧ n.val ∉ t.idm.todo)) ∧
      (∀ r : Fin 16, 16 + r.val ∈ s.idm.todo →
        (∃ t, exec (.idmReadDone (.record r none)) s = .next t ∧ t.getF (Reg.IDM_REC_STAT r) 0 8 = 4 ∧ 16 + r.val ∉ t.idm.todo) ∧
        (∀ b, let img := padTo 96 b
          ∃ t, exec (.idmReadDone (.record r (some b))) s = .next t ∧ 16 + r.val ∉ t.idm.todo ∧
            (recWord img 0 ≠ 0x44524E48 → t.getF (Reg.IDM_REC_STAT r) 0 8 = 5) ∧
            (recWord img 0 = 0x44524E48 → img.getD 4 0 = 1 → recWord img 0x5C ≠ crc32 (img.take 0x5C) →
              t.getF (Reg.IDM_REC_STAT r) 0 8 = 6) ∧
            (t.getF (Reg.IDM_REC_STAT r) 0 8 = 1 → s.pw.mode = .configure) ∧
            (s.pw.mode ≠ .configure → ∀ p, t.getR (Reg.METn_V_RATIO (p % 3) (p / 3 % 4)) = s.getR (Reg.METn_V_RATIO (p % 3) (p / 3 % 4))))) ∧
      (∀ b : Fin 8, s.idmBus b = true →
        ∃ t, exec (.idmReadDone (.stuck b)) s = .next t ∧ t.getB Reg.IDM_STAT (8 + b.val) = true ∧ t.getB (Hdr.IRQ_RAW Pg.IDM) 2 = true ∧
          (∀ n, n < 16 → n / 2 = b.val → t.getB (Reg.IDM_MOD_STAT n) 0 = false) ∧ ∀ i ∈ t.idm.todo, s.idmBusOf i ≠ b.val))

/-- R399, R401, R402, R405: an auxiliary pump's Hall sensor. A state next to the one before moves POS by one and gives the direction, any other
valid state counts as a skip, an invalid one as an error; STALL_T without an edge clears the speed. -/
def Obligations.HallStatesMoveThePosition : Prop :=
  ∀ (s : State) (q : Fin 2), s.logq = [] →
    (s.auxOn q = true → (s.aux q).known = true → ∀ h : BitVec 3, h ≠ (s.aux q).hall →
      let pos := s.getF (Reg.AUXP_P_POS q) 0 16
      ∃ t, exec (.hallEdge q h) s = .next t ∧ (t.aux q).hall = h ∧ (t.aux q).edgeAt = s.clk.tick ∧
        (∀ n o, hallPlace h = some n → hallPlace (s.aux q).hall = some o →
          (n = (o + 1) % 6 → t.getF (Reg.AUXP_P_POS q) 0 16 = (pos + 1) % 65536 ∧ t.getB (Reg.AUXP_P_STAT q) 5 = false ∧
            t.getB (Reg.AUXP_P_STAT q) 6 = false) ∧
          (o = (n + 1) % 6 → t.getF (Reg.AUXP_P_POS q) 0 16 = (pos + 65535) % 65536 ∧ t.getB (Reg.AUXP_P_STAT q) 5 = true ∧
            t.getB (Reg.AUXP_P_STAT q) 6 = false) ∧
          (n ≠ (o + 1) % 6 → o ≠ (n + 1) % 6 → t.getR (Reg.AUXP_P_POS q) = s.getR (Reg.AUXP_P_POS q) ∧
            (s.getR (Reg.AUXP_P_SKIP_CNT q) ≠ 0xFFFFFFFF → t.getR (Reg.AUXP_P_SKIP_CNT q) = s.getR (Reg.AUXP_P_SKIP_CNT q) + 1))) ∧
        (hallPlace h = none → t.getR (Reg.AUXP_P_POS q) = s.getR (Reg.AUXP_P_POS q) ∧ t.getB (Hdr.IRQ_RAW Pg.AUXP) 2 = true ∧
          (s.getR (Reg.AUXP_P_HALL_ERR_CNT q) ≠ 0xFFFFFFFF →
            t.getR (Reg.AUXP_P_HALL_ERR_CNT q) = s.getR (Reg.AUXP_P_HALL_ERR_CNT q) + 1))) ∧
    (∀ h, s.auxOn q = false ∨ ((s.aux q).known = true ∧ (s.aux q).hall = h) → exec (.hallEdge q h) s = .next s) ∧
    (s.auxOn q = true → s.getB (Reg.AUXP_P_STAT q) 6 = false →
      ∃ t, exec (.hallStall q) s = .next t ∧ t.getR (Reg.AUXP_P_SPEED q) = 0 ∧ t.getB (Reg.AUXP_P_STAT q) 6 = true ∧
        t.getB (Hdr.IRQ_RAW Pg.AUXP) q = true ∧ (s.aux q).edgeAt + s.getF (Reg.AUXP_P_STALL_T q) 0 16 * tickMs ≤ t.clk.tick) ∧
    (s.HostReady Pg.AUXP →
      ∃ t, exec (.auxpClear q) s = .next t ∧ t.getR (Reg.AUXP_P_SKIP_CNT q) = 0 ∧ t.getR (Reg.AUXP_P_HALL_ERR_CNT q) = 0 ∧
        s.onlyRegs [Reg.AUXP_P_SKIP_CNT q, Reg.AUXP_P_HALL_ERR_CNT q] t)

/-- The greatest number of equal bits side by side in `bs`, where `run` of `last` stand before it. -/
def longestRun : Bool → Nat → List Bool → Nat
  | _, run, [] => run
  | last, run, b :: bs => max run (longestRun b (if b = last then run + 1 else 1) bs)

/-- R228, R229: the line coding of a lane loses nothing and bounds its runs: descrambling undoes scrambling from the same history, destuffing
undoes stuffing, no more than ten identical bits follow each other on the line, and a receiver that starts with any other history has the right
data from the 59th bit on. -/
def lineCodingIsUndone : Prop :=
  (∀ (h : BitVec 58) (ds : List Bool), descramble h (scramble h ds) = ds) ∧
  (∀ (last : Bool) (run : Nat) (bs : List Bool), run < 10 → destuff last run (stuff last run bs) = bs) ∧
  (∀ (last : Bool) (run : Nat) (bs : List Bool), run < 10 → longestRun last run (stuff last run bs) ≤ 10) ∧
  (∀ (h h' : BitVec 58) (ds : List Bool), (descramble h' (scramble h ds)).drop 58 = ds.drop 58)

/-! ## Statements of several parts -/

/-- The state after reset is canonical, DORMANT, with every register at its reset value. -/
def Obligations.ResetIsCanonicalAndDormant : Prop :=
  resetIsCanonical ∧ resetStateIsDormant

/-- Host commands meet the bus-mode change, DORMANT and idle pages as the spec says. -/
def Obligations.HostCommandsObeyTheirPage : Prop :=
  accessDuringBusModeChangeStops ∧ dormantIgnoresTheHost ∧ idlePagesIgnore

/-- Arithmetic, integer and predicate strokes retire the result of their row. -/
def Obligations.StrokesComputeTheirRows : Prop :=
  arithmeticStrokesComputeTheirRow ∧ integerStrokesComputeTheirRow ∧ predicateStrokesSetTheirPredicate

/-- Vector strokes run element by element; single-element, NOP and BADOP strokes. -/
def Obligations.VectorAndSingleElementStrokesRun : Prop :=
  vectorStrokesRunTheirElements ∧ singleElementStrokesNopAndBadop

/-- A stroke predicated off only passes, and retirement respects the system words. -/
def Obligations.StrokesRetireUnderTheirPredicate : Prop :=
  predicatedOffStrokeOnlyPasses ∧ sumpRetirementRespectsSystemWords

/-- Bank, swap and quota commands of the Pump and the Sump. -/
def Obligations.BanksSwapAndQuotasAreGranted : Prop :=
  bankCommandsTakeEffect ∧ swapAtInThePastIsMissed ∧ quotaIsGrantedFromThePool

/-- Channel commands, coefficient writes and channel events. -/
def Obligations.ChannelsFollowTheirCommands : Prop :=
  channelCommandsTakeEffect ∧ coefficientWriteStoresOneLocalWord ∧ channelEventsTakeEffect

/-- Profile commands, and a trajectory that ends on its target. -/
def Obligations.ProfilesFollowTheirCommands : Prop :=
  profileCommandsTakeEffect ∧ profileEndsOnItsTarget

/-- Tracker commands, and a tracker step that records its averages. -/
def Obligations.TrackersFollowTheirCommands : Prop :=
  trackerCommandsTakeEffect ∧ trackerStepRecordsItsAverages

/-- SYNC transitions, phase jumps and the choice of grid forming. -/
def Obligations.SynchronismFollowsItsRules : Prop :=
  syncTransitionsFollowTheirRules ∧ phaseJumpIsMeasured ∧ gridFormingIsChosenBeforeRun

/-- RIDE transitions and the islanding decision. -/
def Obligations.RideAndIslandingAreDecided : Prop :=
  rideTransitionsFollowTheirRules ∧ islandingDecisionIsLatched

/-- Tables swap and copy, the Pump's sequences begin, output and apply happen once a period. -/
def Obligations.SequencesAndTablesAdvance : Prop :=
  tableHalvesSwapAndCopy ∧ pumpSequencesBegin ∧ outputAndApplyPhasesHappenOnce

/-- Entry to SAFE blocks and latches; mode requests are taken. -/
def Obligations.SafeEntryAndModeRequestsAreTaken : Prop :=
  safeEntryBlocksAndLatches ∧ modeRequestsAreTaken

/-- Power and resets, and what BOOT does. -/
def Obligations.ResetsEnterBootAndItRuns : Prop :=
  resetsEnterBoot ∧ bootRunsItsSteps

/-- The root PLL's lock windows and the clock commands. -/
def Obligations.ClocksLockAndAreCommanded : Prop :=
  lockWindowsJudgeTheCount ∧ clockCommandsTakeEffect

/-- The servo's commands, and setting and adjusting plant time. -/
def Obligations.PlantTimeIsServoed : Prop :=
  servoCommandsTakeEffect ∧ plantTimeIsSetAndAdjusted

/-- Seconds are marked and aligned; time-lane marks are followed. -/
def Obligations.SecondsAndTimeLanesAreMarked : Prop :=
  secondsAreMarkedAndAligned ∧ timeLaneMarksAreFollowed

/-- E0 falls where it is due, counts the period and latches its instant. -/
def Obligations.EpochsFallAndAreCounted : Prop :=
  epochsFallWhereTheyAreDue ∧ epochInstantCountsAndLatches

/-- The log, the ageing record, scrubbing and temperature. -/
def Obligations.LogAndHealthAreKept : Prop :=
  logCommandsTakeEffect ∧ ageingRecordIsLogged ∧ logWritingTouchesOnlyTheLog ∧ healthCommandsTakeEffect

/-- Host writes to memories, to the Guard and to register pages. -/
def Obligations.HostWritesReachWhatTheyName : Prop :=
  memoryWritesStoreTheEnabledBytes ∧ guardWritesArePosted ∧ registerWritesObeyTheHeader

/-- The commands of every page's header and of the HOST page. -/
def Obligations.HeaderAndHostPageCommandsTakeEffect : Prop :=
  pageHeaderCommandsTakeEffect ∧ hostPageCommandsTakeEffect

/-- Reads return and latch; selectors take valid handles. -/
def Obligations.ReadsAndSelectorsAnswer : Prop :=
  readsReturnAndLatch ∧ selectorsTakeValidHandles

/-- The loader runs its checks, those of the header in order. -/
def Obligations.LoaderJudgesItsImages : Prop :=
  loaderRunsItsChecks ∧ headerChecksComeInOrder

/-- A generator's points fall in order and a pair's edges never overlap. -/
def Obligations.GeneratorsCountAndKeepTheirEdgesApart : Prop :=
  generatorPointsFallInOrder ∧ edgesNeverOverlap

/-- Trigger compares fire once a period; trips stop their generators. -/
def Obligations.TriggersFireAndTripsStop : Prop :=
  triggerComparesFireOnceAPeriod ∧ tripInputsStopTheirGenerators

/-- Island commands drive the gate; turn-off and blanking. -/
def Obligations.IslandsSwitchTheirGates : Prop :=
  islandCommandsDriveTheGate ∧ islandsTurnOffAndBlank

/-- Island faults latch their type, and commands release them. -/
def Obligations.IslandFaultsLatchAndRelease : Prop :=
  islandFaultsLatchTheirType ∧ islandCommandsRelease

/-- Conversions deliver their results; comparators latch their rise. -/
def Obligations.ResultsAndComparatorsAreKept : Prop :=
  conversionsDeliverTheirResults ∧ comparatorsLatchTheirRise

/-- Lane receivers lock, sync, measure and adapt. -/
def Obligations.LaneReceiversLockAndMeasure : Prop :=
  laneReceiversLockAndSync ∧ lanesMeasureAndAdapt

/-- Returned trains, Interrogative requests and the cell directory. -/
def Obligations.ReturnedTrainsAndRequestsAreKept : Prop :=
  returnedTrainsAreKeptAndCounted ∧ interrogativeRequestsWait ∧ directoryCommandsTakeEffect

/-- Metering: stuck channels, cycles and energies, harmonics and synchrophasors. -/
def Obligations.MeteringPointsMeasure : Prop :=
  stuckChannelsAreMarked ∧ pointsMeasureAndAccumulate ∧ harmonicsAndPhasorsAreReported

/-- Safety inputs demand and fault; TRIP_RESET clears only what it may. -/
def Obligations.SafetyInputsAndTripReset : Prop :=
  tripResetClearsTheLatches ∧ safetyInputsDemandAndFault

/-- Seal sessions, burns and the seal switches. -/
def Obligations.SealSessionsBurnAndClose : Prop :=
  sealSessionsOpenAndClose ∧ burnsAndSealSwitchesAreKept

/-- Grid return is confirmed; beacons are sent within the store. -/
def Obligations.GridReturnAndBeacons : Prop :=
  gridReturnIsConfirmed ∧ beaconsAreSentWithinTheStore

/-- Station ports: receiving, descriptor rings, links, supervision. -/
def Obligations.StationPortsSendAndReceive : Prop :=
  receivedFramesReachTheRing ∧ stationCommandsTakeEffect

/-- GOOSE subscriptions and publishers, and sampled values. -/
def Obligations.GooseAndSampledValues : Prop :=
  subscriptionsTakeTheirFrames ∧ publishersSendTheirStates

/-- Identity buses are read; the lane coding is undone by its receiver. -/
def Obligations.IdentitiesAreReadAndLinesCoded : Prop :=
  identitiesAreRead ∧ lineCodingIsUndone
end

