-- ==== Sys2Proof/Laws/Bits.lean ====
section
/-! SUPPORT. Fields and bits of a register word after a field or a bit has been written. -/
namespace Sys2Proof.Machine
open Sys2Proof

/-- The number below a field, the field, and the number above it. -/
theorem split_field (n lo len : Nat) : n = n % 2 ^ lo + 2 ^ lo * ((n / 2 ^ lo) % 2 ^ len + 2 ^ len * (n / 2 ^ (lo + len))) := by
  have h1 := Nat.mod_add_div n (2 ^ lo)
  have h2 := Nat.mod_add_div (n / 2 ^ lo) (2 ^ len)
  rw [Nat.div_div_eq_div_mul, ← Nat.pow_add] at h2
  rw [h2]; omega

theorem fld_eq (w : Word) (lo len : Nat) : fld w lo len = (w.toNat / 2 ^ lo) % 2 ^ len := by
  unfold fld; rw [Nat.shiftRight_eq_div_pow]

theorem fld_lt (w : Word) (lo len : Nat) : fld w lo len < 2 ^ len := by rw [fld_eq]; exact Nat.mod_lt _ (Nat.two_pow_pos _)

/-- The number of a word after a field write: the parts below and above stay. -/
theorem putFld_toNat (w : Word) {lo len : Nat} (h : lo + len ≤ 32) (v : Nat) :
    (putFld w lo len v).toNat = w.toNat % 2 ^ lo + 2 ^ lo * (v % 2 ^ len + 2 ^ len * (w.toNat / 2 ^ (lo + len))) := by
  have hs := split_field w.toNat lo len
  have hb := w.isLt
  generalize hA : w.toNat % 2 ^ lo = A at hs
  generalize hC : w.toNat / 2 ^ (lo + len) = C at hs
  have hC' : C < 2 ^ (32 - (lo + len)) := by
    rw [← hC]; apply Nat.div_lt_of_lt_mul
    rw [← Nat.pow_add, Nat.add_sub_cancel' h]; exact hb
  have hAlt : A < 2 ^ lo := by rw [← hA]; exact Nat.mod_lt _ (Nat.two_pow_pos _)
  have hv : v % 2 ^ len < 2 ^ len := Nat.mod_lt _ (Nat.two_pow_pos _)
  have e : putFld w lo len v = BitVec.ofNat 32 (A + 2 ^ lo * (v % 2 ^ len + 2 ^ len * C)) := by
    unfold putFld; congr 1
    rw [fld_eq]
    generalize w.toNat / 2 ^ lo % 2 ^ len = B at hs
    rw [hs, Nat.mul_add, Nat.mul_comm B, Nat.mul_comm (v % 2 ^ len), Nat.mul_add]
    omega
  rw [e, BitVec.toNat_ofNat, Nat.mod_eq_of_lt]
  have hu : v % 2 ^ len + 2 ^ len * C < 2 ^ (32 - lo) := by
    calc v % 2 ^ len + 2 ^ len * C < 2 ^ len + 2 ^ len * C := by omega
      _ = 2 ^ len * (C + 1) := by rw [Nat.mul_add]; omega
      _ ≤ 2 ^ len * 2 ^ (32 - (lo + len)) := Nat.mul_le_mul_left _ hC'
      _ = 2 ^ (32 - lo) := by rw [← Nat.pow_add]; congr 1; omega
  calc A + 2 ^ lo * (v % 2 ^ len + 2 ^ len * C) < 2 ^ lo + 2 ^ lo * (v % 2 ^ len + 2 ^ len * C) := by omega
    _ = 2 ^ lo * (v % 2 ^ len + 2 ^ len * C + 1) := by rw [Nat.mul_succ, Nat.add_comm]
    _ ≤ 2 ^ lo * 2 ^ (32 - lo) := Nat.mul_le_mul_left _ hu
    _ = 2 ^ 32 := by rw [← Nat.pow_add]; congr 1; omega

/-- A field reads what was written to it, cut to its length. -/
theorem fld_putFld (w : Word) {lo len : Nat} (h : lo + len ≤ 32) (v : Nat) : fld (putFld w lo len v) lo len = v % 2 ^ len := by
  rw [fld_eq, putFld_toNat w h, Nat.add_mul_div_left _ _ (Nat.two_pow_pos _), Nat.div_eq_of_lt (Nat.mod_lt _ (Nat.two_pow_pos _)),
    Nat.zero_add, Nat.add_mul_mod_self_left, Nat.mod_mod]

theorem bit_eq (w : Word) (i : Nat) : bit w i = decide (w.toNat / 2 ^ i % 2 = 1) := by
  unfold bit; rw [BitVec.getLsbD, Nat.testBit_eq_decide_div_mod_eq]

/-- Bits outside a field keep their value. -/
theorem bit_putFld_out (w : Word) {lo len i : Nat} (h : lo + len ≤ 32) (v : Nat) (hi : i < lo ∨ lo + len ≤ i) :
    bit (putFld w lo len v) i = bit w i := by
  rw [bit_eq, bit_eq, putFld_toNat w h]
  rcases hi with hi | hi
  · have e : 2 ^ lo = 2 ^ i * (2 * 2 ^ (lo - i - 1)) := by
      rw [← Nat.pow_succ', ← Nat.pow_add]; congr 1; omega
    have h1 : ∀ X, (w.toNat % 2 ^ lo + 2 ^ lo * X) / 2 ^ i % 2 = w.toNat % 2 ^ lo / 2 ^ i % 2 := by
      intro X
      rw [show 2 ^ lo * X = 2 ^ i * (2 * (2 ^ (lo - i - 1) * X)) by rw [e]; simp only [Nat.mul_assoc], Nat.add_mul_div_left _ _ (Nat.two_pow_pos _),
        Nat.add_mul_mod_self_left]
    rw [h1]
    have h2 := h1 (w.toNat / 2 ^ lo)
    rw [Nat.mod_add_div] at h2
    rw [h2]
  · have e : ∀ X, (w.toNat % 2 ^ lo + 2 ^ lo * (X % 2 ^ len + 2 ^ len * (w.toNat / 2 ^ (lo + len)))) / 2 ^ (lo + len) = w.toNat / 2 ^ (lo + len) := by
      intro X
      rw [Nat.pow_add, ← Nat.div_div_eq_div_mul, Nat.add_mul_div_left _ _ (Nat.two_pow_pos _),
        Nat.div_eq_of_lt (Nat.mod_lt _ (Nat.two_pow_pos _)), Nat.zero_add, Nat.add_mul_div_left _ _ (Nat.two_pow_pos _),
        Nat.div_eq_of_lt (Nat.mod_lt _ (Nat.two_pow_pos _)), Nat.zero_add]
    have s1 : ∀ n, n / 2 ^ i = n / 2 ^ (lo + len) / 2 ^ (i - (lo + len)) := by
      intro n; rw [Nat.div_div_eq_div_mul, ← Nat.pow_add]; congr 2; omega
    rw [s1, e, ← s1]

/-- A bit reads what was written to it. -/
@[simp] theorem bit_putBit (w : Word) {i : Nat} (h : i < 32) (b : Bool) : bit (putBit w i b) i = b := by
  have e := fld_putFld w (lo := i) (len := 1) (by omega) (if b then 1 else 0)
  rw [fld_eq, Nat.pow_one] at e
  unfold putBit
  rw [bit_eq, e]
  cases b <;> decide

@[simp] theorem bit_putBit_ne (w : Word) {i j : Nat} (h : i < 32) (hj : j ≠ i) (b : Bool) : bit (putBit w i b) j = bit w j :=
  bit_putFld_out w (by omega) _ (by omega)

/-- A field that does not meet the one written keeps its value. -/
theorem fld_putFld_out (w : Word) {lo len a n : Nat} (h : lo + len ≤ 32) (v : Nat) (ha : a + n ≤ lo ∨ lo + len ≤ a) :
    fld (putFld w lo len v) a n = fld w a n := by
  unfold fld
  apply Nat.eq_of_testBit_eq
  intro j
  rw [Nat.testBit_mod_two_pow, Nat.testBit_mod_two_pow, Nat.testBit_shiftRight, Nat.testBit_shiftRight]
  by_cases hj : j < n
  · have := bit_putFld_out w h v (i := a + j) (by omega)
    simp only [hj, decide_true, Bool.true_and]
    exact this
  · simp [hj]

end Sys2Proof.Machine
end

