-- ==== Sys2Proof/Laws/Map.lean ====
section
/-! SUPPORT. Reading, writing and the canonical form of the sparse map. -/
namespace Sys2Proof.Machine

@[simp] theorem SMap.find_nil {α : Type} (k : Nat) : SMap.find k ([] : SMap α) = none := rfl

theorem SMap.find_insert_eq {α : Type} (k : Nat) (v : α) (m : SMap α) : SMap.find k (SMap.insert k v m) = some v := by
  induction m with
  | nil => simp [SMap.insert, SMap.find]
  | cons e m ih =>
    obtain ⟨j, w⟩ := e
    simp only [SMap.insert]
    split
    · simp [SMap.find]
    · split
      · simp [SMap.find]
      · simp [SMap.find, *]

theorem SMap.find_insert_ne {α : Type} {k j : Nat} (h : j ≠ k) (v : α) (m : SMap α) :
    SMap.find j (SMap.insert k v m) = SMap.find j m := by
  induction m with
  | nil => simp [SMap.insert, SMap.find, Ne.symm h]
  | cons e m ih =>
    obtain ⟨i, w⟩ := e
    simp only [SMap.insert]
    split
    · simp [SMap.find, Ne.symm h]
    · split
      · rename_i e; subst e; simp [SMap.find, Ne.symm h]
      · simp [SMap.find, ih]

theorem SMap.find_erase_ne {α : Type} {k j : Nat} (h : j ≠ k) (m : SMap α) : SMap.find j (SMap.erase k m) = SMap.find j m := by
  induction m with
  | nil => rfl
  | cons e m ih =>
    obtain ⟨i, w⟩ := e
    simp only [SMap.erase]
    split
    · rename_i e; subst e; simp [SMap.find, Ne.symm h, ih]
    · simp [SMap.find, ih]

theorem SMap.find_erase_eq {α : Type} (k : Nat) (m : SMap α) : SMap.find k (SMap.erase k m) = none := by
  induction m with
  | nil => rfl
  | cons e m ih =>
    obtain ⟨i, w⟩ := e
    simp only [SMap.erase]
    split
    · exact ih
    · simp [SMap.find, *]

/-- Another index reads as before, whatever the form of the map. -/
@[simp] theorem SMap.get_set_ne {α : Type} [DecidableEq α] {k j : Nat} (h : j ≠ k) (d e v : α) (m : SMap α) :
    SMap.get e j (SMap.set d k v m) = SMap.get e j m := by
  unfold SMap.get SMap.set
  split
  · rw [SMap.find_erase_ne h]
  · rw [SMap.find_insert_ne h]

/-- The index written reads the value written. -/
@[simp] theorem SMap.get_set_eq {α : Type} [DecidableEq α] (d : α) (k : Nat) (v : α) (m : SMap α) :
    SMap.get d k (SMap.set d k v m) = v := by
  unfold SMap.get SMap.set
  split
  · rw [SMap.find_erase_eq]; simp_all
  · rw [SMap.find_insert_eq]; rfl

theorem SMap.wfAbove_mono {α : Type} [DecidableEq α] {d : Nat → α} {m : SMap α} {lo lo' : Nat} (hl : lo' ≤ lo)
    (h : SMap.wfAbove d lo m = true) : SMap.wfAbove d lo' m = true := by
  cases m with
  | nil => rfl
  | cons e m =>
    obtain ⟨i, w⟩ := e
    simp only [SMap.wfAbove, Bool.and_eq_true, decide_eq_true_eq] at h ⊢
    exact ⟨⟨by omega, h.1.2⟩, h.2⟩

theorem SMap.wfAbove_erase {α : Type} [DecidableEq α] {d : Nat → α} {m : SMap α} {lo k : Nat} (h : SMap.wfAbove d lo m = true) :
    SMap.wfAbove d lo (SMap.erase k m) = true := by
  induction m generalizing lo with
  | nil => rfl
  | cons e m ih =>
    obtain ⟨i, w⟩ := e
    simp only [SMap.wfAbove, Bool.and_eq_true, decide_eq_true_eq] at h
    simp only [SMap.erase]
    split
    · exact SMap.wfAbove_mono (by omega) (ih h.2)
    · simp only [SMap.wfAbove, Bool.and_eq_true, decide_eq_true_eq]; exact ⟨h.1, ih h.2⟩

theorem SMap.wfAbove_insert {α : Type} [DecidableEq α] {d : Nat → α} {m : SMap α} {lo k : Nat} {v : α} (hk : lo ≤ k) (hv : v ≠ d k)
    (h : SMap.wfAbove d lo m = true) : SMap.wfAbove d lo (SMap.insert k v m) = true := by
  induction m generalizing lo with
  | nil => simp [SMap.insert, SMap.wfAbove, hk, hv]
  | cons e m ih =>
    obtain ⟨i, w⟩ := e
    simp only [SMap.wfAbove, Bool.and_eq_true, decide_eq_true_eq] at h
    simp only [SMap.insert]
    split
    · simp only [SMap.wfAbove, Bool.and_eq_true, decide_eq_true_eq]
      exact ⟨⟨hk, hv⟩, ⟨by omega, h.1.2⟩, h.2⟩
    · split
      · rename_i e; subst e
        simp only [SMap.wfAbove, Bool.and_eq_true, decide_eq_true_eq]
        exact ⟨⟨hk, hv⟩, h.2⟩
      · simp only [SMap.wfAbove, Bool.and_eq_true, decide_eq_true_eq]
        exact ⟨h.1, ih (by omega) h.2⟩

/-- Storing keeps the canonical form. -/
theorem SMap.wf_set {α : Type} [DecidableEq α] {d : Nat → α} {m : SMap α} (k : Nat) (v : α) (h : SMap.wf d m = true) :
    SMap.wf d (SMap.set (d k) k v m) = true := by
  unfold SMap.set
  split
  · exact SMap.wfAbove_erase h
  · rename_i e; exact SMap.wfAbove_insert (Nat.zero_le _) e h

theorem SMap.wfAbove_filter {α : Type} [DecidableEq α] {d : Nat → α} {p : Nat × α → Bool} {m : SMap α} {lo : Nat}
    (h : SMap.wfAbove d lo m = true) : SMap.wfAbove d lo (m.filter p) = true := by
  induction m generalizing lo with
  | nil => rfl
  | cons e m ih =>
    obtain ⟨i, w⟩ := e
    simp only [SMap.wfAbove, Bool.and_eq_true, decide_eq_true_eq] at h
    simp only [List.filter_cons]
    split
    · simp only [SMap.wfAbove, Bool.and_eq_true, decide_eq_true_eq]; exact ⟨h.1, ih h.2⟩
    · exact SMap.wfAbove_mono (by omega) (ih h.2)

/-- Dropping entries keeps the canonical form. -/
theorem SMap.wf_filter {α : Type} [DecidableEq α] {d : Nat → α} {p : Nat × α → Bool} {m : SMap α} (h : SMap.wf d m = true) :
    SMap.wf d (m.filter p) = true := SMap.wfAbove_filter h

theorem SMap.wf_nil {α : Type} [DecidableEq α] (d : Nat → α) : SMap.wf d ([] : SMap α) = true := rfl

/-! ## Memory operations keep the canonical form, and read what was written -/

theorem State.setMemB_wf (s : State) (a : Nat) (b : Byte) (h : Memory.wf s.mem = true) : Memory.wf (s.setMemB a b).mem = true :=
  SMap.wf_set (d := fun _ => 0) a b h

theorem State.setMemBytes_wf (s : State) (a : Nat) (bs : List Byte) (h : Memory.wf s.mem = true) :
    Memory.wf (s.setMemBytes a bs).mem = true := by
  induction bs generalizing s a with
  | nil => exact h
  | cons b bs ih => exact ih _ _ (s.setMemB_wf a b h)

theorem State.setMemW_wf (s : State) (a : Nat) (w : Word) (h : Memory.wf s.mem = true) : Memory.wf (s.setMemW a w).mem = true :=
  s.setMemBytes_wf a _ h

theorem State.setMemWords_wf (s : State) (a : Nat) (ws : List Word) (h : Memory.wf s.mem = true) :
    Memory.wf (s.setMemWords a ws).mem = true := by
  induction ws generalizing s a with
  | nil => exact h
  | cons w ws ih => exact ih _ _ (s.setMemW_wf a w h)

theorem State.setSramW_wf (s : State) (i : Nat) (w : Word) (h : Memory.wf s.mem = true) : Memory.wf (s.setSramW i w).mem = true :=
  s.setMemW_wf _ w h

@[simp] theorem State.memB_setMemB_eq (s : State) (a : Nat) (b : Byte) : (s.setMemB a b).memB a = b := SMap.get_set_eq 0 a b s.mem

@[simp] theorem State.memB_setMemB_ne (s : State) {a k : Nat} (b : Byte) (h : k ≠ a) : (s.setMemB a b).memB k = s.memB k :=
  SMap.get_set_ne h 0 0 b s.mem

/-- A byte outside the bytes stored reads as before. -/
theorem State.memB_setMemBytes_out (s : State) {a k : Nat} (bs : List Byte) (h : k < a ∨ a + bs.length ≤ k) :
    (s.setMemBytes a bs).memB k = s.memB k := by
  induction bs generalizing s a with
  | nil => rfl
  | cons b bs ih =>
    simp only [List.length_cons] at h
    rw [State.setMemBytes, ih (s.setMemB a b) (by omega), State.memB_setMemB_ne s b (by omega)]

/-- A byte stored reads as written. -/
theorem State.memB_setMemBytes_in (s : State) (a : Nat) (bs : List Byte) (k : Nat) (hk : k < bs.length) :
    (s.setMemBytes a bs).memB (a + k) = bs.getD k 0 := by
  induction bs generalizing s a k with
  | nil => simp at hk
  | cons b bs ih =>
    rw [State.setMemBytes]
    cases k with
    | zero => rw [State.memB_setMemBytes_out _ _ (by omega)]; simp
    | succ k =>
      have := ih (s.setMemB a b) (a + 1) k (by simpa using hk)
      rw [show a + (k + 1) = a + 1 + k by omega, this]; simp

/-! ## Registers -/

@[simp] theorem State.getR_setR_eq (s : State) (a : Nat) (v : Word) : (s.setR a v).getR a = v := SMap.get_set_eq _ a v s.regs

@[simp] theorem State.getR_setR_ne (s : State) {a k : Nat} (v : Word) (h : k ≠ a) : (s.setR a v).getR k = s.getR k :=
  SMap.get_set_ne h _ _ v s.regs

end Sys2Proof.Machine
end

