-- ==== Sys2Proof/Laws/Held.lean ====
section
/-! SUPPORT. What every operation of the machine keeps: the queue of waiting commands, and the canonical form of everything stored
(`Held`). One lemma per operation; the other Held files hold those of the families. -/
namespace Sys2Proof.Machine
open Sys2Proof
set_option linter.unusedSimpArgs false

/-- The parts of a state that `Held` is about, taken one by one. -/
structure HeldOf (q p : List Instr) (m : SMap Byte) (r u n : SMap Word) (g v : SMap Byte) : Prop where
  queue : p = q
  mem : SMap.wf (fun _ => 0) m = true
  regs : SMap.wf resetWord r = true
  sump : SMap.wf (fun _ => 0) u = true
  mirror : SMap.wf (fun _ => 0) n = true
  guardRam : SMap.wf (fun _ => 0) g = true
  nv : SMap.wf (fun _ => 0) v = true

/-- The commands waiting in `s` are `q`, and `s` is canonical. -/
structure Held (q : List Instr) (s : State) : Prop where
  of : HeldOf q s.pending s.mem s.regs s.sump s.mirror s.grd.ram s.kp.nv

theorem Held.canonical {q} {s : State} (h : Held q s) : s.Canonical := ⟨h.of.mem, h.of.regs, h.of.sump, h.of.mirror, h.of.guardRam, h.of.nv⟩

theorem State.Canonical.held {s : State} (h : s.Canonical) : Held s.pending s := ⟨⟨rfl, h.mem, h.regs, h.sump, h.mirror, h.guardRam, h.nv⟩⟩

/-- A record update of a field that `Held` is not about drops out by this and `held_fold`. -/
theorem held_mk {q} {p x1 x2 x3 g k r x7 x8 m u n x12 x13 x14 x15 x16 x17 x18 x19 x20 x21 x22 x23 x24 x25 x26 x27 x28 x29 x30 x31 x32 x33 x34 x35 x36 x37 x38 x39 x40 x41 x42 x43 x44 x45 x46 x47} :
    Held q (State.mk p x1 x2 x3 g k r x7 x8 m u n x12 x13 x14 x15 x16 x17 x18 x19 x20 x21 x22 x23 x24 x25 x26 x27 x28 x29 x30 x31 x32 x33 x34 x35 x36 x37 x38 x39 x40 x41 x42 x43 x44 x45 x46 x47) = HeldOf q p m r u n g.ram k.nv :=
  propext ⟨fun h => h.of, fun h => ⟨h⟩⟩

theorem held_fold {q} {s : State} : HeldOf q s.pending s.mem s.regs s.sump s.mirror s.grd.ram s.kp.nv = Held q s :=
  propext ⟨fun h => ⟨h⟩, fun h => h.of⟩

theorem heldOf_filterRegs {q p m r u n g v f} (h : HeldOf q p m r u n g v) : HeldOf q p m (List.filter f r) u n g v :=
  { h with regs := SMap.wf_filter h.regs }

theorem heldOf_keepRegs {q p m r u n g v f} (h : HeldOf q p m r u n g v) : HeldOf q p m (SMap.keep f r) u n g v := heldOf_filterRegs h

theorem heldOf_filterMirror {q p m r u n g v f} (h : HeldOf q p m r u n g v) : HeldOf q p m r u (List.filter f n) g v :=
  { h with mirror := SMap.wf_filter h.mirror }

theorem heldOf_setRam {q p m r u n g v a b} (h : HeldOf q p m r u n g v) : HeldOf q p m r u n (SMap.set 0 a b g) v :=
  { h with guardRam := SMap.wf_set (d := fun _ => 0) a b h.guardRam }

theorem held_ite {q} {c : Prop} [Decidable c] {a b : State} (ha : Held q a) (hb : Held q b) : Held q (if c then a else b) := by
  split <;> assumption

theorem held_ite_snd {q} {β : Type} {c : Prop} [Decidable c] {a b : β × State} (ha : Held q a.2) (hb : Held q b.2) :
    Held q (if c then a else b).2 := by split <;> assumption

theorem held_ite_fst {q} {β : Type} {c : Prop} [Decidable c] {a b : State × β} (ha : Held q a.1) (hb : Held q b.1) :
    Held q (if c then a else b).1 := by split <;> assumption

theorem held_foldl {q} {α : Type} {f : State → α → State} {l : List α} {s : State} (h : Held q s)
    (hf : ∀ s a, Held q s → Held q (f s a)) : Held q (l.foldl f s) := by
  induction l generalizing s with
  | nil => exact h
  | cons a l ih => exact ih (hf s a h)

theorem held_foldl_snd {q} {α β : Type} {f : β × State → α → β × State} {l : List α} {s : β × State} (h : Held q s.2)
    (hf : ∀ s a, Held q s.2 → Held q (f s a).2) : Held q (l.foldl f s).2 := by
  induction l generalizing s with
  | nil => exact h
  | cons a l ih => exact ih (hf s a h)

theorem held_pair {α : Type} {q} {p : α × State} {f : α → State → State} (hp : Held q p.2) (hf : ∀ a t, Held q t → Held q (f a t)) :
    Held q (match p with | (a, t) => f a t) := hf _ _ hp

theorem held_pair_fst {α : Type} {q} {p : State × α} {f : State → α → State} (hp : Held q p.1)
    (hf : ∀ t a, Held q t → Held q (f t a)) : Held q (match p with | (t, a) => f t a) := hf _ _ hp

theorem held_pair_snd {α β : Type} {q} {p : α × State} {f : α → State → β × State} (hp : Held q p.2)
    (hf : ∀ a t, Held q t → Held q (f a t).2) : Held q (match p with | (a, t) => f a t).2 := hf _ _ hp

/-- An outcome whose next state, if it is one, is `Held`. -/
structure HeldO (q : List Instr) (o : Host.Outcome State Fault Refusal) : Prop where
  out : ∀ t, o = .next t → Held q t

theorem heldO_next {q s} : HeldO q (.next s) = Held q s := propext ⟨fun h => h.out _ rfl, fun h => ⟨fun t e => by cases e; exact h⟩⟩

theorem heldO_fault {q r} : HeldO q (.fault r) := ⟨fun t e => by cases e⟩

theorem heldO_ite {q} {c : Prop} [Decidable c] {a b} (ha : HeldO q a) (hb : HeldO q b) : HeldO q (if c then a else b) := by
  split <;> assumption

theorem State.setR_held {q} {s : State} {a v} (h : Held q s) : Held q (s.setR a v) := ⟨{ h.of with regs := SMap.wf_set a v h.of.regs }⟩

theorem State.setMemB_held {q} {s : State} {a b} (h : Held q s) : Held q (s.setMemB a b) := ⟨{ h.of with mem := s.setMemB_wf a b h.of.mem }⟩

theorem State.setSump_held {q} {s : State} {i w} (h : Held q s) : Held q (s.setSump i w) :=
  ⟨{ h.of with sump := SMap.wf_set (d := fun _ => 0) i w h.of.sump }⟩

theorem State.setMirror_held {q} {s : State} {i w v} (h : Held q s) : Held q (s.setMirror i w v) :=
  ⟨{ h.of with mirror := SMap.wf_set (d := fun _ => 0) (i * 64 + w) v h.of.mirror }⟩

theorem State.setNvB_held {q} {s : State} {a b} (h : Held q s) : Held q (s.setNvB a b) :=
  ⟨{ h.of with nv := SMap.wf_set (d := fun _ => 0) a b h.of.nv }⟩

theorem done_held {q} {s : State} (h : Held q s.flushLog) : HeldO q (done s) := ⟨fun t e => by cases e; exact h⟩

end Sys2Proof.Machine
end

