-- ==== Sys2Proof/Laws/HeldOps.lean ====
section
/-! SUPPORT. What the operations keep (`Held`): the shared operations. -/
namespace Sys2Proof.Machine
open Sys2Proof
set_option linter.unusedSimpArgs false

theorem State.modR_held {q} {s : State} {a : Nat} {f : Word → Word} (h : Held q s) :
    Held q (s.modR a f) := by
  unfold State.modR; repeat' first | with_reducible assumption | with_reducible apply State.setR_held

theorem State.setF_held {q} {s : State} {a lo len v : Nat} (h : Held q s) :
    Held q (s.setF a lo len v) := by
  unfold State.setF; repeat' first | with_reducible assumption | with_reducible apply State.modR_held

theorem State.setB_held {q} {s : State} {a i : Nat} {b : Bool} (h : Held q s) :
    Held q (s.setB a i b) := by
  unfold State.setB; repeat' first | with_reducible assumption | with_reducible apply State.modR_held

theorem State.incSat_held {q} {s : State} {a : Nat} (h : Held q s) :
    Held q (s.incSat a) := by
  unfold State.incSat; repeat' first | with_reducible assumption | with_reducible apply State.modR_held

theorem State.incMod_held {q} {s : State} {a : Nat} (h : Held q s) :
    Held q (s.incMod a) := by
  unfold State.incMod; repeat' first | with_reducible assumption | with_reducible apply State.modR_held

theorem State.incSatF_held {q} {s : State} {a lo len : Nat} (h : Held q s) :
    Held q (s.incSatF a lo len) := by
  unfold State.incSatF; repeat' first | with_reducible assumption | with_reducible apply State.setF_held

theorem State.irq_held {q} {s : State} {p b : Nat} (h : Held q s) :
    Held q (s.irq p b) := by
  unfold State.irq; repeat' first | with_reducible assumption | with_reducible apply State.setB_held

theorem State.irqIf_held {q} {s : State} {c : Bool} {p b : Nat} (h : Held q s) :
    Held q (s.irqIf c p b) := by
  unfold State.irqIf; repeat' first | with_reducible assumption | with_reducible apply State.irq_held | with_reducible apply held_ite

theorem State.blockEv_held {q} {s : State} {p : Nat} (h : Held q s) :
    Held q (s.blockEv p) := by
  unfold State.blockEv; repeat' first | with_reducible assumption | with_reducible apply State.incSatF_held

theorem State.refuse_held {q} {s : State} {p : Nat} (h : Held q s) :
    Held q (s.refuse p) := by
  unfold State.refuse; repeat' first | with_reducible assumption | with_reducible apply State.incSatF_held

theorem State.gated_held {q} {s : State} {p : Nat} {f : State → State} (h : Held q s) (hf : ∀ y0, Held q y0 → Held q (f y0)) :
    Held q (s.gated p f) := by
  unfold State.gated; repeat' first | with_reducible assumption | with_reducible apply State.refuse_held | with_reducible apply held_ite | apply_assumption

theorem State.busErr_held {q} {s : State} {cause ad : Nat} (h : Held q s) :
    Held q (s.busErr cause ad) := by
  unfold State.busErr; repeat' first | with_reducible assumption | with_reducible apply State.setR_held | with_reducible apply State.irq_held | with_reducible apply State.incSat_held | with_reducible apply held_ite

theorem State.staleRecord_held {q} {s : State} {h' : Word} {at_ : Nat} (h : Held q s) :
    Held q (s.staleRecord h' at_) := by
  unfold State.staleRecord; repeat' first | with_reducible assumption | with_reducible apply State.irq_held | with_reducible apply State.setR_held | with_reducible apply State.incSat_held

theorem State.stale_held {q} {s : State} {h' : Word} {at_ : Nat} (h : Held q s) :
    Held q (s.stale h' at_) := by
  unfold State.stale; repeat' first | with_reducible assumption | with_reducible apply State.staleRecord_held | with_reducible apply State.refuse_held

theorem State.writeShadow_held {q} {s : State} {a : Nat} {v : Word} (h : Held q s) :
    Held q (s.writeShadow a v) := by
  unfold State.writeShadow; repeat' first | with_reducible assumption | with_reducible apply State.setB_held | simp only [held_mk, held_fold]

theorem State.armCommit_held {q} {s : State} {p : Nat} (h : Held q s) :
    Held q (s.armCommit p) := by
  unfold State.armCommit; repeat' first | with_reducible assumption | with_reducible apply State.setB_held

theorem State.commitReg_held {q} {s : State} {a : Nat} (h : Held q s) :
    Held q (s.commitReg a) := by
  unfold State.commitReg; repeat' first | with_reducible assumption | with_reducible apply State.setR_held | simp only [held_mk, held_fold] | split

theorem State.commitPage_held {q} {s : State} {p : Nat} (h : Held q s) :
    Held q (s.commitPage p) := by
  unfold State.commitPage; repeat' first | intro _ | with_reducible assumption | with_reducible apply State.setR_held | with_reducible apply State.setF_held | with_reducible apply held_foldl | simp only [held_mk, held_fold]

theorem State.setMemBytes_held {q} {s : State} {a : Nat} {a' : List Byte} (h : Held q s) :
    Held q (s.setMemBytes a a') := by
  induction a' generalizing s a <;> (simp only [State.setMemBytes]; repeat' first | with_reducible assumption | with_reducible apply State.setMemB_held | apply_assumption)

theorem State.setMemW_held {q} {s : State} {a : Nat} {w : Word} (h : Held q s) :
    Held q (s.setMemW a w) := by
  unfold State.setMemW; repeat' first | with_reducible assumption | with_reducible apply State.setMemBytes_held

theorem State.setMemWords_held {q} {s : State} {a : Nat} {a' : List Word} (h : Held q s) :
    Held q (s.setMemWords a a') := by
  induction a' generalizing s a <;> (simp only [State.setMemWords]; repeat' first | with_reducible assumption | with_reducible apply State.setMemW_held | apply_assumption)

theorem State.setSramW_held {q} {s : State} {i : Nat} {w : Word} (h : Held q s) :
    Held q (s.setSramW i w) := by
  unfold State.setSramW; repeat' first | with_reducible assumption | with_reducible apply State.setMemW_held

theorem State.setNvBytes_held {q} {s : State} {a : Nat} {a' : List Byte} (h : Held q s) :
    Held q (s.setNvBytes a a') := by
  induction a' generalizing s a <;> (simp only [State.setNvBytes]; repeat' first | with_reducible assumption | with_reducible apply State.setNvB_held | apply_assumption)

theorem State.elapse_held {q} {s : State} {n : Nat} (h : Held q s) :
    Held q (s.elapse n) := by
  unfold State.elapse; repeat' first | with_reducible assumption | simp only [held_mk, held_fold]

theorem State.advanceTo_held {q} {s : State} {t : Nat} (h : Held q s) :
    Held q (s.advanceTo t) := by
  unfold State.advanceTo; repeat' first | with_reducible assumption | with_reducible apply State.elapse_held

theorem State.shiftPlant_held {q} {s : State} {d : Int} (h : Held q s) :
    Held q (s.shiftPlant d) := by
  unfold State.shiftPlant; repeat' first | with_reducible assumption | simp only [held_mk, held_fold]

theorem State.takeFree_held {q} {s : State} (h : Held q s) :
    Held q (s.takeFree).2 := by
  unfold State.takeFree; repeat' first | with_reducible assumption | simp only [held_mk, held_fold]

theorem State.volMakeRoom_held {q} {s : State} (h : Held q s) :
    Held q (s.volMakeRoom) := by
  unfold State.volMakeRoom; repeat' first | with_reducible assumption | with_reducible apply State.irq_held | with_reducible apply State.incSat_held | with_reducible apply State.setF_held | with_reducible apply held_ite

theorem State.putEntry_held {q} {s : State} {cls : Nat} {e : List Byte} (h : Held q s) :
    Held q (s.putEntry cls e) := by
  unfold State.putEntry; repeat' first | with_reducible assumption | with_reducible apply State.volMakeRoom_held | with_reducible apply State.setMemBytes_held | with_reducible apply State.incMod_held | with_reducible apply State.setF_held | with_reducible apply State.irqIf_held | with_reducible apply held_ite | simp only [held_mk, held_fold]

theorem State.putEntries_held {q} {s : State} {cls : Nat} {irqBit : Option Nat} {pg : Nat} {handle : Word} {time flags : Nat} {a : List (List Byte)} (h : Held q s) :
    Held q (s.putEntries cls irqBit pg handle time flags a) := by
  induction a generalizing s cls irqBit pg handle time flags <;> (simp only [State.putEntries]; repeat' first | with_reducible assumption | with_reducible apply State.putEntry_held | apply_assumption)

theorem State.logE_held {q} {s : State} {cls : Nat} {irqBit : Option Nat} {pg : Nat} {handle : Word} {data : List (Nat × Nat)} (h : Held q s) :
    Held q (s.logE cls irqBit pg handle data) := by
  unfold State.logE; repeat' first | with_reducible assumption | simp only [held_mk, held_fold]

theorem State.writeNote_held {q} {s : State} {n : LogNote} (h : Held q s) :
    Held q (s.writeNote n) := by
  unfold State.writeNote; repeat' first | with_reducible assumption | with_reducible apply State.putEntries_held

theorem State.writeNotes_held {q} {s : State} {a : List LogNote} (h : Held q s) :
    Held q (s.writeNotes a) := by
  induction a generalizing s <;> (simp only [State.writeNotes]; repeat' first | with_reducible assumption | with_reducible apply State.writeNote_held | apply_assumption)

theorem State.flushLog_held {q} {s : State} (h : Held q s) :
    Held q (s.flushLog) := by
  unfold State.flushLog; repeat' first | with_reducible assumption | with_reducible apply State.writeNotes_held | simp only [held_mk, held_fold] | split

theorem State.irqLog_held {q} {s : State} {cls b pg : Nat} {handle : Word} {data : List (Nat × Nat)} (h : Held q s) :
    Held q (s.irqLog cls b pg handle data) := by
  unfold State.irqLog; repeat' first | with_reducible assumption | with_reducible apply State.logE_held | with_reducible apply State.irq_held

theorem State.keeperLog_held {q} {s : State} {cls pg : Nat} {data : List Byte} (h : Held q s) :
    Held q (s.keeperLog cls pg data) := by
  unfold State.keeperLog; repeat' first | with_reducible assumption | with_reducible apply State.incMod_held | simp only [held_mk, held_fold]

theorem State.modLane_held {q} {s : State} {n : Nat} {f : Lane → Lane} (h : Held q s) :
    Held q (s.modLane n f) := by
  unfold State.modLane; repeat' first | with_reducible assumption | simp only [held_mk, held_fold]

theorem State.lineCatch_held {q} {s : State} {n : Nat} (h : Held q s) :
    Held q (s.lineCatch n) := by
  unfold State.lineCatch; repeat' first | with_reducible assumption | with_reducible apply State.modLane_held | with_reducible apply held_ite

theorem State.lineTrip_held {q} {s : State} {n : Nat} (h : Held q s) :
    Held q (s.lineTrip n) := by
  unfold State.lineTrip; repeat' first | with_reducible assumption | with_reducible apply State.modLane_held | with_reducible apply State.lineCatch_held | with_reducible apply held_ite

theorem State.lineTrain_held {q} {s : State} {n : Nat} {bytes : List Byte} (h : Held q s) :
    Held q (s.lineTrain n bytes) := by
  unfold State.lineTrain; repeat' first | with_reducible assumption | with_reducible apply State.modLane_held | with_reducible apply held_ite

theorem State.syncLoss_held {q} {s : State} {n : Nat} (h : Held q s) :
    Held q (s.syncLoss n) := by
  unfold State.syncLoss; repeat' first | with_reducible assumption | with_reducible apply State.incSat_held | with_reducible apply State.modLane_held | with_reducible apply State.irqLog_held | with_reducible apply State.blockEv_held | with_reducible apply held_ite

theorem State.cdrLoss_held {q} {s : State} {n : Nat} (h : Held q s) :
    Held q (s.cdrLoss n) := by
  unfold State.cdrLoss; repeat' first | with_reducible assumption | with_reducible apply State.modLane_held | with_reducible apply State.syncLoss_held

theorem State.laneMark_held {q} {s : State} {n period frac : Nat} (h : Held q s) :
    Held q (s.laneMark n period frac) := by
  unfold State.laneMark; repeat' first | with_reducible assumption | with_reducible apply State.setR_held | with_reducible apply State.incMod_held | with_reducible apply State.modLane_held

theorem State.laneMarkMiss_held {q} {s : State} {n period : Nat} (h : Held q s) :
    Held q (s.laneMarkMiss n period) := by
  unfold State.laneMarkMiss; repeat' first | with_reducible assumption | with_reducible apply State.modLane_held | with_reducible apply State.irq_held | with_reducible apply State.incSat_held

theorem State.laneModeSet_held {q} {s : State} {n m : Nat} (h : Held q s) :
    Held q (s.laneModeSet n m) := by
  unfold State.laneModeSet; repeat' first | with_reducible assumption | with_reducible apply State.setF_held | with_reducible apply State.cdrLoss_held | with_reducible apply State.modLane_held | with_reducible apply held_ite

theorem State.modRing_held {q} {s : State} {n : Nat} {f : Ring → Ring} (h : Held q s) :
    Held q (s.modRing n f) := by
  unfold State.modRing; repeat' first | with_reducible assumption | simp only [held_mk, held_fold]

theorem State.modDir_held {q} {s : State} {i : Nat} {f : DirEntry → DirEntry} (h : Held q s) :
    Held q (s.modDir i f) := by
  unfold State.modDir; repeat' first | with_reducible assumption | simp only [held_mk, held_fold]

theorem State.dirState_held {q} {s : State} {i st : Nat} (h : Held q s) :
    Held q (s.dirState i st) := by
  unfold State.dirState; repeat' first | with_reducible assumption | with_reducible apply State.irq_held | with_reducible apply State.blockEv_held | with_reducible apply State.modDir_held | with_reducible apply held_ite

theorem State.tripAllRings_held {q} {s : State} (h : Held q s) :
    Held q (s.tripAllRings) := by
  unfold State.tripAllRings; repeat' first | intro _ | with_reducible assumption | with_reducible apply State.lineTrip_held | with_reducible apply held_ite | with_reducible apply held_foldl

theorem State.guardChange_held {q} {s : State} {f : State → State} (h : Held q s) (hf : ∀ y0, Held q y0 → Held q (f y0)) :
    Held q (s.guardChange f) := by
  unfold State.guardChange; repeat' first | with_reducible assumption | simp only [held_mk, held_fold] | apply_assumption

theorem State.verifyProfile_held {q} {s : State} (h : Held q s) :
    Held q (s.verifyProfile) := by
  unfold State.verifyProfile; repeat' first | with_reducible assumption | with_reducible apply State.irq_held | with_reducible apply held_ite | simp only [held_mk, held_fold]

theorem State.sealClose_held {q} {s : State} (h : Held q s) :
    Held q (s.sealClose) := by
  unfold State.sealClose; repeat' first | with_reducible assumption | simp only [held_mk, held_fold]

theorem State.sealLeave_held {q} {s : State} (h : Held q s) :
    Held q (s.sealLeave) := by
  unfold State.sealLeave; repeat' first | with_reducible assumption | with_reducible apply State.sealClose_held | with_reducible apply held_ite

theorem State.setGen_held {q} {s : State} {g : Nat} {p : PwmGen} (h : Held q s) :
    Held q (s.setGen g p) := by
  unfold State.setGen; repeat' first | with_reducible assumption | simp only [held_mk, held_fold]

theorem State.modGen_held {q} {s : State} {g : Nat} {f : PwmGen → PwmGen} (h : Held q s) :
    Held q (s.modGen g f) := by
  unfold State.modGen; repeat' first | with_reducible assumption | with_reducible apply State.setGen_held

theorem State.countMp_held {q} {s : State} {g : Nat} {drop : Bool} (h : Held q s) :
    Held q (s.countMp g drop) := by
  unfold State.countMp; repeat' first | with_reducible assumption | with_reducible apply State.irq_held | with_reducible apply State.incSat_held

theorem State.pwmRise_held {q} {s : State} {g : Nat} {b : Bool} {now : Int} (h : Held q s) :
    Held q (s.pwmRise g b now) := by
  unfold State.pwmRise; repeat' first | with_reducible assumption | with_reducible apply State.modGen_held

theorem State.planRise_held {q} {s : State} {g : Nat} {b : Bool} {now : Int} (h : Held q s) :
    Held q (s.planRise g b now) := by
  unfold State.planRise; repeat' first | with_reducible assumption | with_reducible apply State.modGen_held | with_reducible apply held_ite

theorem State.tryRise_held {q} {s : State} {g : Nat} {b : Bool} {now : Int} (h : Held q s) :
    Held q (s.tryRise g b now) := by
  unfold State.tryRise; repeat' first | with_reducible assumption | with_reducible apply State.modGen_held | with_reducible apply State.planRise_held | with_reducible apply State.pwmRise_held | with_reducible apply State.countMp_held | with_reducible apply held_ite

theorem State.pwmFall_held {q} {s : State} {g : Nat} {b : Bool} {now : Int} (h : Held q s) :
    Held q (s.pwmFall g b now) := by
  unfold State.pwmFall; repeat' first | with_reducible assumption | with_reducible apply State.modGen_held | with_reducible apply State.setR_held | with_reducible apply State.planRise_held | with_reducible apply held_ite

theorem State.rawFall_held {q} {s : State} {g : Nat} {b : Bool} {now : Int} (h : Held q s) :
    Held q (s.rawFall g b now) := by
  unfold State.rawFall; repeat' first | with_reducible assumption | with_reducible apply State.modGen_held | with_reducible apply State.countMp_held | with_reducible apply State.pwmFall_held | with_reducible apply held_ite

theorem State.rawSet_held {q} {s : State} {g : Nat} {b lvl : Bool} {now : Int} (h : Held q s) :
    Held q (s.rawSet g b lvl now) := by
  unfold State.rawSet; repeat' first | with_reducible assumption | with_reducible apply State.modGen_held | with_reducible apply State.planRise_held | with_reducible apply State.rawFall_held | with_reducible apply held_ite

theorem State.pwmDrop_held {q} {s : State} {g : Nat} (h : Held q s) :
    Held q (s.pwmDrop g) := by
  unfold State.pwmDrop; repeat' first | with_reducible assumption | with_reducible apply State.modGen_held | with_reducible apply State.pwmFall_held

theorem State.pwmSegment_held {q} {s : State} {g p : Nat} {now : Int} (h : Held q s) :
    Held q (s.pwmSegment g p now) := by
  unfold State.pwmSegment; repeat' first | with_reducible assumption | with_reducible apply State.modGen_held | with_reducible apply State.rawSet_held | with_reducible apply held_ite

theorem State.markClamped_held {q} {s : State} {g : Nat} (h : Held q s) :
    Held q (s.markClamped g) := by
  unfold State.markClamped; repeat' first | with_reducible assumption | with_reducible apply State.setB_held | with_reducible apply held_ite

theorem State.splitUpdate_held {q} {s : State} {g : Nat} (h : Held q s) :
    Held q (s.splitUpdate g) := by
  unfold State.splitUpdate; repeat' first | with_reducible assumption | with_reducible apply State.logE_held | with_reducible apply State.irq_held | with_reducible apply State.incSat_held | with_reducible apply State.setB_held | with_reducible apply held_ite

theorem State.takeStaged_held {q} {s : State} {g : Nat} (h : Held q s) :
    Held q (s.takeStaged g) := by
  unfold State.takeStaged; repeat' first | with_reducible assumption | with_reducible apply State.modGen_held | with_reducible apply State.setR_held | with_reducible apply held_ite

theorem State.pwmTransfer_held {q} {s : State} {g : Nat} (h : Held q s) :
    Held q (s.pwmTransfer g) := by
  unfold State.pwmTransfer; repeat' first | with_reducible assumption | with_reducible apply State.takeStaged_held | with_reducible apply State.commitPage_held | with_reducible apply State.markClamped_held | with_reducible apply State.splitUpdate_held | with_reducible apply held_ite

theorem State.judgeLock_held {q} {s : State} {g : Nat} (h : Held q s) :
    Held q (s.judgeLock g) := by
  unfold State.judgeLock; repeat' first | with_reducible assumption | with_reducible apply State.setB_held | with_reducible apply State.pwmDrop_held | with_reducible apply held_ite

theorem State.releaseTrips_held {q} {s : State} {g : Nat} (h : Held q s) :
    Held q (s.releaseTrips g) := by
  unfold State.releaseTrips; repeat' first | with_reducible assumption | with_reducible apply State.modGen_held

theorem State.pwmResume_held {q} {s : State} {g : Nat} {now : Int} (h : Held q s) :
    Held q (s.pwmResume g now) := by
  unfold State.pwmResume; repeat' first | with_reducible assumption | with_reducible apply State.modGen_held | with_reducible apply State.planRise_held | with_reducible apply held_ite

theorem State.cmpAutoRelease_held {q} {s : State} {g : Nat} (h : Held q s) :
    Held q (s.cmpAutoRelease g) := by
  unfold State.cmpAutoRelease; repeat' first | intro _ | with_reducible assumption | with_reducible apply State.setB_held | with_reducible apply held_ite | with_reducible apply held_foldl

theorem State.pwmBoundary_held {q} {s : State} {g : Nat} {now : Int} (h : Held q s) :
    Held q (s.pwmBoundary g now) := by
  unfold State.pwmBoundary; repeat' first | with_reducible assumption | with_reducible apply State.pwmTransfer_held | with_reducible apply State.modGen_held | with_reducible apply State.judgeLock_held | with_reducible apply State.irq_held | with_reducible apply State.markClamped_held | with_reducible apply State.pwmResume_held | with_reducible apply State.pwmSegment_held | with_reducible apply State.releaseTrips_held | with_reducible apply State.cmpAutoRelease_held | with_reducible apply held_ite

theorem State.pwmMid_held {q} {s : State} {g : Nat} {now : Int} (h : Held q s) :
    Held q (s.pwmMid g now) := by
  unfold State.pwmMid; repeat' first | with_reducible assumption | with_reducible apply State.pwmTransfer_held | with_reducible apply State.pwmSegment_held | with_reducible apply held_ite

theorem State.pwmLoad_held {q} {s : State} {g p : Nat} (h : Held q s) :
    Held q (s.pwmLoad g p) := by
  unfold State.pwmLoad; repeat' first | with_reducible assumption | with_reducible apply State.modGen_held | with_reducible apply State.pwmBoundary_held | with_reducible apply State.pwmSegment_held | with_reducible apply held_ite

theorem State.pwmStop_held {q} {s : State} {g : Nat} (h : Held q s) :
    Held q (s.pwmStop g) := by
  unfold State.pwmStop; repeat' first | with_reducible assumption | with_reducible apply State.pwmDrop_held | with_reducible apply State.modGen_held

theorem State.pwmFreeze_held {q} {s : State} (h : Held q s) :
    Held q (s.pwmFreeze) := by
  unfold State.pwmFreeze; repeat' first | intro _ | with_reducible assumption | with_reducible apply State.modGen_held | with_reducible apply State.pwmStop_held | with_reducible apply held_ite | with_reducible apply held_foldl

theorem State.pwmThaw_held {q} {s : State} (h : Held q s) :
    Held q (s.pwmThaw) := by
  unfold State.pwmThaw; repeat' first | intro _ | with_reducible assumption | with_reducible apply State.pwmLoad_held | with_reducible apply State.modGen_held | with_reducible apply held_ite | with_reducible apply held_foldl

theorem State.pwmE0_held {q} {s : State} {g : Nat} (h : Held q s) :
    Held q (s.pwmE0 g) := by
  unfold State.pwmE0; repeat' first | with_reducible assumption | with_reducible apply State.judgeLock_held | with_reducible apply State.pwmLoad_held | with_reducible apply State.modGen_held | with_reducible apply State.irq_held | with_reducible apply State.incSat_held | with_reducible apply held_ite

theorem State.pwmStage_held {q} {s : State} {g : Nat} {ua ub : Word} (h : Held q s) :
    Held q (s.pwmStage g ua ub) := by
  unfold State.pwmStage; repeat' first | with_reducible assumption | with_reducible apply State.armCommit_held | with_reducible apply State.modGen_held | with_reducible apply State.setR_held

theorem State.pwmTrip_held {q} {s : State} {k g : Nat} (h : Held q s) :
    Held q (s.pwmTrip k g) := by
  unfold State.pwmTrip; repeat' first | with_reducible assumption | with_reducible apply State.modGen_held | with_reducible apply State.irq_held | with_reducible apply State.incSat_held | with_reducible apply State.setB_held | with_reducible apply State.pwmDrop_held | with_reducible apply State.blockEv_held | with_reducible apply held_ite

theorem State.pwmTripAll_held {q} {s : State} {k : Nat} (h : Held q s) :
    Held q (s.pwmTripAll k) := by
  unfold State.pwmTripAll; repeat' first | intro _ | with_reducible assumption | with_reducible apply State.pwmTrip_held | with_reducible apply held_ite | with_reducible apply held_foldl

theorem State.pwmBlocks_held {q} {s : State} (h : Held q s) :
    Held q (s.pwmBlocks) := by
  unfold State.pwmBlocks; repeat' first | intro _ | with_reducible assumption | with_reducible apply State.pwmDrop_held | with_reducible apply held_ite | with_reducible apply held_foldl

theorem State.modIsl_held {q} {s : State} {n : Nat} {f : Island → Island} (h : Held q s) :
    Held q (s.modIsl n f) := by
  unfold State.modIsl; repeat' first | with_reducible assumption | simp only [held_mk, held_fold]

theorem State.softStart_held {q} {s : State} {n : Nat} (h : Held q s) :
    Held q (s.softStart n) := by
  unfold State.softStart; repeat' first | with_reducible assumption | with_reducible apply State.modIsl_held | with_reducible apply held_ite

theorem State.softAll_held {q} {s : State} (h : Held q s) :
    Held q (s.softAll) := by
  unfold State.softAll; repeat' first | intro _ | with_reducible assumption | with_reducible apply State.softStart_held | with_reducible apply held_foldl

theorem State.turnOff_held {q} {s : State} {n : Nat} (h : Held q s) :
    Held q (s.turnOff n) := by
  unfold State.turnOff; repeat' first | with_reducible assumption | with_reducible apply State.modIsl_held | with_reducible apply held_ite

theorem State.turnOn_held {q} {s : State} {n : Nat} (h : Held q s) :
    Held q (s.turnOn n) := by
  unfold State.turnOn; repeat' first | with_reducible assumption | with_reducible apply State.incMod_held | with_reducible apply State.modIsl_held

theorem State.swapSides_held {q} {s : State} {port : Bool} (h : Held q s) :
    Held q (s.swapSides port) := by
  unfold State.swapSides; repeat' first | with_reducible assumption | with_reducible apply State.setB_held | simp only [held_mk, held_fold]

theorem State.bypClose_held {q} {s : State} {auto : Bool} (h : Held q s) :
    Held q (s.bypClose auto) := by
  unfold State.bypClose; repeat' first | with_reducible assumption | with_reducible apply State.pwmBlocks_held | with_reducible apply held_ite | simp only [held_mk, held_fold]

theorem State.bypAuto_held {q} {s : State} (h : Held q s) :
    Held q (s.bypAuto) := by
  unfold State.bypAuto; repeat' first | with_reducible assumption | with_reducible apply State.bypClose_held | with_reducible apply held_ite

theorem State.cellFault_held {q} {s : State} {code : Nat} (h : Held q s) :
    Held q (s.cellFault code) := by
  unfold State.cellFault; repeat' first | with_reducible assumption | with_reducible apply State.bypAuto_held | with_reducible apply State.setR_held | with_reducible apply held_ite

theorem State.bypOpen_held {q} {s : State} (h : Held q s) :
    Held q (s.bypOpen) := by
  unfold State.bypOpen; repeat' first | with_reducible assumption | with_reducible apply State.irqIf_held | with_reducible apply held_ite | simp only [held_mk, held_fold]

theorem State.countArith_held {q} {s : State} {nan ofl : Bool} (h : Held q s) :
    Held q (s.countArith nan ofl) := by
  unfold State.countArith; repeat' first | with_reducible assumption | with_reducible apply State.incSat_held | with_reducible apply State.irqIf_held | with_reducible apply held_ite

theorem State.retire_held {q} {s : State} {c : Nat} {r : Retire} {main : Bool} (h : Held q s) :
    Held q (s.retire c r main) := by
  unfold State.retire; repeat' first | with_reducible assumption | with_reducible apply State.countArith_held | with_reducible apply State.irq_held | with_reducible apply State.incSat_held | with_reducible apply State.setSump_held | with_reducible apply State.setSramW_held | with_reducible apply State.setR_held | with_reducible apply held_ite | simp only [held_mk, held_fold] | split

theorem State.retireUpTo_held {q} {s : State} {c : Nat} {a : List (Nat × Retire × Bool)} (h : Held q s) :
    Held q (s.retireUpTo c a) := by
  induction a generalizing s c <;> (simp only [State.retireUpTo]; repeat' first | with_reducible assumption | with_reducible apply State.retire_held | with_reducible apply held_ite | simp only [held_mk, held_fold] | apply_assumption)

theorem State.settleTo_held {q} {s : State} {c : Nat} (h : Held q s) :
    Held q (s.settleTo c) := by
  unfold State.settleTo; repeat' first | with_reducible assumption | with_reducible apply State.retireUpTo_held

theorem State.settleNow_held {q} {s : State} (h : Held q s) :
    Held q (s.settleNow) := by
  unfold State.settleNow; repeat' first | with_reducible assumption | with_reducible apply State.settleTo_held | with_reducible apply held_ite

theorem State.pushRetire_held {q} {s : State} {c : Nat} {r : Retire} (h : Held q s) :
    Held q (s.pushRetire c r) := by
  unfold State.pushRetire; repeat' first | with_reducible assumption | simp only [held_mk, held_fold]

theorem State.strokeOpen_held {q} {s : State} (h : Held q s) :
    Held q (s.strokeOpen) := by
  unfold State.strokeOpen; repeat' first | with_reducible assumption | with_reducible apply State.settleTo_held | with_reducible apply State.advanceTo_held

theorem State.strokeClose_held {q} {s : State} {fin : Bool} {cycles : Nat} (h : Held q s) :
    Held q (s.strokeClose fin cycles) := by
  unfold State.strokeClose; repeat' first | with_reducible assumption | with_reducible apply State.pushRetire_held | with_reducible apply held_ite | simp only [held_mk, held_fold]

theorem State.pushCount_held {q} {s : State} {c : Nat} {nan ofl : Bool} (h : Held q s) :
    Held q (s.pushCount c nan ofl) := by
  unfold State.pushCount; repeat' first | with_reducible assumption | with_reducible apply State.pushRetire_held | with_reducible apply held_ite

theorem State.resFault_held {q} {s : State} (h : Held q s) :
    Held q (s.resFault) := by
  unfold State.resFault; repeat' first | with_reducible assumption | with_reducible apply State.irq_held | with_reducible apply State.incSat_held

theorem State.readElem_held {q} {s : State} {d i : Nat} (h : Held q s) :
    Held q (s.readElem d i).2 := by
  unfold State.readElem; repeat' first | with_reducible assumption | with_reducible apply State.resFault_held | split

theorem State.writeElem_held {q} {s : State} {d i : Nat} {w : Word} {c : Nat} (h : Held q s) :
    Held q (s.writeElem d i w c) := by
  unfold State.writeElem; repeat' first | with_reducible assumption | with_reducible apply State.resFault_held | with_reducible apply State.pushRetire_held | with_reducible apply held_ite | split

theorem State.writeScalar_held {q} {s : State} {f : Scalar} {w : Word} (h : Held q s) :
    Held q (s.writeScalar f w) := by
  unfold State.writeScalar; repeat' first | with_reducible assumption | with_reducible apply State.pushRetire_held | with_reducible apply State.resFault_held | with_reducible apply held_ite

theorem State.writeResult_held {q} {s : State} {f : Scalar} {r : FRes} (h : Held q s) :
    Held q (s.writeResult f r) := by
  unfold State.writeResult; repeat' first | with_reducible assumption | with_reducible apply State.writeScalar_held | with_reducible apply State.pushCount_held | with_reducible apply held_ite

theorem State.scalarWord_held {q} {s : State} {op : Nat} {f : Scalar} {g : State → Word → Word → Word → FRes} (h : Held q s) :
    Held q (s.scalarWord op f g) := by
  unfold State.scalarWord; repeat' first | with_reducible assumption | with_reducible apply State.strokeOpen_held | with_reducible apply State.writeResult_held | with_reducible apply State.strokeClose_held | with_reducible apply held_ite

theorem State.scalarPred_held {q} {s : State} {op : Nat} {f : Scalar} {g : State → Word → Word → Option Bool} (h : Held q s) :
    Held q (s.scalarPred op f g) := by
  unfold State.scalarPred; repeat' first | with_reducible assumption | with_reducible apply State.strokeOpen_held | with_reducible apply State.pushRetire_held | with_reducible apply State.pushCount_held | with_reducible apply State.strokeClose_held | with_reducible apply held_ite

theorem vecFold_held {q} {α : Type} {step : State → α → Nat → α × State} {c : Nat} {s : State} {acc : α} {i a : Nat} (hstep : ∀ y0 y1 y2, Held q y0 → Held q (step y0 y1 y2).2) (h : Held q s) :
    Held q (vecFold step c s acc i a).2 := by
  induction a generalizing step c s acc i <;> (simp only [vecFold]; repeat' first | intro _ | with_reducible assumption | with_reducible apply State.settleTo_held | apply_assumption)

theorem State.vector_held {q} {α : Type} {s : State} {op : Nat} {f : Vec} {init : State → α} {step : State → α → Nat → α × State} {finish : State → α → State} (h : Held q s) (hstep : ∀ y0 y1 y2, Held q y0 → Held q (step y0 y1 y2).2) (hfinish : ∀ y0 y1, Held q y0 → Held q (finish y0 y1)) :
    Held q (State.vector s op f init step finish) := by
  unfold State.vector; repeat' first | intro _ | with_reducible assumption | with_reducible apply State.strokeOpen_held | with_reducible apply vecFold_held | with_reducible apply State.strokeClose_held | with_reducible apply held_ite | simp only [held_mk, held_fold] | apply_assumption

theorem State.writeD_held {q} {s : State} {f : Vec} {r : FRes} (h : Held q s) :
    Held q (s.writeD f r) := by
  unfold State.writeD; repeat' first | with_reducible assumption | with_reducible apply State.pushRetire_held | with_reducible apply State.pushCount_held

theorem State.elemMap_held {q} {s : State} {f : Vec} {i : Nat} {g : Word → FRes} (h : Held q s) :
    Held q (s.elemMap f i g).2 := by
  unfold State.elemMap; repeat' first | with_reducible assumption | with_reducible apply held_ite | with_reducible apply State.readElem_held | with_reducible apply State.writeElem_held | with_reducible apply State.pushCount_held

theorem State.setChan_held {q} {s : State} {n : Nat} {c : ChanSlot} (h : Held q s) :
    Held q (s.setChan n c) := by
  unfold State.setChan; repeat' first | with_reducible assumption | simp only [held_mk, held_fold]

theorem State.modChan_held {q} {s : State} {n : Nat} {f : ChanSlot → ChanSlot} (h : Held q s) :
    Held q (s.modChan n f) := by
  unfold State.modChan; repeat' first | with_reducible assumption | with_reducible apply State.setChan_held

theorem State.setChanWord_held {q} {s : State} {c : ChanSlot} {w : Nat} {v : Word} (h : Held q s) :
    Held q (s.setChanWord c w v) := by
  unfold State.setChanWord; repeat' first | with_reducible assumption | with_reducible apply State.setSump_held | with_reducible apply held_ite

theorem State.chanMove_held {q} {s : State} {n : Nat} {c : ChanSlot} (h : Held q s) :
    Held q (s.chanMove n c) := by
  unfold State.chanMove; repeat' first | with_reducible assumption | with_reducible apply State.irqIf_held | with_reducible apply State.blockEv_held | with_reducible apply State.setChan_held | with_reducible apply State.logE_held

theorem State.chanFree_held {q} {s : State} {n : Nat} (h : Held q s) :
    Held q (s.chanFree n) := by
  unfold State.chanFree; repeat' first | with_reducible assumption | with_reducible apply State.chanMove_held

theorem State.putStrokes_held {q} {s : State} {b k : Nat} {ws : List (BitVec 64)} (h : Held q s) :
    Held q (s.putStrokes b k ws) := by
  unfold State.putStrokes; repeat' first | intro _ | with_reducible assumption | with_reducible apply State.setMemBytes_held | with_reducible apply held_foldl

theorem State.setLay_held {q} {s : State} {b : Nat} {l : BankLayout} (h : Held q s) :
    Held q (s.setLay b l) := by
  unfold State.setLay; repeat' first | with_reducible assumption | with_reducible apply held_ite | simp only [held_mk, held_fold]

theorem State.checkMissed_held {q} {s : State} (h : Held q s) :
    Held q (s.checkMissed) := by
  unfold State.checkMissed; repeat' first | with_reducible assumption | with_reducible apply State.irqLog_held | with_reducible apply held_ite | simp only [held_mk, held_fold]

theorem State.stageBank_held {q} {s : State} (h : Held q s) :
    Held q (s.stageBank) := by
  unfold State.stageBank; repeat' first | with_reducible assumption | with_reducible apply State.checkMissed_held | with_reducible apply held_ite | simp only [held_mk, held_fold]

theorem State.compose_held {q} {s : State} {p : BankPlan} (h : Held q s) :
    Held q (s.compose p) := by
  unfold State.compose; repeat' first | intro _ | with_reducible assumption | with_reducible apply State.putStrokes_held | with_reducible apply State.setR_held | with_reducible apply State.stageBank_held | with_reducible apply State.setLay_held | with_reducible apply held_foldl

theorem State.dropBank_held {q} {s : State} (h : Held q s) :
    Held q (s.dropBank) := by
  unfold State.dropBank; repeat' first | intro _ | with_reducible assumption | with_reducible apply State.chanMove_held | with_reducible apply State.setChan_held | with_reducible apply State.logE_held | with_reducible apply held_ite | with_reducible apply held_foldl | simp only [held_mk, held_fold]

theorem State.enterMode_held {q} {s : State} {m : Mode} (h : Held q s) :
    Held q (s.enterMode m) := by
  unfold State.enterMode; repeat' first | with_reducible assumption | with_reducible apply State.sealLeave_held | with_reducible apply State.blockEv_held | with_reducible apply State.irq_held | with_reducible apply State.setR_held | with_reducible apply held_ite | simp only [held_mk, held_fold]

theorem State.enterSafe_held {q} {s : State} {cause : Nat} (h : Held q s) :
    Held q (s.enterSafe cause) := by
  unfold State.enterSafe; repeat' first | with_reducible assumption | with_reducible apply State.setB_held | with_reducible apply State.setR_held | with_reducible apply State.enterMode_held | with_reducible apply State.irqLog_held | with_reducible apply State.tripAllRings_held | with_reducible apply State.pwmBlocks_held | with_reducible apply State.softAll_held | simp only [held_mk, held_fold] | split

theorem State.ueFound_held {q} {s : State} {a : Nat} (h : Held q s) :
    Held q (s.ueFound a) := by
  unfold State.ueFound; repeat' first | with_reducible assumption | with_reducible apply State.irqLog_held | with_reducible apply State.setR_held | with_reducible apply State.incSat_held | with_reducible apply State.enterSafe_held | with_reducible apply held_ite

theorem State.localTrip_held {q} {s : State} {n : Nat} (h : Held q s) :
    Held q (s.localTrip n) := by
  unfold State.localTrip; repeat' first | with_reducible assumption | with_reducible apply State.incSat_held | with_reducible apply State.setB_held | with_reducible apply State.cellFault_held | with_reducible apply State.enterSafe_held | with_reducible apply State.irqLog_held | with_reducible apply held_ite

theorem State.guardReqs_held {q} {s : State} (h : Held q s) :
    Held q (s.guardReqs) := by
  unfold State.guardReqs; repeat' first | with_reducible assumption | simp only [held_mk, held_fold]

theorem State.transition_held {q} {s : State} {m : Mode} (h : Held q s) :
    Held q (s.transition m) := by
  unfold State.transition; repeat' first | with_reducible assumption | with_reducible apply State.enterMode_held | with_reducible apply State.setR_held | with_reducible apply State.pwmBlocks_held | with_reducible apply State.logE_held | with_reducible apply held_ite | simp only [held_mk, held_fold]

theorem State.refuseReq_held {q} {s : State} {req why : Nat} (h : Held q s) :
    Held q (s.refuseReq req why) := by
  unfold State.refuseReq; repeat' first | with_reducible assumption | with_reducible apply State.irq_held | with_reducible apply State.setR_held | with_reducible apply State.refuse_held | with_reducible apply State.logE_held | with_reducible apply held_ite | simp only [held_mk, held_fold]

theorem State.tryMode_held {q} {s : State} {req mask : Nat} {m : Mode} (h : Held q s) :
    Held q (s.tryMode req mask m) := by
  unfold State.tryMode; repeat' first | with_reducible assumption | with_reducible apply State.transition_held | with_reducible apply State.refuseReq_held | with_reducible apply held_ite

theorem State.judgeReq_held {q} {s : State} {req : Nat} (h : Held q s) :
    Held q (s.judgeReq req) := by
  unfold State.judgeReq; repeat' first | with_reducible assumption | with_reducible apply State.refuseReq_held | with_reducible apply State.enterSafe_held | with_reducible apply State.transition_held | with_reducible apply State.tryMode_held | with_reducible apply held_ite | split

theorem State.modeEval_held {q} {s : State} (h : Held q s) :
    Held q (s.modeEval) := by
  unfold State.modeEval; repeat' first | with_reducible assumption | with_reducible apply State.setR_held | with_reducible apply State.judgeReq_held | with_reducible apply held_ite | simp only [held_mk, held_fold]

theorem State.modeCmdOp_held {q} {s : State} {req : Nat} (h : Held q s) :
    Held q (s.modeCmdOp req) := by
  unfold State.modeCmdOp; repeat' first | with_reducible assumption | with_reducible apply State.refuseReq_held | with_reducible apply State.setR_held | with_reducible apply State.enterSafe_held | with_reducible apply State.setB_held | with_reducible apply held_ite | simp only [held_mk, held_fold] | split

theorem State.clearanceOp_held {q} {s : State} {key : Nat} (h : Held q s) :
    Held q (s.clearanceOp key) := by
  unfold State.clearanceOp; repeat' first | with_reducible assumption | with_reducible apply State.refuse_held | with_reducible apply State.logE_held | with_reducible apply held_ite | simp only [held_mk, held_fold]

end Sys2Proof.Machine
end

