-- ==== Sys2Proof/Laws/HeldPwm.lean ====
section
/-! SUPPORT. What the operations keep (`Held`): the PWM, converter and metering operations. -/
namespace Sys2Proof.Machine
open Sys2Proof
set_option linter.unusedSimpArgs false

theorem State.setAdc_held {q} {s : State} {n : Nat} {a : AdcState} (h : Held q s) :
    Held q (s.setAdc n a) := by
  unfold State.setAdc; repeat' first | with_reducible assumption | simp only [held_mk, held_fold]

theorem State.modSeq_held {q} {s : State} {n : Nat} {inj : Bool} {f : AdcSeq → AdcSeq} (h : Held q s) :
    Held q (s.modSeq n inj f) := by
  unfold State.modSeq; repeat' first | with_reducible assumption | with_reducible apply State.setAdc_held

theorem State.adcFire_held {q} {s : State} {code : Nat} (h : Held q s) :
    Held q (s.adcFire code) := by
  unfold State.adcFire; repeat' first | intro _ | with_reducible assumption | with_reducible apply State.modSeq_held | with_reducible apply held_ite | with_reducible apply held_foldl

theorem State.adcTake_held {q} {s : State} {n : Nat} {inj : Bool} {epoch : Option Nat} (h : Held q s) :
    Held q (s.adcTake n inj epoch) := by
  unfold State.adcTake; repeat' first | with_reducible assumption | with_reducible apply State.irq_held | with_reducible apply State.incSat_held | with_reducible apply State.modSeq_held | with_reducible apply held_ite

theorem State.adcAbandon_held {q} {s : State} {n : Nat} (h : Held q s) :
    Held q (s.adcAbandon n) := by
  unfold State.adcAbandon; repeat' first | with_reducible assumption | with_reducible apply State.setAdc_held

theorem State.adcqPush_held {q} {s : State} {w : Word} (h : Held q s) :
    Held q (s.adcqPush w) := by
  unfold State.adcqPush; repeat' first | with_reducible assumption | with_reducible apply State.irq_held | with_reducible apply State.incSat_held | with_reducible apply State.setF_held | with_reducible apply State.setSramW_held | with_reducible apply State.blockEv_held | with_reducible apply State.irqIf_held | with_reducible apply held_ite

theorem State.putLv_held {q} {s : State} {conv ch code : Nat} (h : Held q s) :
    Held q (s.putLv conv ch code) := by
  unfold State.putLv; repeat' first | with_reducible assumption | with_reducible apply State.setR_held | with_reducible apply held_ite | simp only [held_mk, held_fold]

theorem State.openWire_held {q} {s : State} {ch code : Nat} (h : Held q s) :
    Held q (s.openWire ch code) := by
  unfold State.openWire; repeat' first | with_reducible assumption | with_reducible apply State.irq_held | with_reducible apply State.setB_held | with_reducible apply held_ite

theorem State.adcDeliver_held {q} {s : State} {n : Nat} {c : AdcConv} {code : Nat} (h : Held q s) :
    Held q (s.adcDeliver n c code) := by
  unfold State.adcDeliver; repeat' first | with_reducible assumption | with_reducible apply State.incSat_held | with_reducible apply State.setR_held | with_reducible apply State.putLv_held | with_reducible apply State.openWire_held | with_reducible apply State.adcqPush_held | with_reducible apply State.irq_held | with_reducible apply State.blockEv_held | with_reducible apply held_ite | split

theorem State.lvSnapshot_held {q} {s : State} (h : Held q s) :
    Held q (s.lvSnapshot) := by
  unfold State.lvSnapshot; repeat' first | intro _ | with_reducible assumption | with_reducible apply State.modR_held | with_reducible apply State.blockEv_held | with_reducible apply State.setSramW_held | with_reducible apply held_ite | with_reducible apply held_foldl | simp only [held_mk, held_fold]

theorem State.cmpSet_held {q} {s : State} {n t8 : Nat} (h : Held q s) :
    Held q (s.cmpSet n t8) := by
  unfold State.cmpSet; repeat' first | with_reducible assumption | with_reducible apply State.incSat_held | with_reducible apply State.setB_held | with_reducible apply State.setR_held | with_reducible apply State.blockEv_held | with_reducible apply State.irq_held | with_reducible apply State.localTrip_held | with_reducible apply State.adcFire_held | with_reducible apply State.pwmTripAll_held | with_reducible apply held_ite

theorem State.cmpFiltered_held {q} {s : State} {n : Nat} {v : Bool} {t8 : Nat} (h : Held q s) :
    Held q (s.cmpFiltered n v t8) := by
  unfold State.cmpFiltered; repeat' first | with_reducible assumption | with_reducible apply State.setB_held | with_reducible apply State.cmpSet_held | with_reducible apply held_ite

theorem State.cmpSample_held {q} {s : State} {n : Nat} {v : Bool} {t8 : Nat} (h : Held q s) :
    Held q (s.cmpSample n v t8) := by
  unfold State.cmpSample; repeat' first | with_reducible assumption | with_reducible apply State.cmpFiltered_held | with_reducible apply held_ite | simp only [held_mk, held_fold]

theorem State.cmpSamples_held {q} {s : State} {n t a : Nat} (h : Held q s) :
    Held q (s.cmpSamples n t a) := by
  induction a generalizing s n t <;> (simp only [State.cmpSamples]; repeat' first | with_reducible assumption | with_reducible apply State.cmpSample_held | apply_assumption)

theorem State.cmpSettle_held {q} {s : State} {n : Nat} (h : Held q s) :
    Held q (s.cmpSettle n) := by
  unfold State.cmpSettle; repeat' first | with_reducible assumption | with_reducible apply State.cmpSamples_held | with_reducible apply held_ite | simp only [held_mk, held_fold]

theorem State.cmpSettleAll_held {q} {s : State} (h : Held q s) :
    Held q (s.cmpSettleAll) := by
  unfold State.cmpSettleAll; repeat' first | intro _ | with_reducible assumption | with_reducible apply State.cmpSettle_held | with_reducible apply held_foldl

theorem State.cmpLevels_held {q} {s : State} {n : Nat} {high low : Bool} (h : Held q s) :
    Held q (s.cmpLevels n high low) := by
  unfold State.cmpLevels; repeat' first | with_reducible assumption | with_reducible apply State.setB_held | with_reducible apply State.setF_held

theorem State.swTrigOp_held {q} {s : State} {n : Nat} {inj : Bool} (h : Held q s) :
    Held q (s.swTrigOp n inj) := by
  unfold State.swTrigOp; repeat' first | with_reducible assumption | with_reducible apply State.adcTake_held | with_reducible apply held_ite

theorem State.adcBegin_held {q} {s : State} {n : Nat} {inj : Bool} {k : Nat} (h : Held q s) :
    Held q (s.adcBegin n inj k) := by
  unfold State.adcBegin; repeat' first | with_reducible assumption | with_reducible apply State.modSeq_held | with_reducible apply State.setAdc_held

theorem State.adcEnableOp_held {q} {s : State} {n : Nat} {en : Bool} (h : Held q s) :
    Held q (s.adcEnableOp n en) := by
  unfold State.adcEnableOp; repeat' first | with_reducible assumption | with_reducible apply State.setB_held | with_reducible apply State.adcAbandon_held | with_reducible apply State.modSeq_held | with_reducible apply held_ite

theorem State.adcClearOp_held {q} {s : State} {n : Nat} (h : Held q s) :
    Held q (s.adcClearOp n) := by
  unfold State.adcClearOp; repeat' first | with_reducible assumption | with_reducible apply State.setR_held

theorem State.adcRegOp_held {q} {s : State} {n off : Nat} {data : Word} (h : Held q s) :
    Held q (s.adcRegOp n off data) := by
  unfold State.adcRegOp; repeat' first | with_reducible assumption | with_reducible apply State.refuse_held | with_reducible apply State.setR_held | with_reducible apply held_ite

theorem State.qRdOp_held {q} {s : State} {data : Word} (h : Held q s) :
    Held q (s.qRdOp data) := by
  unfold State.qRdOp; repeat' first | with_reducible assumption | with_reducible apply State.refuse_held | with_reducible apply State.setF_held | with_reducible apply held_ite

theorem State.qCfgOp_held {q} {s : State} {data : Word} (h : Held q s) :
    Held q (s.qCfgOp data) := by
  unfold State.qCfgOp; repeat' first | with_reducible assumption | with_reducible apply State.refuse_held | with_reducible apply State.setR_held | with_reducible apply held_ite

theorem State.sramBaseOp_held {q} {s : State} {a n : Nat} {data : Word} (h : Held q s) :
    Held q (s.sramBaseOp a n data) := by
  unfold State.sramBaseOp; repeat' first | with_reducible assumption | with_reducible apply State.refuse_held | with_reducible apply State.setR_held | with_reducible apply held_ite

theorem State.owOp_held {q} {s : State} {pd : Bool} {data : Word} (h : Held q s) :
    Held q (s.owOp pd data) := by
  unfold State.owOp; repeat' first | with_reducible assumption | with_reducible apply State.refuse_held | with_reducible apply State.setR_held | with_reducible apply held_ite

theorem State.cmpDecide_held {q} {s : State} {n : Nat} {high low : Bool} (h : Held q s) :
    Held q (s.cmpDecide n high low) := by
  unfold State.cmpDecide; repeat' first | with_reducible assumption | with_reducible apply State.cmpLevels_held | with_reducible apply State.cmpSample_held | with_reducible apply State.cmpFiltered_held | with_reducible apply held_ite

theorem State.latchClearOp_held {q} {s : State} {mask : BitVec 16} (h : Held q s) :
    Held q (s.latchClearOp mask) := by
  unfold State.latchClearOp; repeat' first | intro _ | with_reducible assumption | with_reducible apply State.cmpSettleAll_held | with_reducible apply State.refuse_held | with_reducible apply State.setB_held | with_reducible apply State.cmpSet_held | with_reducible apply held_ite | with_reducible apply held_foldl

theorem State.cmpRegOp_held {q} {s : State} {n o : Nat} {data : Word} (h : Held q s) :
    Held q (s.cmpRegOp n o data) := by
  unfold State.cmpRegOp; repeat' first | with_reducible assumption | with_reducible apply State.refuse_held | with_reducible apply State.setR_held | with_reducible apply State.cmpSettle_held | with_reducible apply State.cmpLevels_held | with_reducible apply State.cmpFiltered_held | with_reducible apply held_ite | simp only [held_mk, held_fold]

theorem State.setProf_held {q} {s : State} {n : Nat} {p : ProfSlot} (h : Held q s) :
    Held q (s.setProf n p) := by
  unfold State.setProf; repeat' first | with_reducible assumption | simp only [held_mk, held_fold]

theorem State.setTrk_held {q} {s : State} {n : Nat} {t : TrkSlot} (h : Held q s) :
    Held q (s.setTrk n t) := by
  unfold State.setTrk; repeat' first | with_reducible assumption | simp only [held_mk, held_fold]

theorem State.pick2_held {q} {s : State} {a b : Word} (h : Held q s) :
    Held q (s.pick2 a b).2 := by
  unfold State.pick2; repeat' first | with_reducible assumption | with_reducible apply State.takeFree_held | with_reducible apply held_ite_snd

theorem State.mdatSamples_held {q} {s : State} {l : List (BitVec 63)} (h : Held q s) :
    Held q (s.mdatSamples l) := by
  unfold State.mdatSamples; repeat' first | intro _ | with_reducible assumption | with_reducible apply State.setR_held | with_reducible apply State.blockEv_held | with_reducible apply State.setSramW_held | with_reducible apply held_ite | with_reducible apply held_foldl

theorem State.stuckJudge_held {q} {s : State} {p : Nat} (h : Held q s) :
    Held q (s.stuckJudge p) := by
  unfold State.stuckJudge; repeat' first | with_reducible assumption | with_reducible apply State.setB_held | with_reducible apply held_ite

theorem State.metcOp_held {q} {s : State} {a : Nat} {data : Word} (h : Held q s) :
    Held q (s.metcOp a data) := by
  unfold State.metcOp; repeat' first | with_reducible assumption | with_reducible apply State.setR_held | with_reducible apply State.refuse_held | with_reducible apply held_ite

theorem State.modMet_held {q} {s : State} {p : Nat} {f : MetPoint → MetPoint} (h : Held q s) :
    Held q (s.modMet p f) := by
  unfold State.modMet; repeat' first | with_reducible assumption | simp only [held_mk, held_fold]

theorem State.metClear_held {q} {s : State} {p : Nat} (h : Held q s) :
    Held q (s.metClear p) := by
  unfold State.metClear; repeat' first | intro _ | with_reducible assumption | with_reducible apply State.setR_held | with_reducible apply held_foldl

theorem State.nearQ_held {q} {s : State} {v : Int} (h : Held q s) :
    Held q (s.nearQ v).2 := by
  unfold State.nearQ; repeat' first | with_reducible assumption | with_reducible apply State.takeFree_held | with_reducible apply held_ite_snd

theorem State.setNear_held {q} {s : State} {a : Nat} {v : Int} (h : Held q s) :
    Held q (s.setNear a v) := by
  unfold State.setNear; repeat' first | with_reducible assumption | with_reducible apply State.nearQ_held | with_reducible apply State.setR_held

theorem State.pickNat_held {q} {s : State} {p q' : Nat} (h : Held q s) :
    Held q (s.pickNat p q').2 := by
  unfold State.pickNat; repeat' first | with_reducible assumption | with_reducible apply State.takeFree_held | with_reducible apply held_ite_snd

theorem State.rangeChange_held {q} {s : State} {p k : Nat} {low : Bool} (h : Held q s) :
    Held q (s.rangeChange p k low) := by
  unfold State.rangeChange; repeat' first | with_reducible assumption | with_reducible apply State.blockEv_held | with_reducible apply State.incSat_held | with_reducible apply State.setB_held

theorem State.rangeJudge_held {q} {s : State} {p : Nat} (h : Held q s) :
    Held q (s.rangeJudge p) := by
  unfold State.rangeJudge; repeat' first | intro _ | with_reducible assumption | with_reducible apply State.irq_held | with_reducible apply State.setB_held | with_reducible apply held_ite | with_reducible apply held_foldl

theorem State.rangeNext_held {q} {s : State} {p k : Nat} {own peak : Int} (h : Held q s) :
    Held q (s.rangeNext p k own peak) := by
  unfold State.rangeNext; repeat' first | with_reducible assumption | with_reducible apply State.modMet_held | with_reducible apply State.rangeChange_held | with_reducible apply held_ite

theorem State.cycleChan_held {q} {s : State} {p k : Nat} {v : ChanSum} {i : PairSum} (h : Held q s) :
    Held q (s.cycleChan p k v i) := by
  unfold State.cycleChan; repeat' first | with_reducible assumption | with_reducible apply State.setNear_held | with_reducible apply held_ite

theorem State.cycleTotal_held {q} {s : State} {r : Nat → Nat} (h : Held q s) :
    Held q (s.cycleTotal r) := by
  unfold State.cycleTotal; repeat' first | with_reducible assumption | with_reducible apply State.setNear_held

theorem State.energyAdd_held {q} {s : State} {p q' : Nat} {d : Int} (h : Held q s) :
    Held q (s.energyAdd p q' d) := by
  unfold State.energyAdd; repeat' first | with_reducible assumption | with_reducible apply State.modMet_held | with_reducible apply State.setR_held

theorem State.cycleEnergy_held {q} {s : State} {p len : Nat} (h : Held q s) :
    Held q (s.cycleEnergy p len) := by
  unfold State.cycleEnergy; repeat' first | with_reducible assumption | with_reducible apply State.takeFree_held | with_reducible apply State.energyAdd_held | with_reducible apply State.setR_held | with_reducible apply State.irq_held | with_reducible apply State.incSat_held | with_reducible apply State.modMet_held | with_reducible apply held_ite

theorem State.trackCycle_held {q} {s : State} {p : Nat} {c : CycleIn} (h : Held q s) :
    Held q (s.trackCycle p c) := by
  unfold State.trackCycle; repeat' first | with_reducible assumption | with_reducible apply State.irqLog_held | with_reducible apply State.modMet_held | with_reducible apply State.setB_held | with_reducible apply State.setR_held | with_reducible apply held_ite

theorem State.cycleEnd_held {q} {s : State} {p : Nat} {c : CycleIn} (h : Held q s) :
    Held q (s.cycleEnd p c) := by
  unfold State.cycleEnd; repeat' first | intro _ | with_reducible assumption | with_reducible apply State.cycleChan_held | with_reducible apply State.cycleTotal_held | with_reducible apply State.setNear_held | with_reducible apply State.incMod_held | with_reducible apply State.cycleEnergy_held | with_reducible apply State.trackCycle_held | with_reducible apply State.setR_held | with_reducible apply State.modMet_held | with_reducible apply State.rangeNext_held | with_reducible apply State.rangeJudge_held | with_reducible apply held_foldl

theorem State.modAux_held {q} {s : State} {q' : Nat} {f : AuxPort → AuxPort} (h : Held q s) :
    Held q (s.modAux q' f) := by
  unfold State.modAux; repeat' first | with_reducible assumption | simp only [held_mk, held_fold]

theorem State.auxDrive_held {q} {s : State} {g a b : Nat} (h : Held q s) :
    Held q (s.auxDrive g a b) := by
  unfold State.auxDrive; repeat' first | with_reducible assumption | with_reducible apply State.armCommit_held | with_reducible apply State.writeShadow_held

theorem State.auxCommutate_held {q} {s : State} {q' : Nat} (h : Held q s) :
    Held q (s.auxCommutate q') := by
  unfold State.auxCommutate; repeat' first | intro _ | with_reducible assumption | with_reducible apply State.auxDrive_held | with_reducible apply held_ite | with_reducible apply held_foldl | simp only [held_mk, held_fold] | split

theorem State.auxE6_held {q} {s : State} {q' : Nat} (h : Held q s) :
    Held q (s.auxE6 q') := by
  unfold State.auxE6; repeat' first | with_reducible assumption | with_reducible apply State.auxCommutate_held | with_reducible apply State.modAux_held | with_reducible apply held_ite

theorem State.auxE0_held {q} {s : State} (h : Held q s) :
    Held q (s.auxE0) := by
  unfold State.auxE0; repeat' first | with_reducible assumption | with_reducible apply State.setSramW_held | with_reducible apply held_ite

theorem State.auxSpeed_held {q} {s : State} {q' iv : Nat} {rev : Bool} (h : Held q s) :
    Held q (s.auxSpeed q' iv rev) := by
  unfold State.auxSpeed; repeat' first | with_reducible assumption | with_reducible apply State.takeFree_held | with_reducible apply State.setR_held | with_reducible apply State.setNear_held | with_reducible apply held_ite

theorem State.auxEdge_held {q} {s : State} {q' : Nat} {rev : Bool} (h : Held q s) :
    Held q (s.auxEdge q' rev) := by
  unfold State.auxEdge; repeat' first | with_reducible assumption | with_reducible apply State.setF_held | with_reducible apply State.setB_held | with_reducible apply State.blockEv_held | with_reducible apply State.auxSpeed_held | with_reducible apply State.setR_held | with_reducible apply State.modAux_held | with_reducible apply held_ite | simp only [held_mk, held_fold] | split

theorem State.auxCfgOp_held {q} {s : State} {q' : Nat} {v : Word} (h : Held q s) :
    Held q (s.auxCfgOp q' v) := by
  unfold State.auxCfgOp; repeat' first | with_reducible assumption | with_reducible apply State.refuse_held | with_reducible apply State.setR_held | with_reducible apply State.modAux_held | with_reducible apply held_ite

theorem State.auxSpdBaseOp_held {q} {s : State} {v : Word} (h : Held q s) :
    Held q (s.auxSpdBaseOp v) := by
  unfold State.auxSpdBaseOp; repeat' first | with_reducible assumption | with_reducible apply State.refuse_held | with_reducible apply State.setR_held | with_reducible apply held_ite

theorem State.auxMaxDutyOp_held {q} {s : State} {q' : Nat} {v : Word} (h : Held q s) :
    Held q (s.auxMaxDutyOp q' v) := by
  unfold State.auxMaxDutyOp; repeat' first | with_reducible assumption | with_reducible apply State.setR_held | with_reducible apply State.refuse_held | with_reducible apply held_ite

theorem State.auxStallOp_held {q} {s : State} {q' : Nat} {v : Word} (h : Held q s) :
    Held q (s.auxStallOp q' v) := by
  unfold State.auxStallOp; repeat' first | with_reducible assumption | with_reducible apply State.refuse_held | with_reducible apply State.setR_held | with_reducible apply held_ite

theorem State.auxClearOp_held {q} {s : State} {q' : Nat} (h : Held q s) :
    Held q (s.auxClearOp q') := by
  unfold State.auxClearOp; repeat' first | with_reducible assumption | with_reducible apply State.setR_held

theorem State.takeEdge_held {q} {s : State} {g : Nat} {t : Int} {a : PwmEdge} (h : Held q s) :
    Held q (s.takeEdge g t a) := by
  unfold State.takeEdge; repeat' first | with_reducible assumption | with_reducible apply State.pwmFall_held | with_reducible apply State.rawSet_held | with_reducible apply State.tryRise_held | split

theorem State.pwmTripClrOp_held {q} {s : State} {g : Nat} (h : Held q s) :
    Held q (s.pwmTripClrOp g) := by
  unfold State.pwmTripClrOp; repeat' first | with_reducible assumption | with_reducible apply State.setR_held | with_reducible apply State.modGen_held | with_reducible apply held_ite

theorem State.tzClrOp_held {q} {s : State} (h : Held q s) :
    Held q (s.tzClrOp) := by
  unfold State.tzClrOp; repeat' first | with_reducible assumption | with_reducible apply State.setF_held

theorem State.pwmStartOp_held {q} {s : State} {mask : BitVec 12} (h : Held q s) :
    Held q (s.pwmStartOp mask) := by
  unfold State.pwmStartOp; repeat' first | intro _ | with_reducible assumption | with_reducible apply State.pwmLoad_held | with_reducible apply State.elapse_held | with_reducible apply held_ite | with_reducible apply held_foldl

theorem State.gcommitOp_held {q} {s : State} {mask : BitVec 12} (h : Held q s) :
    Held q (s.gcommitOp mask) := by
  unfold State.gcommitOp; repeat' first | intro _ | with_reducible assumption | with_reducible apply State.armCommit_held | with_reducible apply held_ite | with_reducible apply held_foldl

theorem State.cmpWriteOp_held {q} {s : State} {g : Nat} {b : Bool} {data : Word} (h : Held q s) :
    Held q (s.cmpWriteOp g b data) := by
  unfold State.cmpWriteOp; repeat' first | with_reducible assumption | with_reducible apply State.refuse_held | with_reducible apply State.writeShadow_held | with_reducible apply State.armCommit_held | with_reducible apply held_ite

theorem State.prdWriteOp_held {q} {s : State} {g : Nat} {data : Word} (h : Held q s) :
    Held q (s.prdWriteOp g data) := by
  unfold State.prdWriteOp; repeat' first | with_reducible assumption | with_reducible apply State.refuse_held | with_reducible apply State.writeShadow_held | with_reducible apply held_ite

theorem State.pwmEnable_held {q} {s : State} {g : Nat} {was now : Bool} (h : Held q s) :
    Held q (s.pwmEnable g was now) := by
  unfold State.pwmEnable; repeat' first | with_reducible assumption | with_reducible apply State.modGen_held | with_reducible apply State.pwmStop_held | with_reducible apply State.pwmLoad_held | with_reducible apply held_ite

theorem State.pwmCtrlOp_held {q} {s : State} {g : Nat} {data : Word} (h : Held q s) :
    Held q (s.pwmCtrlOp g data) := by
  unfold State.pwmCtrlOp; repeat' first | with_reducible assumption | with_reducible apply State.refuse_held | with_reducible apply State.judgeLock_held | with_reducible apply State.pwmEnable_held | with_reducible apply State.setR_held | with_reducible apply held_ite

theorem State.epochPhaseOp_held {q} {s : State} {g : Nat} {data : Word} (h : Held q s) :
    Held q (s.epochPhaseOp g data) := by
  unfold State.epochPhaseOp; repeat' first | with_reducible assumption | with_reducible apply State.refuse_held | with_reducible apply State.modGen_held | with_reducible apply State.setR_held | with_reducible apply held_ite

theorem State.pwmClrFlagsOp_held {q} {s : State} {g : Nat} (h : Held q s) :
    Held q (s.pwmClrFlagsOp g) := by
  unfold State.pwmClrFlagsOp; repeat' first | with_reducible apply State.markClamped_held | with_reducible assumption | with_reducible apply State.setF_held

theorem State.pwmClrCountersOp_held {q} {s : State} {g : Nat} (h : Held q s) :
    Held q (s.pwmClrCountersOp g) := by
  unfold State.pwmClrCountersOp; repeat' first | with_reducible assumption | with_reducible apply State.setR_held

theorem State.pwmcPrechargeOp_held {q} {s : State} {data : Word} (h : Held q s) :
    Held q (s.pwmcPrechargeOp data) := by
  unfold State.pwmcPrechargeOp; repeat' first | with_reducible assumption | with_reducible apply State.setR_held | with_reducible apply State.refuse_held | with_reducible apply held_ite

theorem State.through_held {q} {s : State} {sel cls at_ : Nat} {f : State → Nat → State} (h : Held q s) (hf : ∀ y0 y1, Held q y0 → Held q (f y0 y1)) :
    Held q (s.through sel cls at_ f) := by
  unfold State.through; repeat' first | with_reducible assumption | with_reducible apply State.refuse_held | with_reducible apply State.setR_held | with_reducible apply State.stale_held | with_reducible apply held_ite | apply_assumption

theorem State.selectOp_held {q} {s : State} {sel cls : Nat} {h' : Word} (h : Held q s) :
    Held q (s.selectOp sel cls h') := by
  unfold State.selectOp; repeat' first | with_reducible assumption | with_reducible apply State.setR_held | with_reducible apply State.stale_held | with_reducible apply held_ite

end Sys2Proof.Machine
end

