-- ==== Sys2Proof/Laws/HeldPump.lean ====
section
/-! SUPPORT. What the operations keep (`Held`): the Pump, the profiles and the trackers. -/
namespace Sys2Proof.Machine
open Sys2Proof
set_option linter.unusedSimpArgs false

theorem State.pumpStart_held {q} {s : State} (h : Held q s) :
    Held q (s.pumpStart) := by
  unfold State.pumpStart; repeat' first | with_reducible assumption | with_reducible apply State.settleTo_held | with_reducible apply State.advanceTo_held | simp only [held_mk, held_fold]

theorem State.applyOut_held {q} {s : State} {a : SMap (Option Word)} (h : Held q s) :
    Held q (s.applyOut a) := by
  induction a generalizing s with
  | nil => exact h
  | cons e r ih =>
    obtain ⟨i, _ | w⟩ := e
    · exact ih h
    · exact ih (State.setSramW_held h)

theorem State.overrunAtE4_held {q} {s : State} (h : Held q s) :
    Held q (s.overrunAtE4) := by
  unfold State.overrunAtE4; repeat' first | with_reducible assumption | with_reducible apply State.irq_held | with_reducible apply State.incSat_held | with_reducible apply State.enterSafe_held | with_reducible apply held_ite | simp only [held_mk, held_fold]

theorem State.outCommit_held {q} {s : State} (h : Held q s) :
    Held q (s.outCommit) := by
  unfold State.outCommit; repeat' first | with_reducible assumption | with_reducible apply State.settleTo_held | with_reducible apply State.applyOut_held | with_reducible apply State.overrunAtE4_held | with_reducible apply held_ite | simp only [held_mk, held_fold]

theorem State.sliceBegin_held {q} {s : State} {j : Nat} (h : Held q s) :
    Held q (s.sliceBegin j) := by
  unfold State.sliceBegin; repeat' first | with_reducible assumption | with_reducible apply State.settleTo_held | with_reducible apply State.advanceTo_held | with_reducible apply State.setF_held | simp only [held_mk, held_fold]

theorem State.finRecord_held {q} {s : State} (h : Held q s) :
    Held q (s.finRecord) := by
  unfold State.finRecord; repeat' first | with_reducible assumption | with_reducible apply State.modR_held | with_reducible apply State.setR_held | with_reducible apply State.logE_held | with_reducible apply held_ite

theorem State.slowAbandon_held {q} {s : State} (h : Held q s) :
    Held q (s.slowAbandon) := by
  unfold State.slowAbandon; repeat' first | with_reducible assumption | with_reducible apply State.irqLog_held | with_reducible apply State.incSat_held | with_reducible apply held_ite

theorem State.markExecuted_held {q} {s : State} (h : Held q s) :
    Held q (s.markExecuted) := by
  unfold State.markExecuted; repeat' first | intro _ | with_reducible assumption | with_reducible apply State.modChan_held | with_reducible apply held_ite | with_reducible apply held_foldl

theorem State.pumpEndPeriod_held {q} {s : State} (h : Held q s) :
    Held q (s.pumpEndPeriod) := by
  unfold State.pumpEndPeriod; repeat' first | with_reducible assumption | with_reducible apply State.settleTo_held | with_reducible apply State.setR_held | with_reducible apply State.finRecord_held | with_reducible apply State.slowAbandon_held | with_reducible apply State.markExecuted_held | with_reducible apply held_ite | simp only [held_mk, held_fold]

theorem State.chooseSlice_held {q} {s : State} (h : Held q s) :
    Held q (s.chooseSlice) := by
  unfold State.chooseSlice; repeat' first | with_reducible assumption | with_reducible apply State.setF_held | with_reducible apply held_ite | simp only [held_mk, held_fold]

theorem State.profRegsReset_held {q} {s : State} {n : Nat} (h : Held q s) :
    Held q (s.profRegsReset n) := by
  unfold State.profRegsReset; repeat' first | with_reducible assumption | simp only [held_mk, held_fold] | apply heldOf_filterRegs

theorem State.pfCreateOp_held {q} {s : State} {slot : Option Nat} (h : Held q s) :
    Held q (s.pfCreateOp slot) := by
  unfold State.pfCreateOp; repeat' first | with_reducible assumption | with_reducible apply State.refuse_held | with_reducible apply State.setR_held | with_reducible apply State.setProf_held | with_reducible apply State.profRegsReset_held | simp only [held_mk, held_fold] | split

theorem State.onProf_held {q} {s : State} {f : State → Nat → State} (h : Held q s) (hf : ∀ y0 y1, Held q y0 → Held q (f y0 y1)) :
    Held q (s.onProf f) := by
  unfold State.onProf; repeat' first | intro _ | with_reducible assumption | with_reducible apply State.through_held | apply_assumption

theorem State.pfDestroyOp_held {q} {s : State} (h : Held q s) :
    Held q (s.pfDestroyOp) := by
  unfold State.pfDestroyOp; repeat' first | intro _ | with_reducible assumption | with_reducible apply State.onProf_held | with_reducible apply State.setProf_held | with_reducible apply State.refuse_held | with_reducible apply held_ite

theorem State.profQueue_held {q} {s : State} {n c : Nat} (h : Held q s) :
    Held q (s.profQueue n c) := by
  unfold State.profQueue; repeat' first | with_reducible assumption | with_reducible apply State.setProf_held

theorem State.pfHoldOp_held {q} {s : State} (h : Held q s) :
    Held q (s.pfHoldOp) := by
  unfold State.pfHoldOp; repeat' first | intro _ | with_reducible assumption | with_reducible apply State.onProf_held | with_reducible apply State.refuse_held | with_reducible apply State.profQueue_held | with_reducible apply held_ite

theorem State.pfReleaseOp_held {q} {s : State} (h : Held q s) :
    Held q (s.pfReleaseOp) := by
  unfold State.pfReleaseOp; repeat' first | intro _ | with_reducible assumption | with_reducible apply State.onProf_held | with_reducible apply State.profQueue_held

theorem State.fstopPend_held {q} {s : State} {n : Nat} (h : Held q s) :
    Held q (s.fstopPend n) := by
  unfold State.fstopPend; repeat' first | with_reducible assumption | with_reducible apply State.setProf_held

theorem State.pfFstopOp_held {q} {s : State} (h : Held q s) :
    Held q (s.pfFstopOp) := by
  unfold State.pfFstopOp; repeat' first | intro _ | with_reducible assumption | with_reducible apply State.onProf_held | with_reducible apply State.fstopPend_held

theorem State.fsAllOp_held {q} {s : State} (h : Held q s) :
    Held q (s.fsAllOp) := by
  unfold State.fsAllOp; repeat' first | intro _ | with_reducible assumption | with_reducible apply State.fstopPend_held | with_reducible apply held_ite | with_reducible apply held_foldl

theorem State.pfResumeOp_held {q} {s : State} (h : Held q s) :
    Held q (s.pfResumeOp) := by
  unfold State.pfResumeOp; repeat' first | intro _ | with_reducible assumption | with_reducible apply State.onProf_held | with_reducible apply State.profQueue_held

theorem State.pfSetOp_held {q} {s : State} (h : Held q s) :
    Held q (s.pfSetOp) := by
  unfold State.pfSetOp; repeat' first | intro _ | with_reducible assumption | with_reducible apply State.onProf_held | with_reducible apply State.profQueue_held | with_reducible apply State.refuse_held | with_reducible apply held_ite

theorem State.pfCmdOp_held {q} {s : State} {data : Word} (h : Held q s) :
    Held q (s.pfCmdOp data) := by
  unfold State.pfCmdOp; repeat' first | with_reducible assumption | with_reducible apply State.pfCreateOp_held | with_reducible apply State.pfDestroyOp_held | with_reducible apply State.pfHoldOp_held | with_reducible apply State.pfReleaseOp_held | with_reducible apply State.pfFstopOp_held | with_reducible apply State.pfResumeOp_held | with_reducible apply State.pfSetOp_held | with_reducible apply State.refuse_held | split

theorem State.commitLimit_held {q} {s : State} {a : Nat} (h : Held q s) :
    Held q (s.commitLimit a).1 := by
  unfold State.commitLimit; repeat' first | with_reducible assumption | with_reducible apply State.setR_held | with_reducible apply State.refuse_held | with_reducible apply held_ite_fst | simp only [held_mk, held_fold] | split

theorem State.commitTarget_held {q} {s : State} {n : Nat} (h : Held q s) :
    Held q (s.commitTarget n).1 := by
  unfold State.commitTarget; repeat' first | with_reducible assumption | with_reducible apply State.irqIf_held | with_reducible apply State.setProf_held | with_reducible apply State.setR_held | simp only [held_mk, held_fold] | split

theorem State.commitSlot_held {q} {s : State} {n : Nat} (h : Held q s) :
    Held q (s.commitSlot n) := by
  unfold State.commitSlot; repeat' first | with_reducible assumption | with_reducible apply State.commitTarget_held | with_reducible apply State.commitLimit_held | with_reducible apply State.setProf_held

theorem State.commitProf_held {q} {s : State} (h : Held q s) :
    Held q (s.commitProf) := by
  unfold State.commitProf; repeat' first | intro _ | with_reducible assumption | with_reducible apply State.setF_held | with_reducible apply State.commitSlot_held | with_reducible apply held_ite | with_reducible apply held_foldl

theorem State.replan_held {q} {s : State} {n : Nat} (h : Held q s) :
    Held q (s.replan n) := by
  unfold State.replan; repeat' first | with_reducible assumption | with_reducible apply State.blockEv_held | with_reducible apply State.setProf_held

theorem State.setYva_held {q} {s : State} {n : Nat} {y v a : Word} (h : Held q s) :
    Held q (s.setYva n y v a) := by
  unfold State.setYva; repeat' first | with_reducible assumption | with_reducible apply State.setR_held

theorem State.freeNear_held {q} {s : State} {ideal : Int} (h : Held q s) :
    Held q (s.freeNear ideal).2 := by
  unfold State.freeNear; repeat' first | with_reducible assumption | with_reducible apply State.takeFree_held | with_reducible apply held_ite_snd

theorem State.profAdvance_held {q} {s : State} {n : Nat} (h : Held q s) :
    Held q (s.profAdvance n) := by
  unfold State.profAdvance; repeat' first | with_reducible assumption | with_reducible apply State.setProf_held | with_reducible apply State.setR_held | with_reducible apply State.setYva_held | with_reducible apply State.freeNear_held | with_reducible apply held_ite

theorem State.fstopAdvance_held {q} {s : State} {n : Nat} (h : Held q s) :
    Held q (s.fstopAdvance n) := by
  unfold State.fstopAdvance; repeat' first | with_reducible assumption | with_reducible apply State.setR_held | with_reducible apply State.setYva_held | with_reducible apply State.setProf_held | with_reducible apply State.pick2_held | with_reducible apply held_ite

theorem State.profFstop_held {q} {s : State} {n : Nat} (h : Held q s) :
    Held q (s.profFstop n) := by
  unfold State.profFstop; repeat' first | with_reducible assumption | with_reducible apply State.logE_held | with_reducible apply State.setProf_held

theorem State.profCommand_held {q} {s : State} {n c : Nat} (h : Held q s) :
    Held q (s.profCommand n c) := by
  unfold State.profCommand; repeat' first | with_reducible assumption | with_reducible apply State.refuse_held | with_reducible apply State.setYva_held | with_reducible apply State.setProf_held | with_reducible apply State.replan_held | with_reducible apply State.setR_held | with_reducible apply held_ite | simp only [held_mk, held_fold] | split

theorem State.profSlotE0_held {q} {s : State} {entered : Bool} {n : Nat} (h : Held q s) :
    Held q (s.profSlotE0 entered n) := by
  unfold State.profSlotE0; repeat' first | intro _ | with_reducible assumption | with_reducible apply State.profFstop_held | with_reducible apply State.profCommand_held | with_reducible apply State.setProf_held | with_reducible apply State.replan_held | with_reducible apply State.profAdvance_held | with_reducible apply State.fstopAdvance_held | with_reducible apply held_ite | with_reducible apply held_foldl

theorem State.profE0_held {q} {s : State} (h : Held q s) :
    Held q (s.profE0) := by
  unfold State.profE0; repeat' first | intro _ | with_reducible assumption | with_reducible apply State.profSlotE0_held | with_reducible apply State.setSump_held | with_reducible apply held_ite | with_reducible apply held_foldl

theorem State.psWriteOp_held {q} {s : State} {n o : Nat} {data : Word} (h : Held q s) :
    Held q (s.psWriteOp n o data) := by
  unfold State.psWriteOp; repeat' first | with_reducible assumption | with_reducible apply State.refuse_held | with_reducible apply State.setB_held | with_reducible apply State.setR_held | with_reducible apply held_ite | simp only [held_mk, held_fold]

theorem State.psSequencer_held {q} {s : State} {n o : Nat} {data : Word} (h : Held q s) :
    Held q (s.psSequencer n o data) := by
  unfold State.psSequencer; repeat' first | with_reducible assumption | simp only [held_mk, held_fold]

theorem State.writeVref_held {q} {s : State} {n : Nat} (h : Held q s) :
    Held q (s.writeVref n) := by
  unfold State.writeVref; repeat' first | with_reducible assumption | with_reducible apply State.setSramW_held

theorem State.trkArraysReset_held {q} {s : State} {n : Nat} (h : Held q s) :
    Held q (s.trkArraysReset n) := by
  unfold State.trkArraysReset; repeat' first | with_reducible assumption | with_reducible apply State.setR_held

theorem State.tCreateOp_held {q} {s : State} {slot : Option Nat} (h : Held q s) :
    Held q (s.tCreateOp slot) := by
  unfold State.tCreateOp; repeat' first | with_reducible assumption | with_reducible apply State.refuse_held | with_reducible apply State.setR_held | with_reducible apply State.setTrk_held | with_reducible apply State.trkArraysReset_held | simp only [held_mk, held_fold] | split

theorem State.onTrk_held {q} {s : State} {at_ : Nat} {f : State → Nat → State} (h : Held q s) (hf : ∀ y0 y1, Held q y0 → Held q (f y0 y1)) :
    Held q (s.onTrk at_ f) := by
  unfold State.onTrk; repeat' first | intro _ | with_reducible assumption | with_reducible apply State.through_held | apply_assumption

theorem State.tDestroyOp_held {q} {s : State} (h : Held q s) :
    Held q (s.tDestroyOp) := by
  unfold State.tDestroyOp; repeat' first | intro _ | with_reducible assumption | with_reducible apply State.onTrk_held | with_reducible apply State.setTrk_held | with_reducible apply State.trkArraysReset_held | with_reducible apply State.refuse_held | with_reducible apply held_ite

theorem State.tStartOp_held {q} {s : State} (h : Held q s) :
    Held q (s.tStartOp) := by
  unfold State.tStartOp; repeat' first | intro _ | with_reducible assumption | with_reducible apply State.onTrk_held | with_reducible apply State.setR_held | with_reducible apply State.setTrk_held

theorem State.tStopOp_held {q} {s : State} (h : Held q s) :
    Held q (s.tStopOp) := by
  unfold State.tStopOp; repeat' first | intro _ | with_reducible assumption | with_reducible apply State.onTrk_held | with_reducible apply State.setTrk_held

theorem State.tScanOp_held {q} {s : State} (h : Held q s) :
    Held q (s.tScanOp) := by
  unfold State.tScanOp; repeat' first | intro _ | with_reducible assumption | with_reducible apply State.onTrk_held | with_reducible apply State.setTrk_held

theorem State.tCmdOp_held {q} {s : State} {data : Word} (h : Held q s) :
    Held q (s.tCmdOp data) := by
  unfold State.tCmdOp; repeat' first | with_reducible assumption | with_reducible apply State.tCreateOp_held | with_reducible apply State.tDestroyOp_held | with_reducible apply State.tStartOp_held | with_reducible apply State.tStopOp_held | with_reducible apply State.tScanOp_held | with_reducible apply State.refuse_held | split

theorem State.trkWriteOp_held {q} {s : State} {off : Nat} {data : Word} (h : Held q s) :
    Held q (s.trkWriteOp off data) := by
  unfold State.trkWriteOp; repeat' first | intro _ | with_reducible assumption | with_reducible apply State.onTrk_held | with_reducible apply State.stale_held | with_reducible apply State.refuse_held | with_reducible apply State.setTrk_held | with_reducible apply held_ite

theorem State.vecBaseOp_held {q} {s : State} {data : Word} (h : Held q s) :
    Held q (s.vecBaseOp data) := by
  unfold State.vecBaseOp; repeat' first | with_reducible assumption | with_reducible apply State.refuse_held | with_reducible apply State.setR_held | with_reducible apply held_ite

theorem State.trkClampDiv_held {q} {s : State} {n : Nat} (h : Held q s) :
    Held q (s.trkClampDiv n) := by
  unfold State.trkClampDiv; repeat' first | with_reducible assumption | with_reducible apply State.setTrk_held | with_reducible apply held_ite

theorem State.trkMean_held {q} {s : State} {sum : Int} {run : Word} {n : Nat} (h : Held q s) :
    Held q (s.trkMean sum run n).2 := by
  unfold State.trkMean; repeat' first | with_reducible assumption | with_reducible apply State.pick2_held

theorem State.trkE0_held {q} {s : State} {n : Nat} (h : Held q s) :
    Held q (s.trkE0 n) := by
  unfold State.trkE0; repeat' first | with_reducible assumption | with_reducible apply State.setTrk_held

theorem State.tracksE0_held {q} {s : State} (h : Held q s) :
    Held q (s.tracksE0) := by
  unfold State.tracksE0; repeat' first | intro _ | with_reducible assumption | with_reducible apply State.trkE0_held | with_reducible apply State.writeVref_held | with_reducible apply held_ite | with_reducible apply held_foldl

theorem State.trkSkip_held {q} {s : State} {n : Nat} (h : Held q s) :
    Held q (s.trkSkip n) := by
  unfold State.trkSkip; repeat' first | with_reducible assumption | with_reducible apply State.setTrk_held | with_reducible apply State.irqLog_held | with_reducible apply held_ite

theorem State.scanPoint_held {q} {s : State} {t : TrkSlot} {i : Nat} (h : Held q s) :
    Held q (s.scanPoint t i).2 := by
  unfold State.scanPoint; repeat' first | with_reducible assumption | with_reducible apply State.pick2_held

theorem State.trkShow_held {q} {s : State} {n : Nat} {v i p : Word} (h : Held q s) :
    Held q (s.trkShow n v i p) := by
  unfold State.trkShow; repeat' first | with_reducible assumption | with_reducible apply State.setR_held

theorem State.trkTrack_held {q} {s : State} {n : Nat} {v i : Word} (h : Held q s) :
    Held q (s.trkTrack n v i) := by
  unfold State.trkTrack; repeat' first | with_reducible assumption | with_reducible apply State.setR_held | with_reducible apply State.trkShow_held | with_reducible apply State.setTrk_held

theorem State.scanBegin_held {q} {s : State} {n i : Nat} (h : Held q s) :
    Held q (s.scanBegin n i) := by
  unfold State.scanBegin; repeat' first | with_reducible assumption | with_reducible apply State.scanPoint_held | with_reducible apply State.setR_held | with_reducible apply State.setTrk_held

theorem State.scanEnd_held {q} {s : State} {n : Nat} {best : Option (Word × Word)} (h : Held q s) :
    Held q (s.scanEnd n best) := by
  unfold State.scanEnd; repeat' first | with_reducible assumption | with_reducible apply State.scanBegin_held | with_reducible apply State.setTrk_held | with_reducible apply State.irq_held | with_reducible apply State.blockEv_held | with_reducible apply State.setR_held | with_reducible apply held_ite

theorem State.trackerStep_held {q} {s : State} {n : Nat} (h : Held q s) :
    Held q (s.trackerStep n) := by
  unfold State.trackerStep; repeat' first | with_reducible assumption | with_reducible apply State.setTrk_held | with_reducible apply State.trkMean_held | with_reducible apply State.trkShow_held | with_reducible apply State.scanEnd_held | with_reducible apply State.trkSkip_held | with_reducible apply State.scanBegin_held | with_reducible apply State.trkTrack_held | with_reducible apply held_ite | with_reducible apply held_ite_snd

end Sys2Proof.Machine
end

