-- ==== Sys2Proof/Laws/HeldRings.lean ====
section
/-! SUPPORT. What the operations keep (`Held`): the rings and the cell. -/
namespace Sys2Proof.Machine
open Sys2Proof
set_option linter.unusedSimpArgs false

theorem State.nextTune_held {q} {s : State} {n : Nat} (h : Held q s) :
    Held q (s.nextTune n).2 := by
  unfold State.nextTune; repeat' first | with_reducible assumption | with_reducible apply State.modRing_held | with_reducible apply State.modLane_held | with_reducible apply held_ite_snd | simp only [held_mk, held_fold] | split

theorem State.ringDepart_held {q} {s : State} {n : Nat} (h : Held q s) :
    Held q (s.ringDepart n) := by
  unfold State.ringDepart; repeat' first | with_reducible assumption | with_reducible apply State.nextTune_held | with_reducible apply State.modRing_held | with_reducible apply State.lineTrain_held | with_reducible apply State.blockEv_held | with_reducible apply held_ite | simp only [held_mk, held_fold]

theorem State.ringsDepart_held {q} {s : State} (h : Held q s) :
    Held q (s.ringsDepart) := by
  unfold State.ringsDepart; repeat' first | intro _ | with_reducible assumption | with_reducible apply State.ringDepart_held | with_reducible apply held_ite | with_reducible apply held_foldl

theorem State.tuneBack_held {q} {s : State} {n : Nat} {w : BitVec 16} (h : Held q s) :
    Held q (s.tuneBack n w) := by
  unfold State.tuneBack; repeat' first | with_reducible assumption | with_reducible apply State.modLane_held | with_reducible apply State.modRing_held | with_reducible apply held_ite

theorem State.trainBack_held {q} {s : State} {n : Nat} {bs : List Byte} (h : Held q s) :
    Held q (s.trainBack n bs) := by
  unfold State.trainBack; repeat' first | with_reducible assumption | with_reducible apply State.modR_held | with_reducible apply State.incSat_held | with_reducible apply State.irq_held | with_reducible apply State.setR_held | with_reducible apply State.modRing_held | with_reducible apply State.tuneBack_held | with_reducible apply held_ite

theorem State.takeInd_held {q} {s : State} {i pcnt : Nat} {ind : List Byte} {late : Bool} (h : Held q s) :
    Held q (s.takeInd i pcnt ind late) := by
  unfold State.takeInd; repeat' first | with_reducible assumption | with_reducible apply State.modDir_held | with_reducible apply State.dirState_held | with_reducible apply held_ite

theorem State.takeTrain_held {q} {s : State} {n : Nat} {bs : List Byte} {late : Bool} (h : Held q s) :
    Held q (s.takeTrain n bs late) := by
  unfold State.takeTrain; repeat' first | intro _ | with_reducible assumption | with_reducible apply State.takeInd_held | with_reducible apply State.modDir_held | with_reducible apply held_ite | with_reducible apply held_foldl

theorem State.splitEnter_held {q} {s : State} {n : Nat} (h : Held q s) :
    Held q (s.splitEnter n) := by
  unfold State.splitEnter; repeat' first | with_reducible assumption | with_reducible apply State.irqLog_held | with_reducible apply State.incSat_held | with_reducible apply State.modRing_held | with_reducible apply held_ite | split

theorem State.iqEnd_held {q} {s : State} {n : Nat} (h : Held q s) :
    Held q (s.iqEnd n) := by
  unfold State.iqEnd; repeat' first | with_reducible assumption | with_reducible apply State.modRing_held | with_reducible apply State.irq_held | with_reducible apply State.setR_held | with_reducible apply State.setMirror_held | with_reducible apply held_ite | simp only [held_mk, held_fold] | split

theorem State.ringTake_held {q} {s : State} {n : Nat} (h : Held q s) :
    Held q (s.ringTake n) := by
  unfold State.ringTake; repeat' first | intro _ | with_reducible assumption | with_reducible apply State.modDir_held | with_reducible apply State.takeTrain_held | with_reducible apply State.iqEnd_held | with_reducible apply State.splitEnter_held | with_reducible apply State.modRing_held | with_reducible apply held_ite | with_reducible apply held_foldl

theorem State.setMirrorWords_held {q} {s : State} {i w : Nat} {a : List Word} (h : Held q s) :
    Held q (s.setMirrorWords i w a) := by
  induction a generalizing s i w <;> (simp only [State.setMirrorWords]; repeat' first | with_reducible assumption | with_reducible apply State.setMirror_held | apply_assumption)

theorem State.reservoirWrite_held {q} {s : State} {i : Nat} (h : Held q s) :
    Held q (s.reservoirWrite i) := by
  unfold State.reservoirWrite; repeat' first | intro _ | with_reducible assumption | with_reducible apply State.setSramW_held | with_reducible apply held_ite | with_reducible apply held_foldl

theorem State.mirrorUpdate_held {q} {s : State} (h : Held q s) :
    Held q (s.mirrorUpdate) := by
  unfold State.mirrorUpdate; repeat' first | intro _ | with_reducible assumption | with_reducible apply State.setMirrorWords_held | with_reducible apply State.reservoirWrite_held | with_reducible apply State.setSramW_held | with_reducible apply held_ite | with_reducible apply held_foldl

theorem State.carrierRecompute_held {q} {s : State} (h : Held q s) :
    Held q (s.carrierRecompute) := by
  unfold State.carrierRecompute; repeat' first | intro _ | with_reducible assumption | with_reducible apply State.setF_held | with_reducible apply State.irqLog_held | with_reducible apply State.enterSafe_held | with_reducible apply State.irq_held | with_reducible apply held_ite | with_reducible apply held_foldl

theorem State.dirFollow_held {q} {s : State} (h : Held q s) :
    Held q (s.dirFollow) := by
  refine held_foldl h fun t i ht => ?_
  have hd : Held q (t.dirState i 0) := State.dirState_held ht
  exact held_ite (held_ite (State.dirState_held ht) ht) (held_ite ht ⟨{ hd.of with mirror := SMap.wf_filter ht.of.mirror }⟩)

theorem State.planSwap_held {q} {s : State} (h : Held q s) :
    Held q (s.planSwap) := by
  unfold State.planSwap; repeat' first | with_reducible assumption | with_reducible apply State.setR_held | with_reducible apply State.dirFollow_held | with_reducible apply held_ite | simp only [held_mk, held_fold]

theorem State.e5Refresh_held {q} {s : State} (h : Held q s) :
    Held q (s.e5Refresh) := by
  unfold State.e5Refresh; repeat' first | intro _ | with_reducible assumption | with_reducible apply State.setR_held | with_reducible apply held_foldl

theorem State.echoApply_held {q} {s : State} {n : Nat} (h : Held q s) :
    Held q (s.echoApply n) := by
  unfold State.echoApply; repeat' first | intro _ | with_reducible assumption | with_reducible apply State.setR_held | with_reducible apply State.setProf_held | with_reducible apply State.setTrk_held | with_reducible apply held_ite | with_reducible apply held_foldl | simp only [held_mk, held_fold] | split

theorem State.echoPreset_held {q} {s : State} {n : Nat} (h : Held q s) :
    Held q (s.echoPreset n) := by
  unfold State.echoPreset; repeat' first | intro _ | with_reducible assumption | with_reducible apply State.setSump_held | with_reducible apply State.setSramW_held | with_reducible apply held_foldl | simp only [held_mk, held_fold] | split

theorem State.observeE0_held {q} {s : State} (h : Held q s) :
    Held q (s.observeE0) := by
  unfold State.observeE0; repeat' first | intro _ | with_reducible assumption | with_reducible apply State.setR_held | with_reducible apply State.echoApply_held | with_reducible apply State.incSat_held | with_reducible apply held_ite | with_reducible apply held_foldl

theorem State.takeover_held {q} {s : State} (h : Held q s) :
    Held q (s.takeover) := by
  unfold State.takeover; repeat' first | intro _ | with_reducible assumption | with_reducible apply State.modRing_held | with_reducible apply State.echoPreset_held | with_reducible apply State.irq_held | with_reducible apply State.logE_held | with_reducible apply held_ite | with_reducible apply held_foldl | simp only [held_mk, held_fold]

theorem State.sectionTakeover_held {q} {s : State} {n : Nat} (h : Held q s) :
    Held q (s.sectionTakeover n) := by
  unfold State.sectionTakeover; repeat' first | with_reducible assumption | with_reducible apply State.irqLog_held | with_reducible apply State.modRing_held | with_reducible apply State.echoPreset_held

theorem State.takeoverJudge_held {q} {s : State} (h : Held q s) :
    Held q (s.takeoverJudge) := by
  unfold State.takeoverJudge; repeat' first | intro _ | with_reducible assumption | with_reducible apply State.takeover_held | with_reducible apply State.sectionTakeover_held | with_reducible apply State.modRing_held | with_reducible apply held_ite | with_reducible apply held_foldl

theorem State.observeDir_held {q} {s : State} {n : Nat} {bs : List Byte} (h : Held q s) :
    Held q (s.observeDir n bs) := by
  unfold State.observeDir; repeat' first | intro _ | with_reducible assumption | with_reducible apply State.dirState_held | with_reducible apply State.modDir_held | with_reducible apply State.takeInd_held | with_reducible apply held_ite | with_reducible apply held_foldl

theorem State.observeTrain_held {q} {s : State} {n : Nat} {bs : List Byte} (h : Held q s) :
    Held q (s.observeTrain n bs) := by
  unfold State.observeTrain; repeat' first | with_reducible assumption | with_reducible apply State.modRing_held | with_reducible apply State.observeDir_held

theorem State.ringCfgOp_held {q} {s : State} {n : Nat} {data : Word} (h : Held q s) :
    Held q (s.ringCfgOp n data) := by
  unfold State.ringCfgOp; repeat' first | intro _ | with_reducible assumption | with_reducible apply State.refuse_held | with_reducible apply State.setR_held | with_reducible apply State.modLane_held | with_reducible apply State.laneModeSet_held | with_reducible apply State.modRing_held | with_reducible apply State.setF_held | with_reducible apply held_ite | with_reducible apply held_foldl

theorem State.ringTrainOp_held {q} {s : State} {n : Nat} (h : Held q s) :
    Held q (s.ringTrainOp n) := by
  unfold State.ringTrainOp; repeat' first | with_reducible assumption | with_reducible apply State.refuse_held | with_reducible apply State.setR_held | with_reducible apply State.modRing_held | with_reducible apply held_ite

theorem State.admitEntry_held {q} {s : State} {i : Nat} (h : Held q s) :
    Held q (s.admitEntry i) := by
  unfold State.admitEntry; repeat' first | with_reducible assumption | with_reducible apply State.modRing_held | with_reducible apply State.dirState_held

theorem State.foundCell_held {q} {s : State} {i : Nat} {c : CellFound} (h : Held q s) :
    Held q (s.foundCell i c) := by
  unfold State.foundCell; repeat' first | with_reducible assumption | with_reducible apply State.modDir_held | with_reducible apply State.irqIf_held | with_reducible apply State.admitEntry_held | with_reducible apply State.dirState_held | with_reducible apply held_ite

theorem State.trainResult_held {q} {s : State} {n code at_ : Nat} (h : Held q s) :
    Held q (s.trainResult n code at_) := by
  unfold State.trainResult; repeat' first | with_reducible assumption | with_reducible apply State.setR_held

theorem State.trainDone_held {q} {s : State} {n : Nat} {cells : List CellFound} {hN : Nat} {fault : Option (TrainFault × Fin 97)} (h : Held q s) :
    Held q (s.trainDone n cells hN fault) := by
  unfold State.trainDone; repeat' first | intro _ | with_reducible assumption | with_reducible apply State.trainResult_held | with_reducible apply State.modRing_held | with_reducible apply State.foundCell_held | with_reducible apply State.irq_held | with_reducible apply State.irqLog_held | with_reducible apply held_ite | with_reducible apply held_foldl | split

theorem State.ringRejoinOp_held {q} {s : State} {n : Nat} (h : Held q s) :
    Held q (s.ringRejoinOp n) := by
  unfold State.ringRejoinOp; repeat' first | with_reducible assumption | with_reducible apply State.refuse_held | with_reducible apply State.setR_held | with_reducible apply State.modRing_held | with_reducible apply held_ite

theorem State.rejoinE0_held {q} {s : State} (h : Held q s) :
    Held q (s.rejoinE0) := by
  unfold State.rejoinE0; repeat' first | intro _ | with_reducible assumption | with_reducible apply State.irq_held | with_reducible apply State.modRing_held | with_reducible apply held_ite | with_reducible apply held_foldl

theorem State.iqCtrlOp_held {q} {s : State} {n : Nat} {data : Word} (h : Held q s) :
    Held q (s.iqCtrlOp n data) := by
  unfold State.iqCtrlOp; repeat' first | with_reducible assumption | with_reducible apply State.refuse_held | with_reducible apply State.setR_held | with_reducible apply State.irq_held | with_reducible apply State.modRing_held | with_reducible apply held_ite

theorem State.iqAbortOp_held {q} {s : State} {n : Nat} (h : Held q s) :
    Held q (s.iqAbortOp n) := by
  unfold State.iqAbortOp; repeat' first | with_reducible assumption | with_reducible apply State.setR_held | with_reducible apply State.modRing_held | with_reducible apply held_ite

theorem State.ringCmdOp_held {q} {s : State} {n : Nat} {data : Word} (h : Held q s) :
    Held q (s.ringCmdOp n data) := by
  unfold State.ringCmdOp; repeat' first | with_reducible assumption | with_reducible apply State.ringTrainOp_held | with_reducible apply State.ringRejoinOp_held | with_reducible apply State.iqAbortOp_held | with_reducible apply held_ite

theorem State.ringClearOp_held {q} {s : State} {n : Nat} (h : Held q s) :
    Held q (s.ringClearOp n) := by
  unfold State.ringClearOp; repeat' first | intro _ | with_reducible assumption | with_reducible apply State.setR_held | with_reducible apply held_foldl

theorem State.onCell_held {q} {s : State} {f : State → Nat → State} (h : Held q s) (hf : ∀ y0 y1, Held q y0 → Held q (f y0 y1)) :
    Held q (s.onCell f) := by
  unfold State.onCell; repeat' first | intro _ | with_reducible assumption | with_reducible apply State.through_held | apply_assumption

theorem State.admitOp_held {q} {s : State} (h : Held q s) :
    Held q (s.admitOp) := by
  unfold State.admitOp; repeat' first | intro _ | with_reducible assumption | with_reducible apply State.onCell_held | with_reducible apply State.admitEntry_held | with_reducible apply State.refuse_held | with_reducible apply held_ite

theorem State.retireOp_held {q} {s : State} (h : Held q s) :
    Held q (s.retireOp) := by
  unfold State.retireOp; repeat' first | intro _ | with_reducible assumption | with_reducible apply State.onCell_held | with_reducible apply State.irq_held | with_reducible apply State.dirState_held | with_reducible apply State.modDir_held

theorem State.bypassOp_held {q} {s : State} {on : Bool} (h : Held q s) :
    Held q (s.bypassOp on) := by
  unfold State.bypassOp; repeat' first | intro _ | with_reducible assumption | with_reducible apply State.onCell_held | with_reducible apply State.modDir_held

theorem State.cellsCmdOp_held {q} {s : State} {data : Word} (h : Held q s) :
    Held q (s.cellsCmdOp data) := by
  unfold State.cellsCmdOp; repeat' first | with_reducible assumption | with_reducible apply State.admitOp_held | with_reducible apply State.retireOp_held | with_reducible apply State.bypassOp_held | with_reducible apply State.refuse_held | split

theorem State.cellsRegOp_held {q} {s : State} {a : Nat} {data : Word} (h : Held q s) :
    Held q (s.cellsRegOp a data) := by
  unfold State.cellsRegOp; repeat' first | with_reducible assumption | with_reducible apply State.refuse_held | with_reducible apply State.setR_held | with_reducible apply held_ite

theorem State.measForm_held {q} {s : State} {q' : Nat} {code : Int} (h : Held q s) :
    Held q (s.measForm q' code) := by
  unfold State.measForm; repeat' first | with_reducible assumption | with_reducible apply State.pick2_held | with_reducible apply State.setR_held | simp only [held_mk, held_fold]

theorem State.measMdat_held {q} {s : State} (h : Held q s) :
    Held q (s.measMdat) := by
  unfold State.measMdat; repeat' first | intro _ | with_reducible assumption | with_reducible apply State.measForm_held | with_reducible apply held_ite | with_reducible apply held_foldl

theorem State.measWords_held {q} {s : State} (h : Held q s) :
    Held q (s.measWords) := by
  unfold State.measWords; repeat' first | intro _ | with_reducible assumption | with_reducible apply State.setSump_held | with_reducible apply held_foldl

theorem State.measAdc_held {q} {s : State} (h : Held q s) :
    Held q (s.measAdc) := by
  unfold State.measAdc; repeat' first | intro _ | with_reducible assumption | with_reducible apply State.measForm_held | with_reducible apply held_ite | with_reducible apply held_foldl | simp only [held_mk, held_fold]

theorem State.srcFraction_held {q} {s : State} {g : Nat} {m : Int} (h : Held q s) :
    Held q (s.srcFraction g m).2 := by
  unfold State.srcFraction; repeat' first | with_reducible assumption | with_reducible apply State.nearQ_held | simp only [held_mk, held_fold] | split

theorem State.cellStage_held {q} {s : State} {g : Nat} {m : Int} (h : Held q s) :
    Held q (s.cellStage g m) := by
  unfold State.cellStage; repeat' first | with_reducible assumption | with_reducible apply State.srcFraction_held | with_reducible apply State.pwmStage_held

theorem State.cellPhases_held {q} {s : State} (h : Held q s) :
    Held q (s.cellPhases) := by
  unfold State.cellPhases; repeat' first | intro _ | with_reducible assumption | with_reducible apply State.takeFree_held | with_reducible apply State.modGen_held | with_reducible apply State.setR_held | with_reducible apply held_ite | with_reducible apply held_ite_snd | with_reducible apply held_foldl

theorem State.setSumpWords_held {q} {s : State} {i : Nat} {a : List Word} (h : Held q s) :
    Held q (s.setSumpWords i a) := by
  induction a generalizing s i with
  | nil => exact h
  | cons w ws ih => exact ih (State.setSump_held h)

theorem State.cellWords_held {q} {s : State} (h : Held q s) :
    Held q (s.cellWords) := by
  unfold State.cellWords
  exact State.setSumpWords_held (State.nearQ_held (State.nearQ_held (State.nearQ_held h)))

theorem State.cellE0_held {q} {s : State} (h : Held q s) :
    Held q (s.cellE0) := by
  unfold State.cellE0; repeat' first | with_reducible assumption | with_reducible apply State.cellWords_held | with_reducible apply State.measMdat_held | with_reducible apply held_ite

theorem State.cellMode_held {q} {s : State} {req : Nat} (h : Held q s) :
    Held q (s.cellMode req) := by
  unfold State.cellMode; repeat' first | with_reducible assumption | with_reducible apply State.enterSafe_held | with_reducible apply State.setR_held | with_reducible apply held_ite | simp only [held_mk, held_fold]

theorem State.partRegs_held {q} {s : State} {p : CellPart} (h : Held q s) :
    Held q (s.partRegs p) := by
  unfold State.partRegs; repeat' first | with_reducible assumption | with_reducible apply State.setR_held

theorem State.cellTake_held {q} {s : State} {p : CellPart} (h : Held q s) :
    Held q (s.cellTake p) := by
  unfold State.cellTake; repeat' first | intro _ | with_reducible assumption | with_reducible apply State.blockEv_held | with_reducible apply State.partRegs_held | with_reducible apply State.bypClose_held | with_reducible apply State.bypOpen_held | with_reducible apply State.cellStage_held | with_reducible apply State.cellMode_held | with_reducible apply held_ite | with_reducible apply held_foldl | simp only [held_mk, held_fold]

theorem State.cellMiss_held {q} {s : State} (h : Held q s) :
    Held q (s.cellMiss) := by
  unfold State.cellMiss; repeat' first | with_reducible assumption | with_reducible apply State.incSat_held | with_reducible apply State.irqLog_held | with_reducible apply held_ite | simp only [held_mk, held_fold]

theorem State.cellApply_held {q} {s : State} (h : Held q s) :
    Held q (s.cellApply) := by
  unfold State.cellApply; repeat' first | with_reducible assumption | with_reducible apply State.cellTake_held | with_reducible apply State.cellMiss_held | with_reducible apply State.pwmBlocks_held | split

theorem State.cellFaultClrOp_held {q} {s : State} (h : Held q s) :
    Held q (s.cellFaultClrOp) := by
  unfold State.cellFaultClrOp; repeat' first | with_reducible assumption | with_reducible apply State.refuse_held | with_reducible apply State.setR_held | with_reducible apply held_ite

theorem State.bypClrOp_held {q} {s : State} (h : Held q s) :
    Held q (s.bypClrOp) := by
  unfold State.bypClrOp; repeat' first | with_reducible assumption | simp only [held_mk, held_fold]

theorem State.cellClearOp_held {q} {s : State} (h : Held q s) :
    Held q (s.cellClearOp) := by
  unfold State.cellClearOp; repeat' first | intro _ | with_reducible assumption | with_reducible apply State.setR_held | with_reducible apply held_foldl

theorem State.cellRegOp_held {q} {s : State} {off : Nat} {v : Word} (h : Held q s) :
    Held q (s.cellRegOp off v) := by
  unfold State.cellRegOp; repeat' first | with_reducible assumption | with_reducible apply State.setR_held | with_reducible apply State.setB_held | with_reducible apply State.refuse_held | with_reducible apply State.pwmBlocks_held | with_reducible apply held_ite

end Sys2Proof.Machine
end

