-- ==== Sys2Proof/Laws/HeldPower.lean ====
section
/-! SUPPORT. What the operations keep (`Held`): channels, Keeper, Guard, timebase, service and power. -/
namespace Sys2Proof.Machine
open Sys2Proof
set_option linter.unusedSimpArgs false

theorem State.bankStageOp_held {q} {s : State} (h : Held q s) :
    Held q (s.bankStageOp) := by
  unfold State.bankStageOp; repeat' first | with_reducible assumption | with_reducible apply State.refuse_held | with_reducible apply State.stageBank_held | with_reducible apply State.setLay_held | with_reducible apply held_ite | split

theorem State.clrMissedOp_held {q} {s : State} (h : Held q s) :
    Held q (s.clrMissedOp) := by
  unfold State.clrMissedOp; repeat' first | with_reducible assumption | simp only [held_mk, held_fold]

theorem State.swapAtOp_held {q} {s : State} {data : Word} (h : Held q s) :
    Held q (s.swapAtOp data) := by
  unfold State.swapAtOp; repeat' first | with_reducible assumption | with_reducible apply State.checkMissed_held | with_reducible apply State.setR_held

theorem State.pumpClearMaxOp_held {q} {s : State} (h : Held q s) :
    Held q (s.pumpClearMaxOp) := by
  unfold State.pumpClearMaxOp; repeat' first | with_reducible assumption | with_reducible apply State.setR_held

theorem State.pumpClearCntOp_held {q} {s : State} (h : Held q s) :
    Held q (s.pumpClearCntOp) := by
  unfold State.pumpClearCntOp; repeat' first | with_reducible apply State.settleNow_held | intro _ | with_reducible assumption | with_reducible apply State.setR_held | with_reducible apply held_foldl

theorem State.quotaOp_held {q} {s : State} {n r : Nat} (h : Held q s) :
    Held q (s.quotaOp n r) := by
  unfold State.quotaOp; repeat' first | with_reducible assumption | with_reducible apply State.irq_held | with_reducible apply State.incSat_held | with_reducible apply State.refuse_held | with_reducible apply State.blockEv_held | with_reducible apply State.setChan_held | with_reducible apply State.irqIf_held | with_reducible apply held_ite

theorem State.chQuotaOp_held {q} {s : State} {data : Word} (h : Held q s) :
    Held q (s.chQuotaOp data) := by
  unfold State.chQuotaOp; repeat' first | intro _ | with_reducible assumption | with_reducible apply State.through_held | with_reducible apply State.quotaOp_held

theorem State.chCreateOp_held {q} {s : State} {slot : Option Nat} (h : Held q s) :
    Held q (s.chCreateOp slot) := by
  unfold State.chCreateOp; repeat' first | with_reducible assumption | with_reducible apply State.refuse_held | with_reducible apply State.setR_held | with_reducible apply State.chanMove_held | with_reducible apply held_ite | simp only [held_mk, held_fold] | split

theorem State.onChan_held {q} {s : State} {at_ : Nat} {f : State → Nat → State} (h : Held q s) (hf : ∀ y0 y1, Held q y0 → Held q (f y0 y1)) :
    Held q (s.onChan at_ f) := by
  unfold State.onChan; repeat' first | intro _ | with_reducible assumption | with_reducible apply State.through_held | apply_assumption

theorem State.chDrainOp_held {q} {s : State} (h : Held q s) :
    Held q (s.chDrainOp) := by
  unfold State.chDrainOp; repeat' first | intro _ | with_reducible assumption | with_reducible apply State.onChan_held | with_reducible apply State.refuse_held | with_reducible apply State.setR_held | with_reducible apply held_ite | simp only [held_mk, held_fold]

theorem State.loadResult_held {q} {s : State} {code detail ty : Nat} (h : Held q s) :
    Held q (s.loadResult code detail ty) := by
  unfold State.loadResult; repeat' first | with_reducible assumption | with_reducible apply State.setR_held | with_reducible apply State.irqLog_held

theorem State.setLinkFail_held {q} {s : State} {reason stroke : Nat} (h : Held q s) :
    Held q (s.setLinkFail reason stroke) := by
  unfold State.setLinkFail; repeat' first | with_reducible assumption | with_reducible apply State.setR_held

theorem State.drainCompose_held {q} {s : State} {n : Nat} (h : Held q s) :
    Held q (s.drainCompose n) := by
  unfold State.drainCompose; repeat' first | with_reducible assumption | with_reducible apply State.modChan_held | with_reducible apply State.compose_held | split

theorem State.chDestroyOp_held {q} {s : State} (h : Held q s) :
    Held q (s.chDestroyOp) := by
  unfold State.chDestroyOp; repeat' first | intro _ | with_reducible assumption | with_reducible apply State.onChan_held | with_reducible apply State.refuse_held | with_reducible apply State.chanFree_held | with_reducible apply State.dropBank_held | with_reducible apply held_ite

theorem State.chModeOp_held {q} {s : State} {auto : Bool} (h : Held q s) :
    Held q (s.chModeOp auto) := by
  unfold State.chModeOp; repeat' first | intro _ | with_reducible assumption | with_reducible apply State.onChan_held | with_reducible apply State.refuse_held | with_reducible apply State.setChan_held | with_reducible apply held_ite

theorem State.chCmdOp_held {q} {s : State} {data : Word} (h : Held q s) :
    Held q (s.chCmdOp data) := by
  unfold State.chCmdOp; repeat' first | with_reducible assumption | with_reducible apply State.chCreateOp_held | with_reducible apply State.chDrainOp_held | with_reducible apply State.chDestroyOp_held | with_reducible apply State.chModeOp_held | with_reducible apply State.refuse_held | split

theorem State.coefRefuse_held {q} {s : State} (h : Held q s) :
    Held q (s.coefRefuse) := by
  unfold State.coefRefuse; repeat' first | with_reducible assumption | with_reducible apply State.irq_held | with_reducible apply State.incSat_held | with_reducible apply State.refuse_held

theorem State.coefOp_held {q} {s : State} {data : Word} (h : Held q s) :
    Held q (s.coefOp data) := by
  unfold State.coefOp; repeat' first | intro _ | with_reducible assumption | with_reducible apply State.onChan_held | with_reducible apply State.incSat_held | with_reducible apply State.setSump_held | with_reducible apply State.settleNow_held | with_reducible apply State.setF_held | with_reducible apply State.coefRefuse_held | with_reducible apply held_ite

theorem State.setMode_held {q} {s : State} {n : Nat} {auto : Bool} (h : Held q s) :
    Held q (s.setMode n auto) := by
  unfold State.setMode; repeat' first | with_reducible assumption | with_reducible apply State.setChan_held | with_reducible apply State.setChanWord_held

theorem State.toManual_held {q} {s : State} {n : Nat} (h : Held q s) :
    Held q (s.toManual n) := by
  unfold State.toManual; repeat' first | with_reducible assumption | with_reducible apply State.setMode_held | with_reducible apply State.setChanWord_held | with_reducible apply held_ite

theorem State.toAuto_held {q} {s : State} {n : Nat} (h : Held q s) :
    Held q (s.toAuto n) := by
  unfold State.toAuto; repeat' first | with_reducible assumption | with_reducible apply State.setMode_held | with_reducible apply State.setChanWord_held | with_reducible apply State.countArith_held | with_reducible apply held_ite

theorem State.feFire_held {q} {s : State} {n : Nat} (h : Held q s) :
    Held q (s.feFire n) := by
  unfold State.feFire; repeat' first | with_reducible assumption | with_reducible apply State.setChan_held | with_reducible apply State.irqLog_held | with_reducible apply State.incSat_held | with_reducible apply State.modChan_held | with_reducible apply State.toManual_held | with_reducible apply State.enterSafe_held | with_reducible apply held_ite

theorem State.feEvaluate_held {q} {s : State} {n : Nat} (h : Held q s) :
    Held q (s.feEvaluate n) := by
  unfold State.feEvaluate; repeat' first | with_reducible assumption | with_reducible apply State.setChan_held | with_reducible apply State.feFire_held | with_reducible apply held_ite

theorem State.feClrOp_held {q} {s : State} (h : Held q s) :
    Held q (s.feClrOp) := by
  unfold State.feClrOp; repeat' first | intro _ | with_reducible assumption | with_reducible apply State.onChan_held | with_reducible apply State.modChan_held

theorem State.feLimitOp_held {q} {s : State} {data : Word} (h : Held q s) :
    Held q (s.feLimitOp data) := by
  unfold State.feLimitOp; repeat' first | intro _ | with_reducible assumption | with_reducible apply State.onChan_held | with_reducible apply State.refuse_held | with_reducible apply State.setChan_held | with_reducible apply held_ite

theorem State.feCfgOp_held {q} {s : State} {data : Word} (h : Held q s) :
    Held q (s.feCfgOp data) := by
  unfold State.feCfgOp; repeat' first | intro _ | with_reducible assumption | with_reducible apply State.onChan_held | with_reducible apply State.refuse_held | with_reducible apply State.setChan_held | with_reducible apply held_ite

theorem State.chRateOp_held {q} {s : State} {data : Word} (h : Held q s) :
    Held q (s.chRateOp data) := by
  unfold State.chRateOp; repeat' first | intro _ | with_reducible assumption | with_reducible apply State.onChan_held | with_reducible apply State.refuse_held | with_reducible apply State.setChan_held | with_reducible apply held_ite

theorem State.chReplacesOp_held {q} {s : State} {data : Word} (h : Held q s) :
    Held q (s.chReplacesOp data) := by
  unfold State.chReplacesOp; repeat' first | intro _ | with_reducible assumption | with_reducible apply State.onChan_held | with_reducible apply State.refuse_held | with_reducible apply State.setChan_held | with_reducible apply State.stale_held | with_reducible apply held_ite

theorem State.chanCommand_held {q} {s : State} {pc n : Nat} (h : Held q s) :
    Held q (s.chanCommand pc n) := by
  unfold State.chanCommand; repeat' first | with_reducible assumption | with_reducible apply State.setChan_held | with_reducible apply State.refuse_held | with_reducible apply State.toAuto_held | with_reducible apply State.toManual_held | with_reducible apply held_ite | simp only [held_mk, held_fold] | split

theorem State.goLive_held {q} {s : State} {n : Nat} (h : Held q s) :
    Held q (s.goLive n) := by
  unfold State.goLive; repeat' first | with_reducible assumption | with_reducible apply State.setMode_held | with_reducible apply State.chanMove_held | with_reducible apply State.setChanWord_held | with_reducible apply held_ite | simp only [held_mk, held_fold] | split

theorem State.goDraining_held {q} {s : State} {n : Nat} (h : Held q s) :
    Held q (s.goDraining n) := by
  unfold State.goDraining; repeat' first | with_reducible assumption | with_reducible apply State.chanMove_held

theorem State.bankSwap_held {q} {s : State} (h : Held q s) :
    Held q (s.bankSwap) := by
  unfold State.bankSwap; repeat' first | intro _ | with_reducible assumption | with_reducible apply State.goLive_held | with_reducible apply State.goDraining_held | with_reducible apply State.irq_held | with_reducible apply State.blockEv_held | with_reducible apply State.incMod_held | with_reducible apply held_ite | with_reducible apply held_foldl | simp only [held_mk, held_fold]

theorem State.chanDrainE0_held {q} {s : State} {n : Nat} (h : Held q s) :
    Held q (s.chanDrainE0 n) := by
  unfold State.chanDrainE0; repeat' first | with_reducible assumption | with_reducible apply State.setChan_held | with_reducible apply State.chanFree_held | with_reducible apply held_ite

theorem State.channelWork_held {q} {s : State} (h : Held q s) :
    Held q (s.channelWork) := by
  unfold State.channelWork; repeat' first | intro _ | with_reducible assumption | with_reducible apply State.feEvaluate_held | with_reducible apply State.chanCommand_held | with_reducible apply State.bankSwap_held | with_reducible apply State.chanDrainE0_held | with_reducible apply State.modChan_held | with_reducible apply held_ite | with_reducible apply held_foldl

theorem State.keepIrq_held {q} {s : State} {b : Nat} (h : Held q s) :
    Held q (s.keepIrq b) := by
  unfold State.keepIrq; repeat' first | with_reducible assumption | with_reducible apply State.irq_held

theorem State.keepLog_held {q} {s : State} {cls : Nat} {irqBit : Option Nat} (h : Held q s) :
    Held q (s.keepLog cls irqBit) := by
  unfold State.keepLog; repeat' first | with_reducible assumption | with_reducible apply State.logE_held | with_reducible apply State.keeperLog_held | with_reducible apply held_ite

theorem State.burstDue_held {q} {s : State} {ty : Nat} (h : Held q s) :
    Held q (s.burstDue ty) := by
  unfold State.burstDue; repeat' first | with_reducible assumption | with_reducible apply held_ite | simp only [held_mk, held_fold] | split

theorem State.kpgFollow_held {q} {s : State} (h : Held q s) :
    Held q (s.kpgFollow) := by
  unfold State.kpgFollow; repeat' first | with_reducible assumption | with_reducible apply State.keepIrq_held | with_reducible apply held_ite | simp only [held_mk, held_fold] | split

theorem State.burstStart_held {q} {s : State} {ty : Nat} (h : Held q s) :
    Held q (s.burstStart ty) := by
  unfold State.burstStart; repeat' first | with_reducible assumption | with_reducible apply State.setB_held | simp only [held_mk, held_fold]

theorem State.burstJudge_held {q} {s : State} (h : Held q s) :
    Held q (s.burstJudge) := by
  unfold State.burstJudge; repeat' first | with_reducible assumption | with_reducible apply State.burstStart_held | with_reducible apply State.incSat_held | with_reducible apply held_ite | simp only [held_mk, held_fold] | split

theorem State.burstRetryDue_held {q} {s : State} (h : Held q s) :
    Held q (s.burstRetryDue) := by
  unfold State.burstRetryDue; repeat' first | with_reducible assumption | with_reducible apply State.setB_held | with_reducible apply held_ite | simp only [held_mk, held_fold] | split

theorem State.gridReturn_held {q} {s : State} (h : Held q s) :
    Held q (s.gridReturn) := by
  unfold State.gridReturn; repeat' first | with_reducible assumption | with_reducible apply State.incSat_held | with_reducible apply State.setR_held | with_reducible apply State.keepLog_held | with_reducible apply State.keepIrq_held | with_reducible apply State.burstDue_held | with_reducible apply held_ite

theorem State.gridLoss_held {q} {s : State} (h : Held q s) :
    Held q (s.gridLoss) := by
  unfold State.gridLoss; repeat' first | with_reducible assumption | with_reducible apply State.keepLog_held | with_reducible apply State.keepIrq_held | with_reducible apply State.setR_held

theorem State.beaconSendOp_held {q} {s : State} (h : Held q s) :
    Held q (s.beaconSendOp) := by
  unfold State.beaconSendOp; repeat' first | with_reducible assumption | with_reducible apply State.burstDue_held

theorem State.wakeClrOp_held {q} {s : State} (h : Held q s) :
    Held q (s.wakeClrOp) := by
  unfold State.wakeClrOp; repeat' first | with_reducible assumption | with_reducible apply State.setB_held

theorem State.keepClearOp_held {q} {s : State} (h : Held q s) :
    Held q (s.keepClearOp) := by
  unfold State.keepClearOp; repeat' first | with_reducible assumption | with_reducible apply State.setR_held

theorem State.keepTest_held {q} {s : State} {on : Bool} (h : Held q s) :
    Held q (s.keepTest on) := by
  unfold State.keepTest; repeat' first | with_reducible assumption | with_reducible apply held_ite | simp only [held_mk, held_fold]

theorem State.logDecision_held {q} {s : State} {mask : Word} (h : Held q s) :
    Held q (s.logDecision mask) := by
  unfold State.logDecision; repeat' first | with_reducible assumption | with_reducible apply State.irqLog_held | with_reducible apply State.setMemBytes_held | with_reducible apply State.irq_held | simp only [held_mk, held_fold] | split

theorem State.guardDecide_held {q} {s : State} {mask : Word} {point : Nat} (h : Held q s) :
    Held q (s.guardDecide mask point) := by
  unfold State.guardDecide; repeat' first | intro _ | with_reducible assumption | with_reducible apply State.guardChange_held | with_reducible apply State.modR_held | with_reducible apply State.setR_held | with_reducible apply State.logDecision_held | with_reducible apply State.blockEv_held | with_reducible apply State.incSat_held | with_reducible apply State.enterSafe_held | with_reducible apply held_ite | simp only [held_mk, held_fold] | split

theorem State.guardFire_held {q} {s : State} {f point : Nat} (h : Held q s) :
    Held q (s.guardFire f point) := by
  unfold State.guardFire; repeat' first | with_reducible assumption | with_reducible apply State.guardDecide_held | with_reducible apply held_ite

theorem State.safetyFault_held {q} {s : State} {b : Nat} (h : Held q s) :
    Held q (s.safetyFault b) := by
  unfold State.safetyFault; repeat' first | with_reducible assumption | with_reducible apply State.irq_held | with_reducible apply State.incSat_held | with_reducible apply State.setB_held | with_reducible apply State.guardFire_held

theorem State.tripResetOp_held {q} {s : State} {key : Nat} (h : Held q s) :
    Held q (s.tripResetOp key) := by
  unfold State.tripResetOp; repeat' first | intro _ | with_reducible assumption | with_reducible apply State.guardChange_held | with_reducible apply State.setR_held | with_reducible apply State.setF_held | with_reducible apply State.logE_held | with_reducible apply State.refuse_held | with_reducible apply held_ite | with_reducible apply held_foldl | simp only [held_mk, held_fold]

theorem State.proof_held {q} {s : State} {i : Nat} (h : Held q s) :
    Held q (s.proof i) := by
  unfold State.proof; repeat' first | with_reducible assumption | with_reducible apply held_ite | simp only [held_mk, held_fold]

theorem State.inputChange_held {q} {s : State} {i : Nat} {chB closed : Bool} (h : Held q s) :
    Held q (s.inputChange i chB closed) := by
  unfold State.inputChange; repeat' first | with_reducible assumption | with_reducible apply State.setB_held | with_reducible apply State.proof_held | with_reducible apply State.blockEv_held | with_reducible apply State.irq_held | with_reducible apply State.incSat_held | with_reducible apply State.guardFire_held | with_reducible apply held_ite | simp only [held_mk, held_fold]

theorem State.faultClrOp_held {q} {s : State} {data : Word} (h : Held q s) :
    Held q (s.faultClrOp data) := by
  unfold State.faultClrOp; repeat' first | with_reducible assumption | with_reducible apply State.modR_held | with_reducible apply State.setB_held | with_reducible apply State.refuse_held | with_reducible apply held_ite

theorem State.sealRefuse_held {q} {s : State} {code : Nat} (h : Held q s) :
    Held q (s.sealRefuse code) := by
  unfold State.sealRefuse; repeat' first | with_reducible assumption | with_reducible apply State.setR_held | with_reducible apply State.refuse_held | with_reducible apply State.irqLog_held | with_reducible apply held_ite | simp only [held_mk, held_fold]

theorem State.sealAuth_held {q} {s : State} {change : Bool} {slot : Nat} (h : Held q s) :
    Held q (s.sealAuth change slot) := by
  unfold State.sealAuth; repeat' first | with_reducible assumption | with_reducible apply State.sealRefuse_held | with_reducible apply State.incSat_held | with_reducible apply held_ite | simp only [held_mk, held_fold]

theorem State.openChangeOp_held {q} {s : State} (h : Held q s) :
    Held q (s.openChangeOp) := by
  unfold State.openChangeOp; repeat' first | with_reducible assumption | with_reducible apply State.sealRefuse_held | with_reducible apply State.sealAuth_held | with_reducible apply held_ite

theorem State.openRestoreOp_held {q} {s : State} (h : Held q s) :
    Held q (s.openRestoreOp) := by
  unfold State.openRestoreOp; repeat' first | with_reducible assumption | with_reducible apply State.sealRefuse_held | with_reducible apply State.sealAuth_held | with_reducible apply held_ite | split

theorem State.burnOp_held {q} {s : State} (h : Held q s) :
    Held q (s.burnOp) := by
  unfold State.burnOp; repeat' first | with_reducible assumption | with_reducible apply State.sealRefuse_held | with_reducible apply held_ite | simp only [held_mk, held_fold]

theorem State.abortOp_held {q} {s : State} (h : Held q s) :
    Held q (s.abortOp) := by
  unfold State.abortOp; repeat' first | with_reducible assumption | with_reducible apply State.sealClose_held | with_reducible apply State.sealRefuse_held | with_reducible apply held_ite

theorem State.sealCmd_held {q} {s : State} {cmd key : Nat} (h : Held q s) :
    Held q (s.sealCmd cmd key) := by
  unfold State.sealCmd; repeat' first | with_reducible assumption | with_reducible apply State.sealRefuse_held | with_reducible apply State.openChangeOp_held | with_reducible apply State.openRestoreOp_held | with_reducible apply State.burnOp_held | with_reducible apply State.abortOp_held | with_reducible apply held_ite | split

theorem State.activateStaged_held {q} {s : State} (h : Held q s) :
    Held q (s.activateStaged) := by
  unfold State.activateStaged; repeat' first | with_reducible assumption | with_reducible apply State.setNvBytes_held

theorem State.sealDone_held {q} {s : State} {slot : Nat} (h : Held q s) :
    Held q (s.sealDone slot) := by
  unfold State.sealDone; repeat' first | with_reducible assumption | with_reducible apply State.irqLog_held

theorem State.guardRegsReset_held {q} {s : State} (h : Held q s) :
    Held q (s.guardRegsReset) := by
  unfold State.guardRegsReset; repeat' first | with_reducible assumption | simp only [held_mk, held_fold] | apply heldOf_filterRegs

theorem State.noBand_held {q} {s : State} (h : Held q s) :
    Held q (s.noBand) := by
  unfold State.noBand; repeat' first | with_reducible assumption | with_reducible apply State.irq_held | with_reducible apply State.setB_held

theorem State.selectBand_held {q} {s : State} (h : Held q s) :
    Held q (s.selectBand) := by
  unfold State.selectBand; repeat' first | with_reducible assumption | with_reducible apply State.setB_held | with_reducible apply State.setF_held | with_reducible apply State.noBand_held | simp only [held_mk, held_fold] | split

theorem State.relockOp_held {q} {s : State} (h : Held q s) :
    Held q (s.relockOp) := by
  unfold State.relockOp; repeat' first | with_reducible assumption | with_reducible apply State.refuse_held | with_reducible apply State.noBand_held | with_reducible apply State.blockEv_held | with_reducible apply State.commitPage_held | with_reducible apply State.adcAbandon_held | with_reducible apply State.pwmFreeze_held | with_reducible apply State.selectBand_held | with_reducible apply held_ite | simp only [held_mk, held_fold]

theorem State.pllUnlock_held {q} {s : State} (h : Held q s) :
    Held q (s.pllUnlock) := by
  unfold State.pllUnlock; repeat' first | with_reducible assumption | with_reducible apply State.incSat_held | with_reducible apply State.irq_held | with_reducible apply State.setF_held | with_reducible apply State.setB_held | with_reducible apply State.logE_held | with_reducible apply State.enterSafe_held | with_reducible apply held_ite | simp only [held_mk, held_fold]

theorem State.windowEnd_held {q} {s : State} {c : Nat} (h : Held q s) :
    Held q (s.windowEnd c) := by
  unfold State.windowEnd; repeat' first | with_reducible assumption | with_reducible apply State.setB_held | with_reducible apply State.setR_held | with_reducible apply State.setF_held | with_reducible apply State.irq_held | with_reducible apply State.pllUnlock_held | with_reducible apply held_ite | simp only [held_mk, held_fold]

theorem State.ditherOp_held {q} {s : State} {data : Word} (h : Held q s) :
    Held q (s.ditherOp data) := by
  unfold State.ditherOp; repeat' first | with_reducible assumption | with_reducible apply State.setR_held | simp only [held_mk, held_fold]

theorem State.q8_held {q} {s : State} {n : Int} (h : Held q s) :
    Held q (s.q8 n).2 := by
  unfold State.q8; repeat' first | with_reducible assumption | with_reducible apply State.takeFree_held | with_reducible apply held_ite_snd

theorem State.servoJudge_held {q} {s : State} {th : Int} (h : Held q s) :
    Held q (s.servoJudge th) := by
  unfold State.servoJudge; repeat' first | with_reducible assumption | with_reducible apply State.irq_held | with_reducible apply State.setB_held | with_reducible apply State.setF_held | with_reducible apply held_ite | simp only [held_mk, held_fold]

theorem State.servoSample_held {q} {s : State} {th : Int} (h : Held q s) :
    Held q (s.servoSample th) := by
  unfold State.servoSample; repeat' first | with_reducible assumption | with_reducible apply State.setF_held | with_reducible apply State.setR_held | with_reducible apply State.incMod_held | with_reducible apply State.irqLog_held | with_reducible apply State.blockEv_held | with_reducible apply State.shiftPlant_held | with_reducible apply State.servoJudge_held | with_reducible apply State.q8_held | with_reducible apply held_ite | simp only [held_mk, held_fold]

theorem State.servoFracOp_held {q} {s : State} {data : Word} (h : Held q s) :
    Held q (s.servoFracOp data) := by
  unfold State.servoFracOp; repeat' first | with_reducible assumption | with_reducible apply State.setR_held | with_reducible apply State.refuse_held | with_reducible apply held_ite

theorem State.servoSrcOp_held {q} {s : State} {src : Nat} (h : Held q s) :
    Held q (s.servoSrcOp src) := by
  unfold State.servoSrcOp; repeat' first | with_reducible assumption | with_reducible apply State.setR_held | with_reducible apply State.setF_held | with_reducible apply held_ite | simp only [held_mk, held_fold]

theorem State.logTimeChange_held {q} {s : State} {d : Int} (h : Held q s) :
    Held q (s.logTimeChange d) := by
  unfold State.logTimeChange; repeat' first | with_reducible assumption | with_reducible apply State.logE_held | with_reducible apply State.blockEv_held

theorem State.loadSet_held {q} {s : State} (h : Held q s) :
    Held q (s.loadSet) := by
  unfold State.loadSet; repeat' first | with_reducible assumption | with_reducible apply State.logTimeChange_held | simp only [held_mk, held_fold]

theorem State.addAdj_held {q} {s : State} (h : Held q s) :
    Held q (s.addAdj) := by
  unfold State.addAdj; repeat' first | with_reducible assumption | with_reducible apply State.logTimeChange_held | with_reducible apply State.shiftPlant_held

theorem State.setCmdOp_held {q} {s : State} {set adj : Bool} (h : Held q s) :
    Held q (s.setCmdOp set adj) := by
  unfold State.setCmdOp; repeat' first | with_reducible assumption | with_reducible apply State.refuse_held | with_reducible apply State.elapse_held | with_reducible apply State.loadSet_held | with_reducible apply State.addAdj_held | with_reducible apply held_ite

theorem State.alignE0_held {q} {s : State} (h : Held q s) :
    Held q (s.alignE0) := by
  unfold State.alignE0; repeat' first | with_reducible assumption | with_reducible apply State.elapse_held | simp only [held_mk, held_fold]

theorem State.takePort_held {q} {s : State} {port : Bool} (h : Held q s) :
    Held q (s.takePort port) := by
  unfold State.takePort; repeat' first | with_reducible assumption | with_reducible apply State.setB_held | simp only [held_mk, held_fold]

theorem State.tailTrim_held {q} {s : State} {n : Nat} (h : Held q s) :
    Held q (s.tailTrim n) := by
  unfold State.tailTrim; split
  · exact State.setR_held (State.takeFree_held h)
  · exact h

theorem State.markSearch_held {q} {s : State} {port : Bool} (h : Held q s) :
    Held q (s.markSearch port) := by
  unfold State.markSearch; repeat' first | with_reducible assumption | with_reducible apply State.takePort_held | with_reducible apply held_ite | simp only [held_mk, held_fold]

theorem State.tlLost_held {q} {s : State} (h : Held q s) :
    Held q (s.tlLost) := by
  unfold State.tlLost; repeat' first | with_reducible assumption | with_reducible apply State.enterSafe_held | with_reducible apply State.logE_held | with_reducible apply State.cellFault_held | with_reducible apply held_ite

theorem State.markOnPort_held {q} {s : State} (h : Held q s) :
    Held q (s.markOnPort) := by
  unfold State.markOnPort; repeat' first | with_reducible assumption | with_reducible apply State.setR_held | with_reducible apply State.setF_held | with_reducible apply State.tlLost_held | with_reducible apply held_ite | simp only [held_mk, held_fold] | split

theorem State.persistOne_held {q} {s : State} {e : PEntry} {rest : List PEntry} (h : Held q s) :
    Held q (s.persistOne e rest) := by
  unfold State.persistOne; repeat' first | with_reducible assumption | with_reducible apply State.setNvBytes_held | with_reducible apply State.blockEv_held | with_reducible apply State.incMod_held | with_reducible apply State.irq_held | with_reducible apply State.incSat_held | with_reducible apply held_ite | simp only [held_mk, held_fold]

theorem State.volRdOp_held {q} {s : State} {data : Word} (h : Held q s) :
    Held q (s.volRdOp data) := by
  unfold State.volRdOp; repeat' first | with_reducible assumption | with_reducible apply State.refuse_held | with_reducible apply State.setF_held | with_reducible apply held_ite

theorem State.logClearOp_held {q} {s : State} (h : Held q s) :
    Held q (s.logClearOp) := by
  unfold State.logClearOp; repeat' first | with_reducible assumption | with_reducible apply State.setR_held

theorem State.scrubNext_held {q} {s : State} (h : Held q s) :
    Held q (s.scrubNext) := by
  unfold State.scrubNext; repeat' first | with_reducible assumption | with_reducible apply State.blockEv_held | with_reducible apply State.setB_held | with_reducible apply State.setF_held | with_reducible apply held_ite | simp only [held_mk, held_fold]

theorem State.ceFound_held {q} {s : State} {a : Nat} (h : Held q s) :
    Held q (s.ceFound a) := by
  unfold State.ceFound; repeat' first | with_reducible assumption | with_reducible apply State.irq_held | with_reducible apply State.setR_held | with_reducible apply State.incSat_held

theorem State.ageFlag_held {q} {s : State} {b : Nat} {c : Bool} (h : Held q s) :
    Held q (s.ageFlag b c) := by
  unfold State.ageFlag; repeat' first | with_reducible assumption | with_reducible apply State.irqLog_held | with_reducible apply State.setB_held | with_reducible apply held_ite

theorem State.ageJudge_held {q} {s : State} (h : Held q s) :
    Held q (s.ageJudge) := by
  unfold State.ageJudge; repeat' first | with_reducible assumption | with_reducible apply State.ageFlag_held

theorem State.ageLoadOp_held {q} {s : State} (h : Held q s) :
    Held q (s.ageLoadOp) := by
  unfold State.ageLoadOp; repeat' first | with_reducible assumption | with_reducible apply State.ageJudge_held | with_reducible apply State.setR_held | with_reducible apply State.refuse_held | with_reducible apply held_ite

theorem State.testClearErrOp_held {q} {s : State} (h : Held q s) :
    Held q (s.testClearErrOp) := by
  unfold State.testClearErrOp; repeat' first | with_reducible assumption | with_reducible apply State.setR_held

theorem State.testClearLaneOp_held {q} {s : State} (h : Held q s) :
    Held q (s.testClearLaneOp) := by
  unfold State.testClearLaneOp; repeat' first | intro _ | with_reducible assumption | with_reducible apply State.setR_held | with_reducible apply held_foldl

theorem State.controlReset_held {q} {s : State} {m : Mode} {cause : BitVec 5} (h : Held q s) :
    Held q (s.controlReset m cause) := by
  have h0 := (State.sealClose_held h).of
  exact ⟨⟨h0.queue, SMap.wf_filter h0.mem, SMap.wf_filter h0.regs, rfl, rfl, h0.guardRam, h0.nv⟩⟩

theorem State.cellLanes_held {q} {s : State} (h : Held q s) :
    Held q (s.cellLanes) := by
  unfold State.cellLanes; repeat' first | intro _ | with_reducible assumption | with_reducible apply State.setR_held | with_reducible apply State.laneModeSet_held | with_reducible apply held_ite | with_reducible apply held_foldl

theorem State.enterBoot_held {q} {s : State} {cause : BitVec 5} (h : Held q s) :
    Held q (s.enterBoot cause) := by
  unfold State.enterBoot; repeat' first | with_reducible assumption | with_reducible apply State.cellLanes_held | with_reducible apply State.controlReset_held

theorem State.lastGasp_held {q} {s : State} {rail : Nat} (h : Held q s) :
    Held q (s.lastGasp rail) := by
  unfold State.lastGasp; repeat' first | with_reducible assumption | with_reducible apply State.keeperLog_held | with_reducible apply State.burstDue_held | with_reducible apply held_ite | simp only [held_mk, held_fold]

theorem State.powerDown_held {q} {s : State} {rail : Nat} {cause : BitVec 5} (h : Held q s) :
    Held q (s.powerDown rail cause) := by
  unfold State.powerDown; repeat' first | with_reducible assumption | with_reducible apply State.controlReset_held | with_reducible apply State.lastGasp_held | with_reducible apply held_ite | simp only [held_mk, held_fold]

theorem State.swResetOp_held {q} {s : State} {key : Nat} (h : Held q s) :
    Held q (s.swResetOp key) := by
  unfold State.swResetOp; repeat' first | with_reducible assumption | with_reducible apply State.enterBoot_held | with_reducible apply State.refuse_held | with_reducible apply held_ite

theorem State.fatal_held {q} {s : State} (h : Held q s) :
    Held q (s.fatal) := by
  unfold State.fatal; repeat' first | with_reducible assumption | with_reducible apply State.enterSafe_held | simp only [held_mk, held_fold]

theorem State.restoreAge_held {q} {s : State} (h : Held q s) :
    Held q (s.restoreAge) := by
  unfold State.restoreAge; repeat' first | with_reducible assumption | with_reducible apply State.ageJudge_held | with_reducible apply State.setB_held | with_reducible apply State.setR_held | split

theorem State.zeroMemories_held {q} {s : State} (h : Held q s) :
    Held q (s.zeroMemories) := by
  refine ⟨{ h.of with mem := ?_, sump := rfl }⟩
  show SMap.wf (fun _ => 0) (if s.pw.causePending &&& 3 = 0 then SMap.keep (fun a _ => decide (a < 0x200000)) s.mem else []) = true
  split
  · exact SMap.wf_filter h.of.mem
  · rfl

theorem State.bootVerify_held {q} {s : State} {can : Bool} (h : Held q s) :
    Held q (s.bootVerify can) := by
  unfold State.bootVerify; repeat' first | intro _ | with_reducible assumption | with_reducible apply State.guardChange_held | with_reducible apply State.verifyProfile_held | with_reducible apply State.logE_held | with_reducible apply held_ite

theorem State.bootLinks_held {q} {s : State} {links : BitVec 8} (h : Held q s) :
    Held q (s.bootLinks links) := by
  unfold State.bootLinks; repeat' first | intro _ | with_reducible assumption | with_reducible apply State.modIsl_held | with_reducible apply held_foldl

theorem State.bootEntries_held {q} {s : State} (h : Held q s) :
    Held q (s.bootEntries) := by
  unfold State.bootEntries; repeat' first | with_reducible assumption | with_reducible apply State.irqLog_held | with_reducible apply State.logE_held | with_reducible apply held_ite | simp only [held_mk, held_fold] | split

end Sys2Proof.Machine
end

