-- ==== Sys2Proof/Laws/HeldControl.lean ====
section
/-! SUPPORT. What the operations keep (`Held`): strokes, tables, the loader, grid control, islands, lanes and metering. -/
namespace Sys2Proof.Machine
open Sys2Proof
set_option linter.unusedSimpArgs false

theorem State.extreme_held {q} {s : State} {op : Nat} {f : Vec} {isMax : Bool} {out : FVal × Nat → FRes} (h : Held q s) :
    Held q (s.extreme op f isMax out) := by
  unfold State.extreme; repeat' first | intro _ | with_reducible assumption | with_reducible apply State.vector_held | with_reducible apply State.readElem_held | with_reducible apply State.writeD_held

theorem State.tableArmOp_held {q} {s : State} {mask : BitVec 8} (h : Held q s) :
    Held q (s.tableArmOp mask) := by
  unfold State.tableArmOp; repeat' first | with_reducible assumption | simp only [held_mk, held_fold]

theorem State.tableSwaps_held {q} {s : State} (h : Held q s) :
    Held q (s.tableSwaps) := by
  unfold State.tableSwaps; repeat' first | intro _ | with_reducible assumption | with_reducible apply State.blockEv_held | with_reducible apply State.irq_held | with_reducible apply held_ite | with_reducible apply held_foldl | simp only [held_mk, held_fold]

theorem State.copyBack_held {q} {s : State} {k : Nat} (h : Held q s) :
    Held q (s.copyBack k) := by
  unfold State.copyBack; repeat' first | with_reducible assumption | with_reducible apply State.setMemBytes_held

theorem State.compTheta_held {q} {s : State} {k : Nat} (h : Held q s) :
    Held q (s.compTheta k).2 := by
  unfold State.compTheta; repeat' first | with_reducible assumption | with_reducible apply State.pick2_held

theorem State.compEval_held {q} {s : State} {k : Nat} (h : Held q s) :
    Held q (s.compEval k) := by
  unfold State.compEval; repeat' first | with_reducible assumption | with_reducible apply State.compTheta_held | with_reducible apply State.setR_held | with_reducible apply State.setSump_held | with_reducible apply State.irqIf_held | with_reducible apply held_ite

theorem State.compE0_held {q} {s : State} (h : Held q s) :
    Held q (s.compE0) := by
  unfold State.compE0; repeat' first | intro _ | with_reducible assumption | with_reducible apply State.compEval_held | with_reducible apply held_foldl

theorem State.tcCfgOp_held {q} {s : State} {k : Nat} {data : Word} (h : Held q s) :
    Held q (s.tcCfgOp k data) := by
  unfold State.tcCfgOp; repeat' first | with_reducible assumption | with_reducible apply State.refuse_held | with_reducible apply State.setR_held | with_reducible apply held_ite

theorem State.tableWrite_held {q} {s : State} {ad : Nat} {data : Word} {be : BitVec 4} {put : State → Nat → Word → BitVec 4 → State} (h : Held q s) (hput : ∀ y0 y1 y2 y3, Held q y0 → Held q (put y0 y1 y2 y3)) :
    Held q (s.tableWrite ad data be put) := by
  unfold State.tableWrite; repeat' first | with_reducible assumption | with_reducible apply State.busErr_held | with_reducible apply State.refuse_held | with_reducible apply State.incSat_held | with_reducible apply held_ite | apply_assumption

theorem State.loadSchedule_held {q} {s : State} {src len : Nat} (h : Held q s) :
    Held q (s.loadSchedule src len).2.2 := by
  unfold State.loadSchedule; repeat' first | with_reducible assumption | with_reducible apply State.setLinkFail_held | with_reducible apply State.compose_held | with_reducible apply held_ite | simp only [held_mk, held_fold] | split

theorem State.initWords_held {q} {s : State} {c : ChanSlot} {w : Nat} {a : List Word} (h : Held q s) :
    Held q (s.initWords c w a) := by
  induction a generalizing s c w <;> (simp only [State.initWords]; repeat' first | with_reducible assumption | with_reducible apply State.setSump_held | apply_assumption)

theorem State.loadChannel_held {q} {s : State} {src len n : Nat} (h : Held q s) :
    Held q (s.loadChannel src len n).2.2 := by
  unfold State.loadChannel; repeat' first | with_reducible assumption | with_reducible apply State.setLinkFail_held | with_reducible apply State.setChan_held | with_reducible apply State.initWords_held | with_reducible apply State.chanMove_held | with_reducible apply State.compose_held | with_reducible apply State.modChan_held | simp only [held_mk, held_fold] | split

theorem State.loadTable_held {q} {s : State} {src len k : Nat} (h : Held q s) :
    Held q (s.loadTable src len k).2.2 := by
  unfold State.loadTable; repeat' first | with_reducible assumption | with_reducible apply State.setMemBytes_held | with_reducible apply held_ite | simp only [held_mk, held_fold] | split

theorem State.loadPlan_held {q} {s : State} {src len : Nat} (h : Held q s) :
    Held q (s.loadPlan src len).2.2 := by
  unfold State.loadPlan; repeat' first | with_reducible assumption | simp only [held_mk, held_fold] | split

theorem State.loadProfile_held {q} {s : State} {src len : Nat} (h : Held q s) :
    Held q (s.loadProfile src len).2.2 := by
  unfold State.loadProfile; repeat' first | intro _ | with_reducible assumption | with_reducible apply State.setNvBytes_held | with_reducible apply State.sealDone_held | with_reducible apply State.sealClose_held | with_reducible apply State.guardChange_held | with_reducible apply State.verifyProfile_held | simp only [held_mk, held_fold] | split

theorem State.loadTarget_held {q} {s : State} {src len ty : Nat} {t : Word} (h : Held q s) :
    Held q (s.loadTarget src len ty t).2.2 := by
  unfold State.loadTarget; repeat' first | with_reducible assumption | with_reducible apply State.loadSchedule_held | with_reducible apply State.staleRecord_held | with_reducible apply State.loadChannel_held | with_reducible apply State.loadTable_held | with_reducible apply State.loadPlan_held | with_reducible apply State.loadProfile_held | split

theorem State.loadJudge_held {q} {s : State} {src : Nat} {t : Word} (h : Held q s) :
    Held q (s.loadJudge src t).2.2 := by
  unfold State.loadJudge; repeat' first | with_reducible assumption | with_reducible apply State.loadTarget_held | split

theorem State.loadStartOp_held {q} {s : State} (h : Held q s) :
    Held q (s.loadStartOp) := by
  unfold State.loadStartOp; repeat' first | with_reducible assumption | with_reducible apply State.setR_held | with_reducible apply held_ite | simp only [held_mk, held_fold]

theorem State.loadEndWith_held {q} {s : State} {code : Nat} (h : Held q s) :
    Held q (s.loadEndWith code) := by
  unfold State.loadEndWith; repeat' first | with_reducible assumption | with_reducible apply State.loadResult_held | simp only [held_mk, held_fold] | split

theorem State.loadCmdOp_held {q} {s : State} {v : Nat} (h : Held q s) :
    Held q (s.loadCmdOp v) := by
  unfold State.loadCmdOp; repeat' first | with_reducible assumption | with_reducible apply State.loadStartOp_held | with_reducible apply State.loadEndWith_held | split

theorem State.loadDone_held {q} {s : State} {src : Nat} {t : Word} (h : Held q s) :
    Held q (s.loadDone src t) := by
  unfold State.loadDone; repeat' first | with_reducible assumption | with_reducible apply State.loadJudge_held | with_reducible apply State.setR_held | with_reducible apply State.loadResult_held | with_reducible apply held_ite | simp only [held_mk, held_fold]

theorem State.syncMove_held {q} {s : State} {st : Nat} (h : Held q s) :
    Held q (s.syncMove st) := by
  unfold State.syncMove; repeat' first | with_reducible assumption | with_reducible apply State.blockEv_held | simp only [held_mk, held_fold]

theorem State.setTheta_held {q} {s : State} {theta omega : Word} (h : Held q s) :
    Held q (s.setTheta theta omega) := by
  unfold State.setTheta; repeat' first | with_reducible assumption | with_reducible apply State.setSump_held

theorem State.syncIdle_held {q} {s : State} (h : Held q s) :
    Held q (s.syncIdle) := by
  unfold State.syncIdle; repeat' first | intro _ | with_reducible assumption | with_reducible apply State.syncMove_held | with_reducible apply State.setSump_held | with_reducible apply held_ite | with_reducible apply held_foldl | simp only [held_mk, held_fold]

theorem State.syncLock_held {q} {s : State} (h : Held q s) :
    Held q (s.syncLock) := by
  unfold State.syncLock; repeat' first | with_reducible assumption | with_reducible apply State.irq_held | with_reducible apply State.syncMove_held | simp only [held_mk, held_fold]

theorem State.syncUnlock_held {q} {s : State} (h : Held q s) :
    Held q (s.syncUnlock) := by
  unfold State.syncUnlock; repeat' first | with_reducible assumption | with_reducible apply State.irqLog_held | with_reducible apply State.syncMove_held | simp only [held_mk, held_fold]

theorem State.coastEnter_held {q} {s : State} (h : Held q s) :
    Held q (s.coastEnter) := by
  unfold State.coastEnter; repeat' first | with_reducible assumption | with_reducible apply State.setR_held | with_reducible apply State.setTheta_held | with_reducible apply State.irqLog_held | with_reducible apply State.incSat_held | with_reducible apply State.syncMove_held | simp only [held_mk, held_fold]

theorem State.syncLost_held {q} {s : State} (h : Held q s) :
    Held q (s.syncLost) := by
  unfold State.syncLost; repeat' first | with_reducible assumption | with_reducible apply State.irqLog_held | with_reducible apply State.incSat_held | with_reducible apply State.syncMove_held

theorem State.lostReturn_held {q} {s : State} (h : Held q s) :
    Held q (s.lostReturn) := by
  unfold State.lostReturn; repeat' first | with_reducible assumption | with_reducible apply State.syncMove_held | with_reducible apply State.setTheta_held | simp only [held_mk, held_fold]

theorem State.slewStep_held {q} {s : State} {theta : Word} (h : Held q s) :
    Held q (s.slewStep theta) := by
  unfold State.slewStep; repeat' first | with_reducible assumption | with_reducible apply State.setTheta_held | with_reducible apply State.syncMove_held | with_reducible apply held_ite | simp only [held_mk, held_fold]

theorem State.slewDone_held {q} {s : State} (h : Held q s) :
    Held q (s.slewDone) := by
  unfold State.slewDone; repeat' first | with_reducible assumption | with_reducible apply State.syncMove_held | simp only [held_mk, held_fold]

theorem State.jumpMeasure_held {q} {s : State} {theta : Word} (h : Held q s) :
    Held q (s.jumpMeasure theta) := by
  unfold State.jumpMeasure; repeat' first | with_reducible assumption | with_reducible apply State.irqLog_held | with_reducible apply State.setR_held | with_reducible apply State.syncMove_held | with_reducible apply State.setTheta_held | with_reducible apply State.incSat_held | with_reducible apply State.slewStep_held | with_reducible apply held_ite | simp only [held_mk, held_fold]

theorem State.acquireE0_held {q} {s : State} {i : SyncIn} (h : Held q s) :
    Held q (s.acquireE0 i) := by
  unfold State.acquireE0; repeat' first | with_reducible assumption | with_reducible apply State.setTheta_held | with_reducible apply State.syncLock_held | with_reducible apply held_ite | simp only [held_mk, held_fold]

theorem State.trackingE0_held {q} {s : State} {i : SyncIn} (h : Held q s) :
    Held q (s.trackingE0 i) := by
  unfold State.trackingE0; repeat' first | with_reducible assumption | with_reducible apply State.coastEnter_held | with_reducible apply State.setTheta_held | with_reducible apply State.syncUnlock_held | with_reducible apply held_ite | simp only [held_mk, held_fold]

theorem State.coastOn_held {q} {s : State} (h : Held q s) :
    Held q (s.coastOn) := by
  unfold State.coastOn; repeat' first | with_reducible assumption | with_reducible apply State.setTheta_held

theorem State.coastingE0_held {q} {s : State} {i : SyncIn} (h : Held q s) :
    Held q (s.coastingE0 i) := by
  unfold State.coastingE0; repeat' first | with_reducible assumption | with_reducible apply State.jumpMeasure_held | with_reducible apply State.syncLost_held | with_reducible apply State.coastOn_held | with_reducible apply held_ite | simp only [held_mk, held_fold]

theorem State.lostE0_held {q} {s : State} {i : SyncIn} (h : Held q s) :
    Held q (s.lostE0 i) := by
  unfold State.lostE0; repeat' first | with_reducible assumption | with_reducible apply State.coastOn_held | with_reducible apply State.lostReturn_held | with_reducible apply held_ite | simp only [held_mk, held_fold]

theorem State.gridForm_held {q} {s : State} (h : Held q s) :
    Held q (s.gridForm) := by
  unfold State.gridForm; repeat' first | with_reducible assumption | with_reducible apply State.setSump_held | simp only [held_mk, held_fold]

theorem State.gfWords_held {q} {s : State} {was : Bool} (h : Held q s) :
    Held q (s.gfWords was) := by
  unfold State.gfWords; repeat' first | with_reducible assumption | with_reducible apply State.gridForm_held | with_reducible apply State.setSump_held | with_reducible apply held_ite | simp only [held_mk, held_fold]

theorem State.syncCopies_held {q} {s : State} (h : Held q s) :
    Held q (s.syncCopies) := by
  unfold State.syncCopies; repeat' first | with_reducible assumption | with_reducible apply State.setR_held

theorem State.syncObserve_held {q} {s : State} {i : SyncIn} (h : Held q s) :
    Held q (s.syncObserve i) := by
  unfold State.syncObserve; repeat' first | with_reducible assumption | with_reducible apply State.setR_held | with_reducible apply State.setSump_held | with_reducible apply held_ite | simp only [held_mk, held_fold]

theorem State.syncPower_held {q} {s : State} (h : Held q s) :
    Held q (s.syncPower) := by
  unfold State.syncPower; repeat' first | with_reducible assumption | with_reducible apply State.setSump_held

theorem State.syncMachine_held {q} {s : State} {i : SyncIn} (h : Held q s) :
    Held q (s.syncMachine i) := by
  unfold State.syncMachine; repeat' first | with_reducible assumption | with_reducible apply State.acquireE0_held | with_reducible apply State.trackingE0_held | with_reducible apply State.coastingE0_held | with_reducible apply State.coastEnter_held | with_reducible apply State.slewStep_held | with_reducible apply State.lostE0_held | with_reducible apply held_ite | split

theorem State.syncRemember_held {q} {s : State} (h : Held q s) :
    Held q (s.syncRemember) := by
  unfold State.syncRemember; repeat' first | with_reducible assumption | simp only [held_mk, held_fold]

theorem State.syncE0_held {q} {s : State} {i : SyncIn} (h : Held q s) :
    Held q (s.syncE0 i) := by
  unfold State.syncE0; repeat' first | with_reducible assumption | with_reducible apply State.syncCopies_held | with_reducible apply State.gfWords_held | with_reducible apply State.syncIdle_held | with_reducible apply State.syncMove_held | with_reducible apply State.syncMachine_held | with_reducible apply State.syncPower_held | with_reducible apply State.syncObserve_held | with_reducible apply held_ite | simp only [held_mk, held_fold]

theorem State.syncCfgOp_held {q} {s : State} {data : Word} (h : Held q s) :
    Held q (s.syncCfgOp data) := by
  unfold State.syncCfgOp; repeat' first | with_reducible assumption | with_reducible apply State.refuse_held | with_reducible apply State.setR_held | with_reducible apply held_ite

theorem State.timerE0_held {q} {s : State} {k : Nat} (h : Held q s) :
    Held q (s.timerE0 k) := by
  unfold State.timerE0; repeat' first | with_reducible assumption | with_reducible apply held_ite | simp only [held_mk, held_fold]

theorem State.rideMove_held {q} {s : State} {sub cls : Nat} {irqBit : Option Nat} (h : Held q s) :
    Held q (s.rideMove sub cls irqBit) := by
  unfold State.rideMove; repeat' first | with_reducible assumption | with_reducible apply State.logE_held | with_reducible apply State.blockEv_held | simp only [held_mk, held_fold]

theorem State.rideTrip_held {q} {s : State} {src point : Nat} (h : Held q s) :
    Held q (s.rideTrip src point) := by
  unfold State.rideTrip; repeat' first | with_reducible assumption | with_reducible apply State.rideMove_held | with_reducible apply State.irq_held | with_reducible apply State.incSat_held | simp only [held_mk, held_fold]

theorem State.rideStop_held {q} {s : State} (h : Held q s) :
    Held q (s.rideStop) := by
  unfold State.rideStop; repeat' first | with_reducible assumption | with_reducible apply State.fstopPend_held | with_reducible apply State.setR_held | split

theorem State.rideLimit_held {q} {s : State} {a : Nat} {v : Word} (h : Held q s) :
    Held q (s.rideLimit a v) := by
  unfold State.rideLimit; repeat' first | with_reducible assumption | with_reducible apply State.setR_held | with_reducible apply held_ite

theorem State.rideResume_held {q} {s : State} (h : Held q s) :
    Held q (s.rideResume) := by
  unfold State.rideResume; repeat' first | with_reducible assumption | with_reducible apply State.setR_held | with_reducible apply State.rideLimit_held | with_reducible apply State.profQueue_held | simp only [held_mk, held_fold] | split

theorem State.rideLatch_held {q} {s : State} {hv : Bool} (h : Held q s) :
    Held q (s.rideLatch hv) := by
  unfold State.rideLatch; repeat' first | with_reducible assumption | with_reducible apply State.setR_held | simp only [held_mk, held_fold]

theorem State.rideEnter_held {q} {s : State} {cess : Bool} (h : Held q s) :
    Held q (s.rideEnter cess) := by
  unfold State.rideEnter; repeat' first | with_reducible assumption | with_reducible apply State.rideLatch_held | with_reducible apply State.rideStop_held | with_reducible apply State.rideMove_held | with_reducible apply State.irq_held | with_reducible apply State.incSat_held | with_reducible apply held_ite | simp only [held_mk, held_fold]

theorem State.rideRecover_held {q} {s : State} (h : Held q s) :
    Held q (s.rideRecover) := by
  unfold State.rideRecover; repeat' first | with_reducible assumption | with_reducible apply State.rideMove_held | with_reducible apply State.rideResume_held | with_reducible apply State.setR_held

theorem State.rideTransition_held {q} {s : State} (h : Held q s) :
    Held q (s.rideTransition) := by
  unfold State.rideTransition; repeat' first | with_reducible assumption | with_reducible apply State.rideTrip_held | with_reducible apply State.rideEnter_held | with_reducible apply State.rideMove_held | with_reducible apply State.rideRecover_held | with_reducible apply held_ite | simp only [held_mk, held_fold] | split

theorem State.rideWords_held {q} {s : State} (h : Held q s) :
    Held q (s.rideWords) := by
  unfold State.rideWords; repeat' first | with_reducible assumption | with_reducible apply State.pick2_held | with_reducible apply State.setSump_held | simp only [held_mk, held_fold] | split

theorem State.rideCopies_held {q} {s : State} (h : Held q s) :
    Held q (s.rideCopies) := by
  unfold State.rideCopies; repeat' first | with_reducible assumption | with_reducible apply State.setR_held

theorem State.rideSubWord_held {q} {s : State} (h : Held q s) :
    Held q (s.rideSubWord) := by
  unfold State.rideSubWord; repeat' first | with_reducible assumption | with_reducible apply State.setSump_held

theorem State.rideRunEntry_held {q} {s : State} (h : Held q s) :
    Held q (s.rideRunEntry) := by
  unfold State.rideRunEntry; repeat' first | with_reducible assumption | with_reducible apply State.setYva_held | with_reducible apply State.setProf_held | simp only [held_mk, held_fold] | split

theorem State.rideE0_held {q} {s : State} (h : Held q s) :
    Held q (s.rideE0) := by
  unfold State.rideE0; repeat' first | intro _ | with_reducible assumption | with_reducible apply State.rideRunEntry_held | with_reducible apply State.rideCopies_held | with_reducible apply State.setSump_held | with_reducible apply State.timerE0_held | with_reducible apply State.rideWords_held | with_reducible apply State.rideSubWord_held | with_reducible apply State.rideTransition_held | with_reducible apply held_ite | with_reducible apply held_foldl | simp only [held_mk, held_fold]

theorem State.rideWriteOp_held {q} {s : State} {off : Nat} {data : Word} (h : Held q s) :
    Held q (s.rideWriteOp off data) := by
  unfold State.rideWriteOp; repeat' first | with_reducible assumption | with_reducible apply State.setR_held | with_reducible apply State.refuse_held | with_reducible apply State.stale_held | with_reducible apply held_ite

theorem State.isldDecide_held {q} {s : State} {m : Nat} (h : Held q s) :
    Held q (s.isldDecide m) := by
  unfold State.isldDecide; repeat' first | with_reducible assumption | with_reducible apply State.logE_held | with_reducible apply State.irqLog_held | with_reducible apply State.blockEv_held | with_reducible apply State.incSat_held | with_reducible apply held_ite | simp only [held_mk, held_fold]

theorem State.isldJudge_held {q} {s : State} {m : Nat} (h : Held q s) :
    Held q (s.isldJudge m) := by
  unfold State.isldJudge; repeat' first | with_reducible assumption | with_reducible apply State.isldDecide_held | with_reducible apply held_ite | simp only [held_mk, held_fold]

theorem State.isldTimers_held {q} {s : State} (h : Held q s) :
    Held q (s.isldTimers) := by
  unfold State.isldTimers; repeat' first | with_reducible assumption | with_reducible apply State.setR_held | with_reducible apply held_ite | simp only [held_mk, held_fold] | split

theorem State.isldInject_held {q} {s : State} (h : Held q s) :
    Held q (s.isldInject) := by
  unfold State.isldInject; repeat' first | with_reducible assumption | with_reducible apply State.setSump_held | with_reducible apply State.pick2_held | with_reducible apply held_ite | simp only [held_mk, held_fold]

theorem State.isldCopies_held {q} {s : State} (h : Held q s) :
    Held q (s.isldCopies) := by
  unfold State.isldCopies; repeat' first | with_reducible assumption | with_reducible apply State.setR_held

theorem State.isldE0_held {q} {s : State} (h : Held q s) :
    Held q (s.isldE0) := by
  unfold State.isldE0; repeat' first | intro _ | with_reducible assumption | with_reducible apply State.isldCopies_held | with_reducible apply State.setSump_held | with_reducible apply State.isldInject_held | with_reducible apply State.isldJudge_held | with_reducible apply State.isldTimers_held | with_reducible apply held_ite | with_reducible apply held_foldl | simp only [held_mk, held_fold]

theorem State.policyE0_held {q} {s : State} {i : SyncIn} (h : Held q s) :
    Held q (s.policyE0 i) := by
  unfold State.policyE0; repeat' first | with_reducible assumption | with_reducible apply State.isldE0_held | with_reducible apply State.rideE0_held | with_reducible apply State.syncE0_held | with_reducible apply State.setSump_held | with_reducible apply State.syncRemember_held | with_reducible apply held_ite

theorem State.isldClrOp_held {q} {s : State} (h : Held q s) :
    Held q (s.isldClrOp) := by
  unfold State.isldClrOp; repeat' first | with_reducible assumption | with_reducible apply State.refuse_held | with_reducible apply State.guardReqs_held | with_reducible apply held_ite | simp only [held_mk, held_fold]

theorem State.isldWriteOp_held {q} {s : State} {off : Nat} {data mask : Word} (h : Held q s) :
    Held q (s.isldWriteOp off data mask) := by
  unfold State.isldWriteOp; repeat' first | with_reducible assumption | with_reducible apply State.setR_held | with_reducible apply State.refuse_held | with_reducible apply held_ite

theorem State.shootBlock_held {q} {s : State} {n : Nat} (h : Held q s) :
    Held q (s.shootBlock n) := by
  unfold State.shootBlock; repeat' first | with_reducible assumption | with_reducible apply State.modR_held | with_reducible apply State.modIsl_held | with_reducible apply State.turnOff_held | with_reducible apply State.incSat_held | with_reducible apply State.setB_held | with_reducible apply State.irqLog_held | with_reducible apply held_ite | simp only [held_mk, held_fold]

theorem State.islRise_held {q} {s : State} {n : Nat} (h : Held q s) :
    Held q (s.islRise n) := by
  unfold State.islRise; repeat' first | with_reducible assumption | with_reducible apply State.modIsl_held | with_reducible apply State.shootBlock_held | with_reducible apply State.turnOn_held | with_reducible apply held_ite

theorem State.islFall_held {q} {s : State} {n : Nat} (h : Held q s) :
    Held q (s.islFall n) := by
  unfold State.islFall; repeat' first | with_reducible assumption | with_reducible apply State.modIsl_held | with_reducible apply State.softStart_held | with_reducible apply State.turnOff_held | with_reducible apply held_ite

theorem State.gateLow_held {q} {s : State} {n : Nat} (h : Held q s) :
    Held q (s.gateLow n) := by
  unfold State.gateLow; repeat' first | with_reducible assumption | with_reducible apply State.modIsl_held | simp only [held_mk, held_fold]

theorem State.ilkClrOp_held {q} {s : State} {mask : BitVec 4} (h : Held q s) :
    Held q (s.ilkClrOp mask) := by
  unfold State.ilkClrOp; repeat' first | intro _ | with_reducible assumption | with_reducible apply State.setB_held | with_reducible apply held_ite | with_reducible apply held_foldl

theorem State.follower_held {q} {s : State} {n t : Nat} (h : Held q s) :
    Held q (s.follower n t) := by
  unfold State.follower; repeat' first | with_reducible assumption | with_reducible apply State.logE_held | with_reducible apply State.setB_held

theorem State.scopeOff_held {q} {s : State} {n : Nat} (h : Held q s) :
    Held q (s.scopeOff n) := by
  unfold State.scopeOff; repeat' first | intro _ | with_reducible assumption | with_reducible apply State.follower_held | with_reducible apply State.modIsl_held | with_reducible apply State.softStart_held | with_reducible apply held_ite | with_reducible apply held_foldl

theorem State.captureFault_held {q} {s : State} {n t : Nat} (h : Held q s) :
    Held q (s.captureFault n t) := by
  unfold State.captureFault; repeat' first | with_reducible assumption | with_reducible apply State.setR_held | with_reducible apply State.blockEv_held | with_reducible apply State.scopeOff_held | with_reducible apply State.logE_held | with_reducible apply State.follower_held | with_reducible apply held_ite | simp only [held_mk, held_fold] | split

theorem State.islFault_held {q} {s : State} {n t : Nat} (h : Held q s) :
    Held q (s.islFault n t) := by
  unfold State.islFault; repeat' first | with_reducible assumption | with_reducible apply State.incSat_held | with_reducible apply State.irq_held | with_reducible apply State.irqIf_held | with_reducible apply State.blockEv_held | with_reducible apply State.modIsl_held | with_reducible apply State.softStart_held | with_reducible apply State.cellFault_held | with_reducible apply State.captureFault_held | with_reducible apply State.enterSafe_held | with_reducible apply held_ite | split

theorem State.islFaultClrOp_held {q} {s : State} {n : Nat} (h : Held q s) :
    Held q (s.islFaultClrOp n) := by
  unfold State.islFaultClrOp; repeat' first | with_reducible assumption | with_reducible apply State.modIsl_held | with_reducible apply State.refuse_held | with_reducible apply held_ite

theorem State.islcFaultClrOp_held {q} {s : State} (h : Held q s) :
    Held q (s.islcFaultClrOp) := by
  unfold State.islcFaultClrOp; repeat' first | intro _ | with_reducible assumption | with_reducible apply State.setR_held | with_reducible apply State.modIsl_held | with_reducible apply held_foldl | simp only [held_mk, held_fold]

theorem State.islStatClrOp_held {q} {s : State} {n : Nat} (h : Held q s) :
    Held q (s.islStatClrOp n) := by
  unfold State.islStatClrOp; repeat' first | intro _ | with_reducible assumption | with_reducible apply State.setR_held | with_reducible apply held_foldl

theorem State.islCtrlOp_held {q} {s : State} {n : Nat} {data : Word} (h : Held q s) :
    Held q (s.islCtrlOp n data) := by
  unfold State.islCtrlOp; repeat' first | with_reducible assumption | with_reducible apply State.refuse_held | with_reducible apply State.setR_held | with_reducible apply State.softStart_held | with_reducible apply held_ite

theorem State.islRegOp_held {q} {s : State} {n off : Nat} {data : Word} (h : Held q s) :
    Held q (s.islRegOp n off data) := by
  unfold State.islRegOp; repeat' first | with_reducible assumption | with_reducible apply State.setR_held | with_reducible apply State.refuse_held | with_reducible apply held_ite

theorem State.islcCfgOp_held {q} {s : State} {a : Nat} {data : Word} (h : Held q s) :
    Held q (s.islcCfgOp a data) := by
  unfold State.islcCfgOp; repeat' first | with_reducible assumption | with_reducible apply State.setR_held | with_reducible apply State.refuse_held | with_reducible apply held_ite

theorem State.tripMarker_held {q} {s : State} {n : Nat} (h : Held q s) :
    Held q (s.tripMarker n) := by
  unfold State.tripMarker; repeat' first | with_reducible assumption | with_reducible apply State.modLane_held | with_reducible apply State.irq_held | with_reducible apply State.incSat_held | with_reducible apply State.enterSafe_held | with_reducible apply State.lineTrip_held | with_reducible apply held_ite

theorem State.fomChecks_held {q} {s : State} {n fom : Nat} (h : Held q s) :
    Held q (s.fomChecks n fom) := by
  unfold State.fomChecks; repeat' first | with_reducible assumption | with_reducible apply State.irqLog_held | with_reducible apply State.modLane_held | with_reducible apply held_ite

theorem State.eyeCmdOp_held {q} {s : State} {n : Nat} {data : Word} (h : Held q s) :
    Held q (s.eyeCmdOp n data) := by
  unfold State.eyeCmdOp; repeat' first | with_reducible assumption | with_reducible apply State.refuse_held | with_reducible apply State.setR_held | with_reducible apply State.modLane_held | with_reducible apply held_ite

theorem State.trialRevert_held {q} {s : State} {n : Nat} (h : Held q s) :
    Held q (s.trialRevert n) := by
  unfold State.trialRevert; repeat' first | with_reducible assumption | with_reducible apply State.setR_held | with_reducible apply State.modLane_held | with_reducible apply held_ite

theorem State.trialStart_held {q} {s : State} {n fom : Nat} (h : Held q s) :
    Held q (s.trialStart n fom) := by
  unfold State.trialStart; repeat' first | with_reducible assumption | with_reducible apply State.modLane_held | with_reducible apply State.setR_held | with_reducible apply held_ite | simp only [held_mk, held_fold] | split

theorem State.adaptStep_held {q} {s : State} {n : Nat} (h : Held q s) :
    Held q (s.adaptStep n) := by
  unfold State.adaptStep; repeat' first | with_reducible assumption | with_reducible apply State.modLane_held | with_reducible apply State.trialRevert_held | with_reducible apply State.setR_held | with_reducible apply State.trialStart_held | with_reducible apply held_ite

theorem State.tuneApply_held {q} {s : State} {n : Nat} {c : BitVec 16} (h : Held q s) :
    Held q (s.tuneApply n c) := by
  unfold State.tuneApply; repeat' first | with_reducible assumption | with_reducible apply State.setF_held | with_reducible apply State.irq_held | with_reducible apply State.setR_held | with_reducible apply held_ite | simp only [held_mk, held_fold] | split

theorem State.prbsInjOp_held {q} {s : State} {n k : Nat} (h : Held q s) :
    Held q (s.prbsInjOp n k) := by
  unfold State.prbsInjOp; repeat' first | with_reducible assumption | with_reducible apply State.setR_held | with_reducible apply State.refuse_held | with_reducible apply held_ite

theorem State.laneCtrlOp_held {q} {s : State} {n : Nat} {data : Word} (h : Held q s) :
    Held q (s.laneCtrlOp n data) := by
  unfold State.laneCtrlOp; repeat' first | with_reducible assumption | with_reducible apply State.refuse_held | with_reducible apply State.setR_held | with_reducible apply State.laneModeSet_held | with_reducible apply held_ite

theorem State.laneClearOp_held {q} {s : State} {n : Nat} (h : Held q s) :
    Held q (s.laneClearOp n) := by
  unfold State.laneClearOp; repeat' first | intro _ | with_reducible assumption | with_reducible apply State.setR_held | with_reducible apply State.setF_held | with_reducible apply State.modLane_held | with_reducible apply State.lineCatch_held | with_reducible apply held_foldl

theorem State.laneClearPrbsOp_held {q} {s : State} {n : Nat} (h : Held q s) :
    Held q (s.laneClearPrbsOp n) := by
  unfold State.laneClearPrbsOp; repeat' first | with_reducible assumption | with_reducible apply State.modLane_held | with_reducible apply State.setR_held | with_reducible apply State.setB_held

theorem State.laneRegOp_held {q} {s : State} {n off : Nat} {data : Word} (h : Held q s) :
    Held q (s.laneRegOp n off data) := by
  unfold State.laneRegOp; repeat' first | with_reducible assumption | with_reducible apply State.refuse_held | with_reducible apply State.setR_held | with_reducible apply State.eyeCmdOp_held | with_reducible apply held_ite | simp only [held_mk, held_fold] | split

theorem State.metCfgOp_held {q} {s : State} {p : Nat} {data : Word} (h : Held q s) :
    Held q (s.metCfgOp p data) := by
  unfold State.metCfgOp; repeat' first | with_reducible assumption | with_reducible apply State.refuse_held | with_reducible apply State.setR_held | with_reducible apply State.rangeJudge_held | with_reducible apply State.modMet_held | with_reducible apply State.metClear_held | with_reducible apply held_ite

theorem State.metcCfgOp_held {q} {s : State} {data : Word} (h : Held q s) :
    Held q (s.metcCfgOp data) := by
  unfold State.metcCfgOp; repeat' first | intro _ | with_reducible assumption | with_reducible apply State.metcOp_held | with_reducible apply State.stuckJudge_held | with_reducible apply State.rangeJudge_held | with_reducible apply State.metClear_held | with_reducible apply held_ite | with_reducible apply held_foldl

theorem State.metScaleOp_held {q} {s : State} {p off : Nat} {data : Word} (h : Held q s) :
    Held q (s.metScaleOp p off data) := by
  unfold State.metScaleOp; repeat' first | with_reducible assumption | with_reducible apply State.refuse_held | with_reducible apply State.rangeJudge_held | with_reducible apply State.setR_held | with_reducible apply held_ite

theorem State.metVminOp_held {q} {s : State} {p : Nat} {data : Word} (h : Held q s) :
    Held q (s.metVminOp p data) := by
  unfold State.metVminOp; repeat' first | with_reducible assumption | with_reducible apply State.setR_held | with_reducible apply State.refuse_held | with_reducible apply held_ite

theorem State.metPhRateOp_held {q} {s : State} {p : Nat} {data : Word} (h : Held q s) :
    Held q (s.metPhRateOp p data) := by
  unfold State.metPhRateOp; repeat' first | with_reducible assumption | with_reducible apply State.modMet_held | with_reducible apply State.setR_held | with_reducible apply State.refuse_held | with_reducible apply held_ite

theorem State.energySet_held {q} {s : State} {p : Nat} {words : Nat → Word} (h : Held q s) :
    Held q (s.energySet p words) := by
  unfold State.energySet; repeat' first | intro _ | with_reducible assumption | with_reducible apply State.setR_held | with_reducible apply State.modMet_held | with_reducible apply held_foldl

theorem State.energyOp_held {q} {s : State} {p : Nat} {data : Word} (h : Held q s) :
    Held q (s.energyOp p data) := by
  unfold State.energyOp; repeat' first | with_reducible assumption | with_reducible apply State.refuse_held | with_reducible apply State.logE_held | with_reducible apply State.energySet_held | with_reducible apply held_ite

theorem State.sramNear_held {q} {s : State} {i : Nat} {v : Int} (h : Held q s) :
    Held q (s.sramNear i v) := by
  unfold State.sramNear; repeat' first | with_reducible assumption | with_reducible apply State.nearQ_held | with_reducible apply State.setSramW_held

theorem State.harmChan_held {q} {s : State} {base c : Nat} {b : Nat → Int} {w : Nat} {sub : Bool} (h : Held q s) :
    Held q (s.harmChan base c b w sub) := by
  unfold State.harmChan; repeat' first | intro _ | with_reducible assumption | with_reducible apply State.sramNear_held | with_reducible apply held_foldl

theorem State.pqCfgOp_held {q} {s : State} {data : Word} (h : Held q s) :
    Held q (s.pqCfgOp data) := by
  unfold State.pqCfgOp; repeat' first | with_reducible assumption | with_reducible apply State.refuse_held | with_reducible apply State.setR_held | with_reducible apply held_ite | simp only [held_mk, held_fold]

theorem State.pqThOp_held {q} {s : State} {off : Nat} {data : Word} (h : Held q s) :
    Held q (s.pqThOp off data) := by
  unfold State.pqThOp; repeat' first | with_reducible assumption | with_reducible apply State.refuse_held | with_reducible apply State.setR_held | with_reducible apply held_ite

theorem State.pqRecord_held {q} {s : State} {typ : Nat} {e : PqEvent} {now : Nat} (h : Held q s) :
    Held q (s.pqRecord typ e now) := by
  unfold State.pqRecord; repeat' first | with_reducible assumption | with_reducible apply State.logE_held | with_reducible apply State.incSat_held | with_reducible apply State.irq_held | with_reducible apply State.pickNat_held | with_reducible apply State.setR_held | with_reducible apply State.blockEv_held | with_reducible apply held_ite

theorem State.evRdOp_held {q} {s : State} {data : Word} (h : Held q s) :
    Held q (s.evRdOp data) := by
  unfold State.evRdOp; repeat' first | with_reducible assumption | with_reducible apply State.refuse_held | with_reducible apply State.setR_held | with_reducible apply held_ite

end Sys2Proof.Machine
end

