-- ==== Sys2Proof/Laws/HeldStation.lean ====
section
/-! SUPPORT. What the operations keep (`Held`): the station ports and the identity buses. -/
namespace Sys2Proof.Machine
open Sys2Proof
set_option linter.unusedSimpArgs false

theorem State.modStnP_held {q} {s : State} {port : Bool} {f : StnPort → StnPort} (h : Held q s) :
    Held q (s.modStnP port f) := by
  unfold State.modStnP; repeat' first | with_reducible assumption | simp only [held_mk, held_fold]

theorem State.stnPut_held {q} {s : State} {port : Bool} {f : StFrame} {seq : Option (BitVec 16)} (h : Held q s) :
    Held q (s.stnPut port f seq) := by
  unfold State.stnPut; repeat' first | with_reducible assumption | with_reducible apply State.incMod_held | with_reducible apply State.modStnP_held | with_reducible apply held_ite

theorem State.takeSeq_held {q} {s : State} (h : Held q s) :
    Held q (s.takeSeq).2 := by
  unfold State.takeSeq; repeat' first | with_reducible assumption | with_reducible apply State.setF_held

theorem State.stnSend_held {q} {s : State} {f : StFrame} (h : Held q s) :
    Held q (s.stnSend f) := by
  unfold State.stnSend; repeat' first | with_reducible assumption | with_reducible apply State.stnPut_held | with_reducible apply State.takeSeq_held | with_reducible apply held_ite

theorem State.stnSendOn_held {q} {s : State} {port : Bool} {f : StFrame} (h : Held q s) :
    Held q (s.stnSendOn port f) := by
  unfold State.stnSendOn; repeat' first | with_reducible assumption | with_reducible apply State.stnPut_held | with_reducible apply State.takeSeq_held | with_reducible apply held_ite

theorem State.ddAdd_held {q} {s : State} {mac : BitVec 48} {seq : BitVec 16} (h : Held q s) :
    Held q (s.ddAdd mac seq) := by
  unfold State.ddAdd; repeat' first | with_reducible assumption | with_reducible apply State.incSat_held | with_reducible apply held_ite | simp only [held_mk, held_fold]

theorem State.stnFilter_held {q} {s : State} {f : RxFrame} (h : Held q s) :
    Held q (s.stnFilter f).1 := by
  unfold State.stnFilter; repeat' first | with_reducible assumption | with_reducible apply State.incSat_held | with_reducible apply State.incMod_held | with_reducible apply held_ite | with_reducible apply held_ite_fst

theorem State.prpTake_held {q} {s : State} {f : RxFrame} (h : Held q s) :
    Held q (s.prpTake f).1 := by
  unfold State.prpTake; repeat' first | with_reducible assumption | with_reducible apply State.irq_held | with_reducible apply State.incSat_held | with_reducible apply State.blockEv_held | with_reducible apply State.ddAdd_held | with_reducible apply held_ite_fst | simp only [held_mk, held_fold] | split

theorem State.hsrTake_held {q} {s : State} {f : RxFrame} {sync : Bool} (h : Held q s) :
    Held q (s.hsrTake f sync).1 := by
  unfold State.hsrTake; repeat' first | with_reducible assumption | with_reducible apply State.incSat_held | with_reducible apply State.blockEv_held | with_reducible apply State.ddAdd_held | with_reducible apply State.takeFree_held | with_reducible apply State.stnPut_held | with_reducible apply held_ite | with_reducible apply held_ite_snd | with_reducible apply held_ite_fst | simp only [held_mk, held_fold] | split

theorem State.stnAccept_held {q} {s : State} {f : RxFrame} {sync : Bool} (h : Held q s) :
    Held q (s.stnAccept f sync).1 := by
  have hf : Held q (s.stnFilter f).1 := State.stnFilter_held h
  unfold State.stnAccept
  split
  · rename_i e; rw [e] at hf; exact hf
  · rename_i e; rw [e] at hf
    split
    · exact State.prpTake_held hf
    · exact State.hsrTake_held hf
    · exact hf

theorem State.bufWrite_held {q} {s : State} {o : Nat} {bs : List Byte} (h : Held q s) :
    Held q (s.bufWrite o bs) := by
  unfold State.bufWrite; repeat' first | with_reducible assumption | with_reducible apply State.setMemBytes_held

theorem State.stnDeliver_held {q} {s : State} {f : RxFrame} {x : Stripped} (h : Held q s) :
    Held q (s.stnDeliver f x) := by
  unfold State.stnDeliver; repeat' first | with_reducible assumption | with_reducible apply State.irq_held | with_reducible apply State.incSat_held | with_reducible apply State.bufWrite_held | with_reducible apply State.setMemBytes_held | with_reducible apply State.setF_held | with_reducible apply held_ite

theorem State.stnReceive_held {q} {s : State} {f : RxFrame} {sync : Bool} {copy : State → List Byte → Bool} {act : State → State} (h : Held q s) (hact : ∀ y0, Held q y0 → Held q (act y0)) :
    Held q (s.stnReceive f sync copy act) := by
  have hf : Held q (s.stnAccept f sync).1 := State.stnAccept_held h
  unfold State.stnReceive
  split
  · split
    · rename_i e; rw [e] at hf; exact hf
    · rename_i e; rw [e] at hf
      exact hact _ (held_ite (State.stnDeliver_held hf) hf)
  · exact h

theorem State.stnCfgOp_held {q} {s : State} {p : Nat} {data : Word} (h : Held q s) :
    Held q (s.stnCfgOp p data) := by
  unfold State.stnCfgOp; repeat' first | with_reducible assumption | with_reducible apply State.refuse_held | with_reducible apply State.setR_held | with_reducible apply held_ite

theorem State.stnRingOp_held {q} {s : State} {p off : Nat} {data : Word} (h : Held q s) :
    Held q (s.stnRingOp p off data) := by
  unfold State.stnRingOp; repeat' first | with_reducible assumption | with_reducible apply State.refuse_held | with_reducible apply State.setR_held | with_reducible apply held_ite

theorem State.stnMaxLenOp_held {q} {s : State} {p : Nat} {data : Word} (h : Held q s) :
    Held q (s.stnMaxLenOp p data) := by
  unfold State.stnMaxLenOp; repeat' first | with_reducible assumption | with_reducible apply State.refuse_held | with_reducible apply State.setR_held | with_reducible apply held_ite

theorem State.prpCfgOp_held {q} {s : State} {data : Word} (h : Held q s) :
    Held q (s.prpCfgOp data) := by
  unfold State.prpCfgOp; repeat' first | with_reducible assumption | with_reducible apply State.refuse_held | with_reducible apply State.setR_held | with_reducible apply held_ite

theorem State.rangeOp_held {q} {s : State} {a lo hi : Nat} {data : Word} (h : Held q s) :
    Held q (s.rangeOp a lo hi data) := by
  unfold State.rangeOp; repeat' first | with_reducible assumption | with_reducible apply State.refuse_held | with_reducible apply State.setR_held | with_reducible apply held_ite

theorem State.txHeadOp_held {q} {s : State} {p : Nat} {data : Word} (h : Held q s) :
    Held q (s.txHeadOp p data) := by
  unfold State.txHeadOp; repeat' first | with_reducible assumption | with_reducible apply State.refuse_held | with_reducible apply State.setR_held | with_reducible apply held_ite

theorem State.rxTailOp_held {q} {s : State} {p : Nat} {data : Word} (h : Held q s) :
    Held q (s.rxTailOp p data) := by
  unfold State.rxTailOp; repeat' first | with_reducible assumption | with_reducible apply State.refuse_held | with_reducible apply State.setR_held | with_reducible apply held_ite

theorem State.hostSend_held {q} {s : State} {port : Bool} {bs : List Byte} {choice : Nat} (h : Held q s) :
    Held q (s.hostSend port bs choice) := by
  unfold State.hostSend; repeat' first | with_reducible assumption | with_reducible apply State.takeSeq_held | with_reducible apply State.stnPut_held | with_reducible apply held_ite | simp only [held_mk, held_fold] | split

theorem State.stnClearOp_held {q} {s : State} {p : Nat} (h : Held q s) :
    Held q (s.stnClearOp p) := by
  unfold State.stnClearOp; repeat' first | intro _ | with_reducible assumption | with_reducible apply State.setR_held | with_reducible apply held_foldl

theorem State.prpClearOp_held {q} {s : State} (h : Held q s) :
    Held q (s.prpClearOp) := by
  unfold State.prpClearOp; repeat' first | intro _ | with_reducible assumption | with_reducible apply State.setR_held | with_reducible apply held_foldl

theorem State.ptpReceive_held {q} {s : State} {f : RxFrame} {sync : Bool} {act : State → State} (h : Held q s) (hact : ∀ y0, Held q y0 → Held q (act y0)) :
    Held q (s.ptpReceive f sync act) := by
  unfold State.ptpReceive; repeat' first | intro _ | with_reducible assumption | with_reducible apply State.stnReceive_held | with_reducible apply held_ite | apply_assumption

theorem State.ptpState_held {q} {s : State} {st : Nat} (h : Held q s) :
    Held q (s.ptpState st) := by
  unfold State.ptpState; repeat' first | with_reducible assumption | with_reducible apply State.setF_held

theorem State.ptpCfgOp_held {q} {s : State} {data : Word} (h : Held q s) :
    Held q (s.ptpCfgOp data) := by
  unfold State.ptpCfgOp; repeat' first | with_reducible assumption | with_reducible apply State.setR_held | with_reducible apply State.ptpState_held | with_reducible apply State.modStnP_held | with_reducible apply held_ite | simp only [held_mk, held_fold]

theorem State.pickInt_held {q} {s : State} {p : Int} {q' : Nat} (h : Held q s) :
    Held q (s.pickInt p q').2 := by
  unfold State.pickInt; repeat' first | with_reducible assumption | with_reducible apply State.takeFree_held | with_reducible apply held_ite_snd

theorem State.showMaster_held {q} {s : State} {port : Bool} {a : AnnounceIn} (h : Held q s) :
    Held q (s.showMaster port a) := by
  unfold State.showMaster; repeat' first | with_reducible assumption | with_reducible apply State.setR_held | with_reducible apply State.setB_held | with_reducible apply held_ite | split

theorem State.selectMaster_held {q} {s : State} (h : Held q s) :
    Held q (s.selectMaster) := by
  unfold State.selectMaster; repeat' first | with_reducible assumption | with_reducible apply State.ptpState_held | with_reducible apply State.setF_held | with_reducible apply State.showMaster_held | with_reducible apply State.irqLog_held | with_reducible apply State.incSat_held | with_reducible apply held_ite | simp only [held_mk, held_fold] | split

theorem State.ptpSample_held {q} {s : State} {port : Bool} {t1 t2 : Nat} {corr : Int} (h : Held q s) :
    Held q (s.ptpSample port t1 t2 corr) := by
  unfold State.ptpSample; repeat' first | with_reducible assumption | with_reducible apply State.pickInt_held | with_reducible apply State.blockEv_held | with_reducible apply State.incMod_held | with_reducible apply State.setR_held | with_reducible apply State.irq_held | with_reducible apply State.ptpState_held | with_reducible apply State.servoSample_held | with_reducible apply held_ite

theorem State.utcOffsetOp_held {q} {s : State} {data : Word} (h : Held q s) :
    Held q (s.utcOffsetOp data) := by
  unfold State.utcOffsetOp; repeat' first | with_reducible assumption | with_reducible apply State.refuse_held | with_reducible apply State.setR_held | with_reducible apply held_ite

theorem State.ptpClearOp_held {q} {s : State} (h : Held q s) :
    Held q (s.ptpClearOp) := by
  unfold State.ptpClearOp; repeat' first | intro _ | with_reducible assumption | with_reducible apply State.setR_held | with_reducible apply held_foldl

theorem State.setSub_held {q} {s : State} {k : Nat} {e : SubSlot} (h : Held q s) :
    Held q (s.setSub k e) := by
  unfold State.setSub; repeat' first | with_reducible assumption | simp only [held_mk, held_fold]

theorem State.subRegsReset_held {q} {s : State} {k : Nat} (h : Held q s) :
    Held q (s.subRegsReset k) := by
  unfold State.subRegsReset; repeat' first | with_reducible assumption | simp only [held_mk, held_fold] | apply heldOf_filterRegs

theorem State.gooseDrive_held {q} {s : State} (h : Held q s) :
    Held q (s.gooseDrive) := by
  unfold State.gooseDrive; repeat' first | with_reducible assumption | with_reducible apply State.guardReqs_held | with_reducible apply State.setR_held | with_reducible apply State.setF_held

theorem State.gooseE0_held {q} {s : State} (h : Held q s) :
    Held q (s.gooseE0) := by
  unfold State.gooseE0; repeat' first | with_reducible assumption | with_reducible apply State.setSramW_held | with_reducible apply held_ite

theorem State.subValue_held {q} {s : State} {k : Nat} {v : Bool} (h : Held q s) :
    Held q (s.subValue k v) := by
  unfold State.subValue; repeat' first | with_reducible assumption | with_reducible apply State.irqIf_held | with_reducible apply State.setSub_held

theorem State.subCreateOp_held {q} {s : State} {slot : Option Nat} (h : Held q s) :
    Held q (s.subCreateOp slot) := by
  unfold State.subCreateOp; repeat' first | with_reducible assumption | with_reducible apply State.refuse_held | with_reducible apply State.setR_held | with_reducible apply State.setSub_held | with_reducible apply State.subRegsReset_held | simp only [held_mk, held_fold] | split

theorem State.subDestroyOp_held {q} {s : State} (h : Held q s) :
    Held q (s.subDestroyOp) := by
  unfold State.subDestroyOp; repeat' first | intro _ | with_reducible assumption | with_reducible apply State.through_held | with_reducible apply State.gooseDrive_held | with_reducible apply State.setSub_held | with_reducible apply State.subRegsReset_held | with_reducible apply State.refuse_held | with_reducible apply held_ite

theorem State.subRegOp_held {q} {s : State} {k off : Nat} {v : Word} (h : Held q s) :
    Held q (s.subRegOp k off v) := by
  unfold State.subRegOp; repeat' first | with_reducible assumption | with_reducible apply State.refuse_held | with_reducible apply State.gooseDrive_held | with_reducible apply State.setR_held | with_reducible apply held_ite

theorem State.itemValue_held {q} {s : State} {k : Nat} {g : GooseIn} (h : Held q s) :
    Held q (s.itemValue k g).2 := by
  unfold State.itemValue; repeat' first | with_reducible assumption | with_reducible apply State.takeFree_held | simp only [held_mk, held_fold] | split

theorem State.subTake_held {q} {s : State} {k : Nat} {g : GooseIn} (h : Held q s) :
    Held q (s.subTake k g) := by
  unfold State.subTake; repeat' first | with_reducible assumption | with_reducible apply State.incSat_held | with_reducible apply State.blockEv_held | with_reducible apply State.setSub_held | with_reducible apply State.itemValue_held | with_reducible apply State.subValue_held | with_reducible apply held_ite | simp only [held_mk, held_fold] | split

theorem State.setPub_held {q} {s : State} {p : Nat} {e : PubState} (h : Held q s) :
    Held q (s.setPub p e) := by
  unfold State.setPub; repeat' first | with_reducible assumption | simp only [held_mk, held_fold]

theorem State.pubSend_held {q} {s : State} {p : Nat} (h : Held q s) :
    Held q (s.pubSend p) := by
  unfold State.pubSend; repeat' first | with_reducible assumption | with_reducible apply State.stnSend_held | with_reducible apply State.setPub_held | with_reducible apply State.incMod_held

theorem State.pubNew_held {q} {s : State} {p : Nat} {st : Word} (h : Held q s) :
    Held q (s.pubNew p st) := by
  unfold State.pubNew; repeat' first | with_reducible assumption | with_reducible apply State.pubSend_held | with_reducible apply State.setPub_held

theorem State.pubStart_held {q} {s : State} {p : Nat} (h : Held q s) :
    Held q (s.pubStart p) := by
  unfold State.pubStart; repeat' first | with_reducible assumption | with_reducible apply State.pubNew_held | with_reducible apply State.setPub_held

theorem State.pubsFollow_held {q} {s : State} (h : Held q s) :
    Held q (s.pubsFollow) := by
  unfold State.pubsFollow; repeat' first | intro _ | with_reducible assumption | with_reducible apply State.pubStart_held | with_reducible apply State.setPub_held | with_reducible apply held_ite | with_reducible apply held_foldl

theorem State.pubRegOp_held {q} {s : State} {p off : Nat} {v : Word} (h : Held q s) :
    Held q (s.pubRegOp p off v) := by
  unfold State.pubRegOp; repeat' first | with_reducible assumption | with_reducible apply State.refuse_held | with_reducible apply State.pubsFollow_held | with_reducible apply State.setR_held | with_reducible apply held_ite

theorem State.gooseCfgOp_held {q} {s : State} {v : Word} (h : Held q s) :
    Held q (s.gooseCfgOp v) := by
  unfold State.gooseCfgOp; repeat' first | with_reducible assumption | with_reducible apply State.pubsFollow_held | with_reducible apply State.setR_held

theorem State.gooseClearOp_held {q} {s : State} (h : Held q s) :
    Held q (s.gooseClearOp) := by
  unfold State.gooseClearOp; repeat' first | intro _ | with_reducible assumption | with_reducible apply State.setR_held | with_reducible apply held_foldl

theorem State.svValue_held {q} {s : State} {k : Nat} {x : Word} (h : Held q s) :
    Held q (s.svValue k x).2 := by
  unfold State.svValue; repeat' first | with_reducible assumption | with_reducible apply State.takeFree_held | with_reducible apply State.irq_held | with_reducible apply State.incSat_held | with_reducible apply held_ite | with_reducible apply held_ite_snd

theorem State.svValues_held {q} {s : State} {a : List (Word × Nat)} (h : Held q s) :
    Held q (s.svValues a).2 := by
  induction a generalizing s <;> (simp only [State.svValues]; repeat' first | with_reducible assumption | with_reducible apply State.svValue_held | apply_assumption)

theorem State.svCfgOp_held {q} {s : State} {v : Word} (h : Held q s) :
    Held q (s.svCfgOp v) := by
  unfold State.svCfgOp; repeat' first | with_reducible assumption | with_reducible apply State.refuse_held | with_reducible apply State.setR_held | with_reducible apply held_ite | simp only [held_mk, held_fold]

theorem State.svTmplOp_held {q} {s : State} {v : Word} (h : Held q s) :
    Held q (s.svTmplOp v) := by
  unfold State.svTmplOp; repeat' first | with_reducible assumption | with_reducible apply State.refuse_held | with_reducible apply State.setR_held | with_reducible apply held_ite

theorem State.svClearOp_held {q} {s : State} (h : Held q s) :
    Held q (s.svClearOp) := by
  unfold State.svClearOp; repeat' first | with_reducible assumption | with_reducible apply State.setR_held

theorem State.idmScanOp_held {q} {s : State} (h : Held q s) :
    Held q (s.idmScanOp) := by
  unfold State.idmScanOp; repeat' first | with_reducible assumption | simp only [held_mk, held_fold]

theorem State.modPresent_held {q} {s : State} {n : Nat} {on : Bool} (h : Held q s) :
    Held q (s.modPresent n on) := by
  unfold State.modPresent; repeat' first | with_reducible assumption | with_reducible apply State.irqLog_held | with_reducible apply State.setB_held | with_reducible apply State.setR_held | with_reducible apply held_ite

theorem State.modDiag_held {q} {s : State} {n : Nat} {d : List Byte} (h : Held q s) :
    Held q (s.modDiag n d) := by
  unfold State.modDiag; repeat' first | with_reducible assumption | with_reducible apply State.setF_held | with_reducible apply State.setMemBytes_held

theorem State.modRead_held {q} {s : State} {n : Nat} {a0 d : List Byte} (h : Held q s) :
    Held q (s.modRead n a0 d) := by
  unfold State.modRead; repeat' first | with_reducible assumption | with_reducible apply State.setMemBytes_held | with_reducible apply State.modPresent_held | with_reducible apply State.setR_held | with_reducible apply State.modDiag_held

theorem State.recApply_held {q} {s t : State} {r : Nat} {b : List Byte} (h : Held q s) (e : s.recApply r b = some t) : Held q t := by
  unfold State.recApply at e
  simp only [] at e
  split at e
  · split at e
    · cases e; exact State.setR_held (State.setR_held (State.setR_held h))
    · cases e
  · split at e
    · cases e
      exact State.rangeJudge_held (held_foldl (State.setR_held h) fun u k hu => State.setR_held (State.setR_held hu))
    · cases e

theorem State.recJudge_held {q} {s : State} {r : Nat} {b : List Byte} (h : Held q s) :
    Held q (s.recJudge r b).2 := by
  have h1 : Held q (match SMap.find r s.idm.serial with
      | some old => if old = recSerial b then s else s.irqLog 0 1 Pg.IDM 0 []
      | none => s) := by
    split
    · exact held_ite h (State.irqLog_held h)
    · exact h
  unfold State.recJudge
  refine held_ite_snd h (held_ite_snd h (held_ite_snd h (held_ite_snd h1 (held_ite_snd h1 ?_))))
  split
  · exact h1
  · rename_i e
    refine State.blockEv_held ?_
    simp only [held_mk, held_fold]
    exact held_ite h1 (State.recApply_held h1 e)

theorem State.recResult_held {q} {s : State} {r code : Nat} (h : Held q s) :
    Held q (s.recResult r code) := by
  unfold State.recResult; repeat' first | with_reducible assumption | with_reducible apply State.setR_held

theorem State.recRead_held {q} {s : State} {r : Nat} {d : Option (List Byte)} (h : Held q s) :
    Held q (s.recRead r d) := by
  unfold State.recRead; repeat' first | with_reducible assumption | with_reducible apply State.recResult_held | with_reducible apply State.setMemBytes_held | with_reducible apply State.recJudge_held | simp only [held_mk, held_fold] | split

theorem State.idmDone_held {q} {s : State} {p : Nat → Bool} (h : Held q s) :
    Held q (s.idmDone p) := by
  unfold State.idmDone; repeat' first | with_reducible assumption | simp only [held_mk, held_fold]

theorem State.busFreed_held {q} {s : State} {b : Nat} (h : Held q s) :
    Held q (s.busFreed b) := by
  unfold State.busFreed; repeat' first | with_reducible assumption | with_reducible apply State.setB_held | with_reducible apply held_ite

theorem State.busStuck_held {q} {s : State} {b : Nat} (h : Held q s) :
    Held q (s.busStuck b) := by
  unfold State.busStuck; repeat' first | intro _ | with_reducible assumption | with_reducible apply State.irq_held | with_reducible apply State.incSat_held | with_reducible apply State.setB_held | with_reducible apply State.modPresent_held | with_reducible apply State.recRead_held | with_reducible apply held_ite | with_reducible apply held_foldl

theorem State.idmBaseOp_held {q} {s : State} {a n : Nat} {data : Word} (h : Held q s) :
    Held q (s.idmBaseOp a n data) := by
  unfold State.idmBaseOp; repeat' first | with_reducible assumption | with_reducible apply State.refuse_held | with_reducible apply State.setR_held | with_reducible apply held_ite

theorem State.recCfgOp_held {q} {s : State} {r : Nat} {v : Word} (h : Held q s) :
    Held q (s.recCfgOp r v) := by
  unfold State.recCfgOp; repeat' first | with_reducible assumption | with_reducible apply State.refuse_held | with_reducible apply State.setR_held | with_reducible apply held_ite

end Sys2Proof.Machine
end

