-- ==== Sys2Proof/Laws/HeldBus.lean ====
section
/-! SUPPORT. What the operations keep (`Held`): the host bus, the trains and the epoch. -/
namespace Sys2Proof.Machine
open Sys2Proof
set_option linter.unusedSimpArgs false

theorem State.latch_held {q} {s : State} {l : List Nat} (h : Held q s) :
    Held q (s.latch l) := by
  unfold State.latch; repeat' first | with_reducible assumption | simp only [held_mk, held_fold]

theorem State.snapAt_held {q} {s : State} {a : Nat} (h : Held q s) :
    Held q (s.snapAt a) := by
  unfold State.snapAt; repeat' first | with_reducible assumption | with_reducible apply State.latch_held | with_reducible apply held_ite | split

theorem State.lockOp_held {q} {s : State} {p : Nat} {data : Word} (h : Held q s) :
    Held q (s.lockOp p data) := by
  unfold State.lockOp; repeat' first | with_reducible assumption | with_reducible apply State.setF_held | with_reducible apply State.setB_held | with_reducible apply State.refuse_held | with_reducible apply held_ite

theorem State.discard_held {q} {s : State} {p : Nat} (h : Held q s) :
    Held q (s.discard p) := by
  unfold State.discard; repeat' first | with_reducible assumption | with_reducible apply State.setF_held | simp only [held_mk, held_fold]

theorem State.shadowOp_held {q} {s : State} {p : Nat} {data : Word} (h : Held q s) :
    Held q (s.shadowOp p data) := by
  unfold State.shadowOp; repeat' first | with_reducible assumption | with_reducible apply State.armCommit_held | with_reducible apply State.discard_held | with_reducible apply held_ite

theorem State.eventClear_held {q} {s : State} {p : Nat} (h : Held q s) :
    Held q (s.eventClear p) := by
  unfold State.eventClear; repeat' first | with_reducible assumption | with_reducible apply State.setR_held

theorem State.pageCtrlOp_held {q} {s : State} {p : Nat} {data : Word} (h : Held q s) :
    Held q (s.pageCtrlOp p data) := by
  unfold State.pageCtrlOp; repeat' first | with_reducible assumption | with_reducible apply State.setB_held | with_reducible apply State.eventClear_held | with_reducible apply held_ite

theorem State.writeHeader_held {q} {s : State} {p off : Nat} {data : Word} (h : Held q s) :
    Held q (s.writeHeader p off data) := by
  unfold State.writeHeader; repeat' first | with_reducible apply State.settleNow_held | with_reducible assumption | with_reducible apply State.refuse_held | with_reducible apply State.pageCtrlOp_held | with_reducible apply State.modR_held | with_reducible apply State.setR_held | with_reducible apply State.lockOp_held | with_reducible apply State.shadowOp_held | with_reducible apply held_ite | split

theorem State.writeGeneric_held {q} {s : State} {a : Nat} {data : Word} (h : Held q s) :
    Held q (s.writeGeneric a data) := by
  unfold State.writeGeneric; repeat' first | with_reducible assumption | with_reducible apply State.setR_held | with_reducible apply State.modR_held | with_reducible apply State.writeShadow_held | split

theorem State.writeConfigure_held {q} {s : State} {a : Nat} {data : Word} (h : Held q s) :
    Held q (s.writeConfigure a data) := by
  unfold State.writeConfigure; repeat' first | with_reducible assumption | with_reducible apply State.writeGeneric_held | with_reducible apply State.refuse_held | with_reducible apply held_ite

theorem State.writeIf_held {q} {s : State} {a : Nat} {data : Word} {ok : Bool} (h : Held q s) :
    Held q (s.writeIf a data ok) := by
  unfold State.writeIf; repeat' first | with_reducible assumption | with_reducible apply State.writeGeneric_held | with_reducible apply State.refuse_held | with_reducible apply held_ite

theorem State.busCfgOp_held {q} {s : State} {data : Word} (h : Held q s) :
    Held q (s.busCfgOp data) := by
  unfold State.busCfgOp; repeat' first | with_reducible assumption | with_reducible apply State.writeGeneric_held | with_reducible apply held_ite | simp only [held_mk, held_fold]

theorem State.clearBusErrors_held {q} {s : State} (h : Held q s) :
    Held q (s.clearBusErrors) := by
  unfold State.clearBusErrors; repeat' first | with_reducible assumption | with_reducible apply State.setR_held

theorem State.clearStale_held {q} {s : State} (h : Held q s) :
    Held q (s.clearStale) := by
  unfold State.clearStale; repeat' first | with_reducible assumption | with_reducible apply State.setR_held

theorem State.writeHost_held {q} {s : State} {a : Nat} {data : Word} (h : Held q s) :
    Held q (s.writeHost a data) := by
  unfold State.writeHost; repeat' first | with_reducible assumption | with_reducible apply State.busCfgOp_held | with_reducible apply State.clearBusErrors_held | with_reducible apply State.clearStale_held | with_reducible apply State.loadCmdOp_held | with_reducible apply State.writeGeneric_held | with_reducible apply held_ite

theorem State.writePwr_held {q} {s : State} {a : Nat} {data : Word} (h : Held q s) :
    Held q (s.writePwr a data) := by
  unfold State.writePwr; repeat' first | with_reducible assumption | with_reducible apply State.modeCmdOp_held | with_reducible apply State.clearanceOp_held | with_reducible apply State.swResetOp_held | with_reducible apply State.pwmBlocks_held | with_reducible apply State.writeGeneric_held | with_reducible apply held_ite

theorem State.rpllCtrlOp_held {q} {s : State} {data : Word} (h : Held q s) :
    Held q (s.rpllCtrlOp data) := by
  unfold State.rpllCtrlOp; repeat' first | with_reducible assumption | with_reducible apply State.writeShadow_held | with_reducible apply State.relockOp_held | with_reducible apply held_ite

theorem State.writeClk_held {q} {s : State} {a : Nat} {data : Word} (h : Held q s) :
    Held q (s.writeClk a data) := by
  unfold State.writeClk; repeat' first | with_reducible assumption | with_reducible apply State.rpllCtrlOp_held | with_reducible apply State.ditherOp_held | with_reducible apply State.writeGeneric_held | with_reducible apply held_ite | simp only [held_mk, held_fold]

theorem State.periodOp_held {q} {s : State} {data : Word} (h : Held q s) :
    Held q (s.periodOp data) := by
  unfold State.periodOp; repeat' first | with_reducible assumption | with_reducible apply State.refuse_held | with_reducible apply State.writeShadow_held | with_reducible apply held_ite

theorem State.epochCtrlOp_held {q} {s : State} {data : Word} (h : Held q s) :
    Held q (s.epochCtrlOp data) := by
  unfold State.epochCtrlOp; repeat' first | with_reducible assumption | with_reducible apply State.refuse_held | with_reducible apply State.setR_held | with_reducible apply held_ite | simp only [held_mk, held_fold]

theorem State.writeTime_held {q} {s : State} {a : Nat} {data : Word} (h : Held q s) :
    Held q (s.writeTime a data) := by
  unfold State.writeTime; repeat' first | with_reducible assumption | with_reducible apply State.periodOp_held | with_reducible apply State.epochCtrlOp_held | with_reducible apply State.writeIf_held | with_reducible apply State.setCmdOp_held | with_reducible apply State.servoSrcOp_held | with_reducible apply State.servoFracOp_held | with_reducible apply State.writeGeneric_held | with_reducible apply held_ite

theorem State.resRegionOp_held {q} {s : State} {a : Nat} {data : Word} (h : Held q s) :
    Held q (s.resRegionOp a data) := by
  unfold State.resRegionOp; repeat' first | with_reducible assumption | with_reducible apply State.refuse_held | with_reducible apply State.setR_held | with_reducible apply held_ite

theorem State.bankCmdOp_held {q} {s : State} {data : Word} (h : Held q s) :
    Held q (s.bankCmdOp data) := by
  unfold State.bankCmdOp; repeat' first | with_reducible assumption | with_reducible apply State.dropBank_held | with_reducible apply State.bankStageOp_held | with_reducible apply State.clrMissedOp_held | with_reducible apply held_ite

theorem State.writePump_held {q} {s : State} {a : Nat} {data : Word} (h : Held q s) :
    Held q (s.writePump a data) := by
  unfold State.writePump; repeat' first | with_reducible assumption | with_reducible apply State.writeConfigure_held | with_reducible apply State.bankCmdOp_held | with_reducible apply State.swapAtOp_held | with_reducible apply State.pumpClearMaxOp_held | with_reducible apply State.pumpClearCntOp_held | with_reducible apply State.resRegionOp_held | with_reducible apply State.setR_held | with_reducible apply State.writeGeneric_held | with_reducible apply held_ite

theorem State.writeSump_held {q} {s : State} {a : Nat} {data : Word} (h : Held q s) :
    Held q (s.writeSump a data) := by
  unfold State.writeSump; repeat' first | with_reducible assumption | with_reducible apply State.selectOp_held | with_reducible apply State.chQuotaOp_held | with_reducible apply State.writeGeneric_held | with_reducible apply held_ite

theorem State.writeChan0_held {q} {s : State} {a : Nat} {data : Word} (h : Held q s) :
    Held q (s.writeChan0 a data) := by
  unfold State.writeChan0; repeat' first | with_reducible assumption | with_reducible apply State.chCmdOp_held | with_reducible apply State.selectOp_held | with_reducible apply State.chRateOp_held | with_reducible apply State.chReplacesOp_held | with_reducible apply State.coefOp_held | with_reducible apply State.feLimitOp_held | with_reducible apply State.feCfgOp_held | with_reducible apply State.feClrOp_held | with_reducible apply State.writeGeneric_held | with_reducible apply held_ite

theorem State.writeProf_held {q} {s : State} {a : Nat} {data : Word} (h : Held q s) :
    Held q (s.writeProf a data) := by
  unfold State.writeProf; repeat' first | with_reducible assumption | with_reducible apply State.pfCmdOp_held | with_reducible apply State.selectOp_held | with_reducible apply State.fsAllOp_held | with_reducible apply State.psWriteOp_held | with_reducible apply State.writeGeneric_held | with_reducible apply held_ite

theorem State.writeTrack_held {q} {s : State} {a : Nat} {data : Word} (h : Held q s) :
    Held q (s.writeTrack a data) := by
  unfold State.writeTrack; repeat' first | with_reducible assumption | with_reducible apply State.tCmdOp_held | with_reducible apply State.selectOp_held | with_reducible apply State.vecBaseOp_held | with_reducible apply State.trkWriteOp_held | with_reducible apply State.writeGeneric_held | with_reducible apply held_ite

theorem State.writeComp_held {q} {s : State} {a : Nat} {data : Word} (h : Held q s) :
    Held q (s.writeComp a data) := by
  unfold State.writeComp; repeat' first | with_reducible assumption | with_reducible apply State.tableArmOp_held | with_reducible apply State.tcCfgOp_held | with_reducible apply State.writeIf_held | with_reducible apply State.writeGeneric_held | with_reducible apply held_ite

theorem State.writeSync_held {q} {s : State} {a : Nat} {data : Word} (h : Held q s) :
    Held q (s.writeSync a data) := by
  unfold State.writeSync; repeat' first | with_reducible assumption | with_reducible apply State.syncCfgOp_held | with_reducible apply State.writeIf_held | with_reducible apply held_ite

theorem State.writeRide_held {q} {s : State} {a : Nat} {data : Word} (h : Held q s) :
    Held q (s.writeRide a data) := by
  unfold State.writeRide; repeat' first | with_reducible assumption | with_reducible apply State.rideWriteOp_held | with_reducible apply held_ite

theorem State.writeIsld_held {q} {s : State} {a : Nat} {data : Word} (h : Held q s) :
    Held q (s.writeIsld a data) := by
  unfold State.writeIsld; repeat' first | with_reducible assumption | with_reducible apply State.isldClrOp_held | with_reducible apply State.isldWriteOp_held | with_reducible apply held_ite | split

theorem State.writePwmc_held {q} {s : State} {a : Nat} {data : Word} (h : Held q s) :
    Held q (s.writePwmc a data) := by
  unfold State.writePwmc; repeat' first | with_reducible assumption | with_reducible apply State.pwmStartOp_held | with_reducible apply State.gcommitOp_held | with_reducible apply State.pwmcPrechargeOp_held | with_reducible apply State.tzClrOp_held | with_reducible apply State.writeGeneric_held | with_reducible apply held_ite

theorem State.writePwmn_held {q} {s : State} {a : Nat} {data : Word} (h : Held q s) :
    Held q (s.writePwmn a data) := by
  unfold State.writePwmn; repeat' first | with_reducible assumption | with_reducible apply State.pwmCtrlOp_held | with_reducible apply State.prdWriteOp_held | with_reducible apply State.cmpWriteOp_held | with_reducible apply State.epochPhaseOp_held | with_reducible apply State.pwmTripClrOp_held | with_reducible apply State.pwmClrFlagsOp_held | with_reducible apply State.pwmClrCountersOp_held | with_reducible apply State.writeGeneric_held | with_reducible apply held_ite

theorem State.writeIslc_held {q} {s : State} {a : Nat} {data : Word} (h : Held q s) :
    Held q (s.writeIslc a data) := by
  unfold State.writeIslc; repeat' first | with_reducible assumption | with_reducible apply State.islcCfgOp_held | with_reducible apply State.ilkClrOp_held | with_reducible apply State.islcFaultClrOp_held | with_reducible apply State.modR_held | with_reducible apply State.writeGeneric_held | with_reducible apply held_ite

theorem State.writeIsln_held {q} {s : State} {a : Nat} {data : Word} (h : Held q s) :
    Held q (s.writeIsln a data) := by
  unfold State.writeIsln; repeat' first | with_reducible assumption | with_reducible apply State.islCtrlOp_held | with_reducible apply State.islFaultClrOp_held | with_reducible apply State.islStatClrOp_held | with_reducible apply State.islRegOp_held | with_reducible apply held_ite

theorem State.writeAdcc_held {q} {s : State} {a : Nat} {data : Word} (h : Held q s) :
    Held q (s.writeAdcc a data) := by
  unfold State.writeAdcc; repeat' first | with_reducible assumption | with_reducible apply State.sramBaseOp_held | with_reducible apply State.owOp_held | with_reducible apply State.writeGeneric_held | with_reducible apply held_ite

theorem State.writeAdcn_held {q} {s : State} {a : Nat} {data : Word} (h : Held q s) :
    Held q (s.writeAdcn a data) := by
  unfold State.writeAdcn; repeat' first | with_reducible assumption | with_reducible apply State.adcEnableOp_held | with_reducible apply State.swTrigOp_held | with_reducible apply State.adcClearOp_held | with_reducible apply State.adcRegOp_held | with_reducible apply held_ite

theorem State.writeAdcq_held {q} {s : State} {a : Nat} {data : Word} (h : Held q s) :
    Held q (s.writeAdcq a data) := by
  unfold State.writeAdcq; repeat' first | with_reducible assumption | with_reducible apply State.sramBaseOp_held | with_reducible apply State.qCfgOp_held | with_reducible apply State.qRdOp_held | with_reducible apply State.writeGeneric_held | with_reducible apply held_ite

theorem State.writeCmp_held {q} {s : State} {a : Nat} {data : Word} (h : Held q s) :
    Held q (s.writeCmp a data) := by
  unfold State.writeCmp; repeat' first | with_reducible assumption | with_reducible apply State.latchClearOp_held | with_reducible apply State.cmpSettleAll_held | with_reducible apply State.cmpRegOp_held | with_reducible apply State.writeGeneric_held | with_reducible apply held_ite

theorem State.writeLane_held {q} {s : State} {a : Nat} {data : Word} (h : Held q s) :
    Held q (s.writeLane a data) := by
  unfold State.writeLane; repeat' first | with_reducible assumption | with_reducible apply State.laneCtrlOp_held | with_reducible apply State.laneRegOp_held | with_reducible apply State.prbsInjOp_held | with_reducible apply State.laneClearOp_held | with_reducible apply State.laneClearPrbsOp_held | with_reducible apply State.writeGeneric_held | with_reducible apply held_ite

theorem State.writeRing_held {q} {s : State} {a : Nat} {data : Word} (h : Held q s) :
    Held q (s.writeRing a data) := by
  unfold State.writeRing; repeat' first | with_reducible assumption | with_reducible apply State.ringCfgOp_held | with_reducible apply State.ringCmdOp_held | with_reducible apply State.iqCtrlOp_held | with_reducible apply State.ringClearOp_held | with_reducible apply State.writeGeneric_held | with_reducible apply held_ite

theorem State.writeCells_held {q} {s : State} {a : Nat} {data : Word} (h : Held q s) :
    Held q (s.writeCells a data) := by
  unfold State.writeCells; repeat' first | with_reducible assumption | with_reducible apply State.cellsCmdOp_held | with_reducible apply State.selectOp_held | with_reducible apply State.cellsRegOp_held | with_reducible apply held_ite

theorem State.writeCell_held {q} {s : State} {a : Nat} {data : Word} (h : Held q s) :
    Held q (s.writeCell a data) := by
  unfold State.writeCell; repeat' first | with_reducible assumption | with_reducible apply State.cellFaultClrOp_held | with_reducible apply State.bypClrOp_held | with_reducible apply State.cellClearOp_held | with_reducible apply State.cellRegOp_held | with_reducible apply held_ite | split

theorem State.writeMetc_held {q} {s : State} {a : Nat} {data : Word} (h : Held q s) :
    Held q (s.writeMetc a data) := by
  unfold State.writeMetc; repeat' first | with_reducible assumption | with_reducible apply State.metcCfgOp_held | with_reducible apply State.metcOp_held | with_reducible apply State.sramBaseOp_held | with_reducible apply State.writeGeneric_held | with_reducible apply held_ite

theorem State.writeMet_held {q} {s : State} {a : Nat} {data : Word} (h : Held q s) :
    Held q (s.writeMet a data) := by
  unfold State.writeMet; repeat' first | with_reducible assumption | with_reducible apply State.metCfgOp_held | with_reducible apply State.energyOp_held | with_reducible apply State.sramBaseOp_held | with_reducible apply State.metVminOp_held | with_reducible apply State.metPhRateOp_held | with_reducible apply State.metScaleOp_held | with_reducible apply State.writeGeneric_held | with_reducible apply held_ite

theorem State.writePq_held {q} {s : State} {a : Nat} {data : Word} (h : Held q s) :
    Held q (s.writePq a data) := by
  unfold State.writePq; repeat' first | with_reducible assumption | with_reducible apply State.pqCfgOp_held | with_reducible apply State.pqThOp_held | with_reducible apply State.evRdOp_held | with_reducible apply State.writeGeneric_held | with_reducible apply held_ite

theorem State.writeStn_held {q} {s : State} {a : Nat} {data : Word} (h : Held q s) :
    Held q (s.writeStn a data) := by
  unfold State.writeStn; repeat' first | with_reducible assumption | with_reducible apply State.stnCfgOp_held | with_reducible apply State.stnMaxLenOp_held | with_reducible apply State.stnRingOp_held | with_reducible apply State.txHeadOp_held | with_reducible apply State.rxTailOp_held | with_reducible apply State.stnClearOp_held | with_reducible apply State.writeGeneric_held | with_reducible apply held_ite

theorem State.writePrp_held {q} {s : State} {a : Nat} {data : Word} (h : Held q s) :
    Held q (s.writePrp a data) := by
  unfold State.writePrp; repeat' first | with_reducible assumption | with_reducible apply State.prpCfgOp_held | with_reducible apply State.rangeOp_held | with_reducible apply State.prpClearOp_held | with_reducible apply State.writeGeneric_held | with_reducible apply held_ite

theorem State.writePtp_held {q} {s : State} {a : Nat} {data : Word} (h : Held q s) :
    Held q (s.writePtp a data) := by
  unfold State.writePtp; repeat' first | with_reducible assumption | with_reducible apply State.ptpCfgOp_held | with_reducible apply State.utcOffsetOp_held | with_reducible apply State.ptpClearOp_held | with_reducible apply State.writeGeneric_held | with_reducible apply held_ite

theorem State.subCmdOp_held {q} {s : State} {data : Word} (h : Held q s) :
    Held q (s.subCmdOp data) := by
  unfold State.subCmdOp; repeat' first | with_reducible assumption | with_reducible apply State.subCreateOp_held | with_reducible apply State.subDestroyOp_held | with_reducible apply State.refuse_held | split

theorem State.writeGoose_held {q} {s : State} {a : Nat} {data : Word} (h : Held q s) :
    Held q (s.writeGoose a data) := by
  unfold State.writeGoose; repeat' first | with_reducible assumption | with_reducible apply State.gooseCfgOp_held | with_reducible apply State.subCmdOp_held | with_reducible apply State.selectOp_held | with_reducible apply State.writeConfigure_held | with_reducible apply State.rangeOp_held | with_reducible apply State.gooseClearOp_held | with_reducible apply State.subRegOp_held | with_reducible apply State.pubRegOp_held | with_reducible apply held_ite | split

theorem State.writeSv_held {q} {s : State} {a : Nat} {data : Word} (h : Held q s) :
    Held q (s.writeSv a data) := by
  unfold State.writeSv; repeat' first | with_reducible assumption | with_reducible apply State.svCfgOp_held | with_reducible apply State.svTmplOp_held | with_reducible apply State.svClearOp_held | with_reducible apply State.writeGeneric_held | with_reducible apply held_ite

theorem State.keepCtrlOp_held {q} {s : State} {data : Word} (h : Held q s) :
    Held q (s.keepCtrlOp data) := by
  unfold State.keepCtrlOp; repeat' first | with_reducible assumption | with_reducible apply State.writeGeneric_held | with_reducible apply State.refuse_held | with_reducible apply State.keepTest_held | with_reducible apply held_ite

theorem State.writeKeep_held {q} {s : State} {a : Nat} {data : Word} (h : Held q s) :
    Held q (s.writeKeep a data) := by
  unfold State.writeKeep; repeat' first | with_reducible assumption | with_reducible apply State.keepCtrlOp_held | with_reducible apply State.writeIf_held | with_reducible apply State.beaconSendOp_held | with_reducible apply State.wakeClrOp_held | with_reducible apply State.keepClearOp_held | with_reducible apply State.writeGeneric_held | with_reducible apply held_ite

theorem State.writeIdm_held {q} {s : State} {a : Nat} {data : Word} (h : Held q s) :
    Held q (s.writeIdm a data) := by
  unfold State.writeIdm; repeat' first | with_reducible assumption | with_reducible apply State.idmScanOp_held | with_reducible apply State.idmBaseOp_held | with_reducible apply State.recCfgOp_held | with_reducible apply State.writeGeneric_held | with_reducible apply held_ite

theorem State.writeAuxp_held {q} {s : State} {a : Nat} {data : Word} (h : Held q s) :
    Held q (s.writeAuxp a data) := by
  unfold State.writeAuxp; repeat' first | with_reducible assumption | with_reducible apply State.auxSpdBaseOp_held | with_reducible apply State.writeGeneric_held | with_reducible apply State.auxCfgOp_held | with_reducible apply State.auxMaxDutyOp_held | with_reducible apply State.auxStallOp_held | with_reducible apply State.auxClearOp_held | with_reducible apply held_ite

theorem State.volBaseOp_held {q} {s : State} {data : Word} (h : Held q s) :
    Held q (s.volBaseOp data) := by
  unfold State.volBaseOp; repeat' first | with_reducible assumption | with_reducible apply State.refuse_held | with_reducible apply State.setR_held | with_reducible apply held_ite

theorem State.writeLog_held {q} {s : State} {a : Nat} {data : Word} (h : Held q s) :
    Held q (s.writeLog a data) := by
  unfold State.writeLog; repeat' first | with_reducible assumption | with_reducible apply State.volBaseOp_held | with_reducible apply State.volRdOp_held | with_reducible apply State.writeIf_held | with_reducible apply State.logClearOp_held | with_reducible apply State.writeGeneric_held | with_reducible apply held_ite

theorem State.writeTest_held {q} {s : State} {a : Nat} {data : Word} (h : Held q s) :
    Held q (s.writeTest a data) := by
  unfold State.writeTest; repeat' first | with_reducible assumption | with_reducible apply State.writeGeneric_held | with_reducible apply State.logE_held | with_reducible apply State.ageLoadOp_held | with_reducible apply State.writeIf_held | with_reducible apply State.testClearErrOp_held | with_reducible apply State.testClearLaneOp_held | with_reducible apply held_ite

theorem State.writeGrd_held {q} {s : State} {a : Nat} {data : Word} (h : Held q s) :
    Held q (s.writeGrd a data) := by
  unfold State.writeGrd; repeat' first | with_reducible assumption | with_reducible apply State.tripResetOp_held | with_reducible apply State.writeGeneric_held | with_reducible apply held_ite

theorem State.writeGseal_held {q} {s : State} {a : Nat} {data : Word} (h : Held q s) :
    Held q (s.writeGseal a data) := by
  unfold State.writeGseal; repeat' first | with_reducible assumption | with_reducible apply State.sealCmd_held | with_reducible apply State.setR_held | with_reducible apply State.writeIf_held | with_reducible apply State.writeGeneric_held | with_reducible apply held_ite

theorem State.writeGsafe_held {q} {s : State} {a : Nat} {data : Word} (h : Held q s) :
    Held q (s.writeGsafe a data) := by
  unfold State.writeGsafe; repeat' first | with_reducible assumption | with_reducible apply State.faultClrOp_held | with_reducible apply State.writeGeneric_held | with_reducible apply held_ite

theorem State.writeBlock_held {q} {s : State} {p a : Nat} {data : Word} (h : Held q s) :
    Held q (s.writeBlock p a data) := by
  unfold State.writeBlock; repeat' first | with_reducible assumption | with_reducible apply State.writeClk_held | with_reducible apply State.writePwr_held | with_reducible apply State.writeHost_held | with_reducible apply State.writeLog_held | with_reducible apply State.writeKeep_held | with_reducible apply State.writeTime_held | with_reducible apply State.writeSync_held | with_reducible apply State.writeRide_held | with_reducible apply State.writeIsld_held | with_reducible apply State.writePump_held | with_reducible apply State.writeSump_held | with_reducible apply State.writeChan0_held | with_reducible apply State.writeProf_held | with_reducible apply State.writeTrack_held | with_reducible apply State.writeComp_held | with_reducible apply State.writePwmc_held | with_reducible apply State.writePwmn_held | with_reducible apply State.writeIslc_held | with_reducible apply State.writeIsln_held | with_reducible apply State.writeAdcc_held | with_reducible apply State.writeAdcn_held | with_reducible apply State.writeAdcq_held | with_reducible apply State.writeCmp_held | with_reducible apply State.writeLane_held | with_reducible apply State.writeRing_held | with_reducible apply State.writeCells_held | with_reducible apply State.writeCell_held | with_reducible apply State.writeMetc_held | with_reducible apply State.writeMet_held | with_reducible apply State.writePq_held | with_reducible apply State.writeStn_held | with_reducible apply State.writePrp_held | with_reducible apply State.writePtp_held | with_reducible apply State.writeGoose_held | with_reducible apply State.writeSv_held | with_reducible apply State.writeGrd_held | with_reducible apply State.writeGseal_held | with_reducible apply State.writeGsafe_held | with_reducible apply State.writeAuxp_held | with_reducible apply State.writeIdm_held | with_reducible apply State.writeTest_held | with_reducible apply State.writeGeneric_held | with_reducible apply held_ite

theorem State.writeReg_held {q} {s : State} {a : Nat} {data : Word} (h : Held q s) :
    Held q (s.writeReg a data) := by
  unfold State.writeReg; repeat' first | with_reducible assumption | with_reducible apply State.writeHeader_held | with_reducible apply State.refuse_held | with_reducible apply State.writeBlock_held | with_reducible apply held_ite

theorem State.postGuard_held {q} {s : State} {ad : Nat} {data : Word} {be : BitVec 4} (h : Held q s) :
    Held q (s.postGuard ad data be) := by
  unfold State.postGuard; repeat' first | with_reducible assumption | with_reducible apply State.irq_held | with_reducible apply State.busErr_held | with_reducible apply held_ite | simp only [held_mk, held_fold]

theorem State.pageWrite_held {q} {s : State} {ad : Nat} {data : Word} {be : BitVec 4} (h : Held q s) :
    Held q (s.pageWrite ad data be) := by
  unfold State.pageWrite; repeat' first | with_reducible assumption | with_reducible apply State.busErr_held | with_reducible apply State.refuse_held | with_reducible apply State.postGuard_held | with_reducible apply State.writeReg_held | with_reducible apply held_ite

theorem State.putBytes_held {q} {s : State} {a : Nat} {data : Word} {be : BitVec 4} (h : Held q s) :
    Held q (s.putBytes a data be) := by
  unfold State.putBytes; repeat' first | intro _ | with_reducible assumption | with_reducible apply State.setMemB_held | with_reducible apply held_ite | with_reducible apply held_foldl

theorem State.loadTouch_held {q} {s : State} {ad : Nat} (h : Held q s) :
    Held q (s.loadTouch ad) := by
  unfold State.loadTouch; repeat' first | with_reducible assumption | with_reducible apply State.loadEndWith_held | with_reducible apply held_ite | simp only [held_mk, held_fold] | split

theorem State.sramWrite_held {q} {s : State} {ad : Nat} {data : Word} {be : BitVec 4} (h : Held q s) :
    Held q (s.sramWrite ad data be) := by
  unfold State.sramWrite; repeat' first | with_reducible assumption | with_reducible apply State.busErr_held | with_reducible apply State.putBytes_held | with_reducible apply State.settleNow_held | with_reducible apply State.loadTouch_held | split

theorem State.schedWrite_held {q} {s : State} {ad : Nat} {data : Word} {be : BitVec 4} (h : Held q s) :
    Held q (s.schedWrite ad data be) := by
  unfold State.schedWrite; repeat' first | with_reducible assumption | with_reducible apply State.putBytes_held | with_reducible apply State.busErr_held | with_reducible apply held_ite

theorem State.hostWrite_held {q} {s : State} {adw data : Word} {be : BitVec 4} (h : Held q s) :
    Held q (s.hostWrite adw data be) := by
  unfold State.hostWrite; repeat' first | intro _ | with_reducible assumption | with_reducible apply State.busErr_held | with_reducible apply State.pageWrite_held | with_reducible apply State.sramWrite_held | with_reducible apply State.schedWrite_held | with_reducible apply State.tableWrite_held | with_reducible apply State.putBytes_held | with_reducible apply State.postGuard_held | with_reducible apply held_ite

theorem State.hostRead_held {q} {s : State} {adw : Word} {ecc : Ecc} (h : Held q s) :
    Held q (s.hostRead adw ecc) := by
  unfold State.hostRead; repeat' first | with_reducible assumption | with_reducible apply State.busErr_held | with_reducible apply State.snapAt_held | with_reducible apply State.ueFound_held | with_reducible apply held_ite | simp only [held_mk, held_fold]

theorem State.guardApply_held {q} {s : State} {ad : Nat} {data : Word} {be : Nat} (h : Held q s) :
    Held q (s.guardApply ad data be) := by
  unfold State.guardApply; repeat' first | intro _ | with_reducible assumption | with_reducible apply State.writeReg_held | with_reducible apply held_ite | with_reducible apply held_foldl | simp only [held_mk, held_fold] | apply heldOf_setRam

theorem State.iqAccess_held {q} {s : State} {op : Nat} {adw data : Word} (h : Held q s) :
    Held q (s.iqAccess op adw data).2.2 := by
  unfold State.iqAccess; repeat' first | with_reducible assumption | with_reducible apply State.hostWrite_held | with_reducible apply State.busErr_held | with_reducible apply State.snapAt_held | with_reducible apply held_ite | simp only [held_mk, held_fold] | split

theorem State.interrogate_held {q} {s : State} {bs : List Byte} {me : Nat} {gen : Option Nat} (h : Held q s) :
    Held q (s.interrogate bs me gen).2 := by
  unfold State.interrogate; repeat' first | with_reducible assumption | with_reducible apply State.iqAccess_held | with_reducible apply held_ite_snd

theorem State.tuneFill_held {q} {s : State} {w : BitVec 16} {a : List Nat} (h : Held q s) :
    Held q (s.tuneFill w a).2 := by
  induction a generalizing s w <;> (simp only [State.tuneFill]; repeat' first | with_reducible assumption | with_reducible apply State.modLane_held | with_reducible apply held_ite_snd | split | apply_assumption)

theorem State.tuneTake_held {q} {s : State} {pos : Nat} {w : BitVec 16} (h : Held q s) :
    Held q (s.tuneTake pos w) := by
  unfold State.tuneTake; repeat' first | with_reducible assumption | with_reducible apply State.modLane_held | with_reducible apply held_ite

theorem State.takeEpochT_held {q} {s : State} {bs : List Byte} (h : Held q s) :
    Held q (s.takeEpochT bs) := by
  unfold State.takeEpochT; repeat' first | with_reducible assumption | with_reducible apply State.setR_held | simp only [held_mk, held_fold]

theorem State.cellHeader_held {q} {s : State} {bs : List Byte} {pos : Nat} {known : Bool} (h : Held q s) :
    Held q (s.cellHeader bs pos known) := by
  unfold State.cellHeader; repeat' first | with_reducible assumption | with_reducible apply State.setR_held | with_reducible apply State.takeEpochT_held | with_reducible apply State.tuneTake_held | with_reducible apply State.enterSafe_held | with_reducible apply held_ite | simp only [held_mk, held_fold]

theorem State.cellImp_held {q} {s : State} {bs : List Byte} {pos : Nat} {hOk posOk : Bool} (h : Held q s) :
    Held q (s.cellImp bs pos hOk posOk) := by
  unfold State.cellImp; repeat' first | with_reducible assumption | with_reducible apply State.irq_held | with_reducible apply State.incSat_held | with_reducible apply held_ite | simp only [held_mk, held_fold]

theorem State.indLast_held {q} {s : State} {ind : List Byte} (h : Held q s) :
    Held q (s.indLast ind) := by
  unfold State.indLast; repeat' first | intro _ | with_reducible assumption | with_reducible apply State.setR_held | with_reducible apply held_foldl

theorem State.cellSlot_held {q} {s : State} {bs : List Byte} {pos : Nat} {hOk posOk : Bool} (h : Held q s) :
    Held q (s.cellSlot bs pos hOk posOk).2 := by
  unfold State.cellSlot; repeat' first | with_reducible assumption | with_reducible apply State.cellImp_held | with_reducible apply State.interrogate_held | with_reducible apply State.indLast_held

theorem State.cellOutbound_held {q} {s : State} {port : Nat} {bs : List Byte} {change : BitVec 16} (h : Held q s) :
    Held q (s.cellOutbound port bs change) := by
  unfold State.cellOutbound; repeat' first | with_reducible assumption | with_reducible apply State.setF_held | with_reducible apply State.cellHeader_held | with_reducible apply State.cellSlot_held | with_reducible apply State.tuneFill_held | with_reducible apply State.irq_held | with_reducible apply State.modRing_held | with_reducible apply State.lineTrain_held | with_reducible apply held_ite | with_reducible apply held_ite_snd | simp only [held_mk, held_fold]

theorem State.cellTrain_held {q} {s : State} {port : Nat} {bs : List Byte} {change : BitVec 16} (h : Held q s) :
    Held q (s.cellTrain port bs change) := by
  unfold State.cellTrain; repeat' first | with_reducible assumption | with_reducible apply State.lineTrain_held | with_reducible apply State.cellOutbound_held | with_reducible apply held_ite

theorem State.wellheadTurn_held {q} {s : State} {p : Nat} {bs : List Byte} (h : Held q s) :
    Held q (s.wellheadTurn p bs) := by
  unfold State.wellheadTurn; repeat' first | with_reducible assumption | with_reducible apply State.interrogate_held | with_reducible apply State.tuneFill_held | with_reducible apply State.lineTrain_held | with_reducible apply held_ite_snd

theorem State.peerTrain_held {q} {s : State} {n : Nat} {bs : List Byte} (h : Held q s) :
    Held q (s.peerTrain n bs) := by
  unfold State.peerTrain; repeat' first | with_reducible assumption | with_reducible apply State.modRing_held | with_reducible apply State.observeTrain_held | with_reducible apply held_ite

theorem State.wellheadTrain_held {q} {s : State} {p : Nat} {bs : List Byte} (h : Held q s) :
    Held q (s.wellheadTrain p bs) := by
  unfold State.wellheadTrain; repeat' first | with_reducible assumption | with_reducible apply State.wellheadTurn_held | with_reducible apply State.peerTrain_held | with_reducible apply held_ite | simp only [held_mk, held_fold] | split

theorem State.eighths_held {q} {s : State} {n : Int} (h : Held q s) :
    Held q (s.eighths n).2 := by
  unfold State.eighths; repeat' first | with_reducible assumption | with_reducible apply State.takeFree_held | with_reducible apply held_ite_snd

theorem State.alignJudge_held {q} {s : State} {planned : Bool} (h : Held q s) :
    Held q (s.alignJudge planned) := by
  unfold State.alignJudge; repeat' first | with_reducible assumption | with_reducible apply State.eighths_held | with_reducible apply State.setR_held | with_reducible apply State.setB_held | with_reducible apply State.irqLog_held | with_reducible apply held_ite | simp only [held_mk, held_fold]

theorem State.epochInstant_held {q} {s : State} (h : Held q s) :
    Held q (s.epochInstant) := by
  unfold State.epochInstant; repeat' first | with_reducible assumption | with_reducible apply State.pumpEndPeriod_held | with_reducible apply State.setR_held | with_reducible apply State.irq_held | with_reducible apply State.incSat_held | with_reducible apply State.incMod_held | with_reducible apply State.alignJudge_held | simp only [held_mk, held_fold]

theorem State.syncCodes_held {q} {s : State} {l : List (BitVec 16)} (h : Held q s) :
    Held q (s.syncCodes l) := by
  unfold State.syncCodes; repeat' first | with_reducible assumption | simp only [held_mk, held_fold]

theorem State.ringsE0_held {q} {s : State} (h : Held q s) :
    Held q (s.ringsE0) := by
  unfold State.ringsE0; repeat' first | intro _ | with_reducible assumption | with_reducible apply State.ringTake_held | with_reducible apply State.mirrorUpdate_held | with_reducible apply State.rejoinE0_held | with_reducible apply State.observeE0_held | with_reducible apply held_ite | with_reducible apply held_foldl

theorem State.epochSamples_held {q} {s : State} {i : EpochIn} (h : Held q s) :
    Held q (s.epochSamples i) := by
  unfold State.epochSamples; repeat' first | with_reducible assumption | with_reducible apply State.syncCodes_held | with_reducible apply State.mdatSamples_held | with_reducible apply State.epochInstant_held | with_reducible apply State.ringsE0_held | with_reducible apply held_ite

theorem State.epochSwaps_held {q} {s : State} (h : Held q s) :
    Held q (s.epochSwaps) := by
  unfold State.epochSwaps; repeat' first | with_reducible assumption | with_reducible apply State.tableSwaps_held | with_reducible apply State.channelWork_held | with_reducible apply State.e5Refresh_held | with_reducible apply State.carrierRecompute_held | with_reducible apply State.takeoverJudge_held | with_reducible apply State.planSwap_held | with_reducible apply held_ite

theorem State.bootExit_held {q} {s : State} (h : Held q s) :
    Held q (s.bootExit) := by
  unfold State.bootExit; repeat' first | with_reducible assumption | with_reducible apply State.enterSafe_held | with_reducible apply State.transition_held | with_reducible apply held_ite

theorem State.epochMode_held {q} {s : State} {boot : Bool} (h : Held q s) :
    Held q (s.epochMode boot) := by
  unfold State.epochMode; repeat' first | with_reducible assumption | with_reducible apply State.modeEval_held | with_reducible apply State.bootExit_held | with_reducible apply State.idmScanOp_held | with_reducible apply held_ite

theorem State.epochCommits_held {q} {s : State} (h : Held q s) :
    Held q (s.epochCommits) := by
  unfold State.epochCommits; repeat' first | with_reducible assumption | with_reducible apply State.commitProf_held | with_reducible apply State.commitPage_held | with_reducible apply held_ite

theorem State.systemWords_held {q} {s : State} (h : Held q s) :
    Held q (s.systemWords) := by
  unfold State.systemWords; repeat' first | with_reducible assumption | with_reducible apply State.setSump_held

theorem State.epochWords_held {q} {s : State} {i : EpochIn} (h : Held q s) :
    Held q (s.epochWords i) := by
  unfold State.epochWords; repeat' first | with_reducible assumption | with_reducible apply State.systemWords_held | with_reducible apply State.cellE0_held | with_reducible apply State.tracksE0_held | with_reducible apply State.profE0_held | with_reducible apply State.policyE0_held | with_reducible apply State.compE0_held | with_reducible apply held_ite | simp only [held_mk, held_fold]

theorem State.guardE0_held {q} {s : State} (h : Held q s) :
    Held q (s.guardE0) := by
  unfold State.guardE0; repeat' first | with_reducible assumption | with_reducible apply State.guardReqs_held | with_reducible apply State.setR_held | with_reducible apply State.modR_held | with_reducible apply held_ite | simp only [held_mk, held_fold]

theorem State.syncOutE0_held {q} {s : State} (h : Held q s) :
    Held q (s.syncOutE0) := by
  unfold State.syncOutE0; repeat' first | with_reducible assumption | with_reducible apply held_ite | simp only [held_mk, held_fold]

theorem State.epochCounts_held {q} {s : State} (h : Held q s) :
    Held q (s.epochCounts) := by
  unfold State.epochCounts; repeat' first | intro _ | with_reducible assumption | with_reducible apply State.modLane_held | with_reducible apply State.setAdc_held | with_reducible apply held_ite | with_reducible apply held_foldl | simp only [held_mk, held_fold]

theorem State.epochDrives_held {q} {s : State} (h : Held q s) :
    Held q (s.epochDrives) := by
  unfold State.epochDrives; repeat' first | intro _ | with_reducible assumption | with_reducible apply State.cellPhases_held | with_reducible apply State.pwmE0_held | with_reducible apply State.cmpSettleAll_held | with_reducible apply State.adcFire_held | with_reducible apply held_ite | with_reducible apply held_foldl

theorem State.epochBody_held {q} {s : State} {i : EpochIn} {boot : Bool} (h : Held q s) :
    Held q (s.epochBody i boot) := by
  unfold State.epochBody; repeat' first | with_reducible assumption | with_reducible apply State.chooseSlice_held | with_reducible apply State.epochCommits_held | with_reducible apply State.epochMode_held | with_reducible apply State.epochSwaps_held | with_reducible apply State.epochSamples_held | with_reducible apply State.epochCounts_held | with_reducible apply State.epochWords_held | with_reducible apply State.epochDrives_held | with_reducible apply State.syncOutE0_held | with_reducible apply State.guardE0_held | with_reducible apply State.pubsFollow_held | with_reducible apply State.auxE0_held | with_reducible apply State.gooseE0_held

theorem State.freshE0_held {q} {s : State} (h : Held q s) :
    Held q (s.freshE0) := by
  unfold State.freshE0; repeat' first | with_reducible assumption | with_reducible apply State.elapse_held | simp only [held_mk, held_fold]

theorem State.haltE0_held {q} {s : State} (h : Held q s) :
    Held q (s.haltE0) := by
  unfold State.haltE0; repeat' first | with_reducible assumption | simp only [held_mk, held_fold]

theorem State.rtcLoad_held {q} {s : State} (h : Held q s) :
    Held q (s.rtcLoad) := by
  unfold State.rtcLoad; repeat' first | with_reducible assumption | with_reducible apply held_ite | simp only [held_mk, held_fold]

theorem State.localStage_held {q} {s : State} {g : Nat} (h : Held q s) :
    Held q (s.localStage g) := by
  unfold State.localStage; repeat' first | with_reducible assumption | with_reducible apply State.pwmStage_held | with_reducible apply held_ite

end Sys2Proof.Machine
end

