-- ==== Sys2Proof/Laws/State.lean ====
section
/-! SUPPORT. What an update leaves: one lemma per field of State and update, and the registers and bytes after an update. -/
namespace Sys2Proof.Machine
open Sys2Proof

@[simp] theorem State.setR_pending (s : State) (a : Nat) (v : Word) : (s.setR a v).pending = s.pending := rfl
@[simp] theorem State.setR_freeCtr (s : State) (a : Nat) (v : Word) : (s.setR a v).freeCtr = s.freeCtr := rfl
@[simp] theorem State.setR_pw (s : State) (a : Nat) (v : Word) : (s.setR a v).pw = s.pw := rfl
@[simp] theorem State.setR_clk (s : State) (a : Nat) (v : Word) : (s.setR a v).clk = s.clk := rfl
@[simp] theorem State.setR_grd (s : State) (a : Nat) (v : Word) : (s.setR a v).grd = s.grd := rfl
@[simp] theorem State.setR_kp (s : State) (a : Nat) (v : Word) : (s.setR a v).kp = s.kp := rfl
@[simp] theorem State.setR_shadow (s : State) (a : Nat) (v : Word) : (s.setR a v).shadow = s.shadow := rfl
@[simp] theorem State.setR_snap (s : State) (a : Nat) (v : Word) : (s.setR a v).snap = s.snap := rfl
@[simp] theorem State.setR_mem (s : State) (a : Nat) (v : Word) : (s.setR a v).mem = s.mem := rfl
@[simp] theorem State.setR_sump (s : State) (a : Nat) (v : Word) : (s.setR a v).sump = s.sump := rfl
@[simp] theorem State.setR_mirror (s : State) (a : Nat) (v : Word) : (s.setR a v).mirror = s.mirror := rfl
@[simp] theorem State.setR_logq (s : State) (a : Nat) (v : Word) : (s.setR a v).logq = s.logq := rfl
@[simp] theorem State.setR_tst (s : State) (a : Nat) (v : Word) : (s.setR a v).tst = s.tst := rfl
@[simp] theorem State.setR_pump (s : State) (a : Nat) (v : Word) : (s.setR a v).pump = s.pump := rfl
@[simp] theorem State.setR_tab (s : State) (a : Nat) (v : Word) : (s.setR a v).tab = s.tab := rfl
@[simp] theorem State.setR_chans (s : State) (a : Nat) (v : Word) : (s.setR a v).chans = s.chans := rfl
@[simp] theorem State.setR_drainJob (s : State) (a : Nat) (v : Word) : (s.setR a v).drainJob = s.drainJob := rfl
@[simp] theorem State.setR_bandWritten (s : State) (a : Nat) (v : Word) : (s.setR a v).bandWritten = s.bandWritten := rfl
@[simp] theorem State.setR_profs (s : State) (a : Nat) (v : Word) : (s.setR a v).profs = s.profs := rfl
@[simp] theorem State.setR_trks (s : State) (a : Nat) (v : Word) : (s.setR a v).trks = s.trks := rfl
@[simp] theorem State.setR_sync (s : State) (a : Nat) (v : Word) : (s.setR a v).sync = s.sync := rfl
@[simp] theorem State.setR_ride (s : State) (a : Nat) (v : Word) : (s.setR a v).ride = s.ride := rfl
@[simp] theorem State.setR_isld (s : State) (a : Nat) (v : Word) : (s.setR a v).isld = s.isld := rfl
@[simp] theorem State.setR_pwm (s : State) (a : Nat) (v : Word) : (s.setR a v).pwm = s.pwm := rfl
@[simp] theorem State.setR_syncOut (s : State) (a : Nat) (v : Word) : (s.setR a v).syncOut = s.syncOut := rfl
@[simp] theorem State.setR_isls (s : State) (a : Nat) (v : Word) : (s.setR a v).isls = s.isls := rfl
@[simp] theorem State.setR_ilkE0 (s : State) (a : Nat) (v : Word) : (s.setR a v).ilkE0 = s.ilkE0 := rfl
@[simp] theorem State.setR_faultAt (s : State) (a : Nat) (v : Word) : (s.setR a v).faultAt = s.faultAt := rfl
@[simp] theorem State.setR_adc (s : State) (a : Nat) (v : Word) : (s.setR a v).adc = s.adc := rfl
@[simp] theorem State.setR_cmpF (s : State) (a : Nat) (v : Word) : (s.setR a v).cmpF = s.cmpF := rfl
@[simp] theorem State.setR_lvTick (s : State) (a : Nat) (v : Word) : (s.setR a v).lvTick = s.lvTick := rfl
@[simp] theorem State.setR_lvSnap (s : State) (a : Nat) (v : Word) : (s.setR a v).lvSnap = s.lvSnap := rfl
@[simp] theorem State.setR_lvDone (s : State) (a : Nat) (v : Word) : (s.setR a v).lvDone = s.lvDone := rfl
@[simp] theorem State.setR_lanes (s : State) (a : Nat) (v : Word) : (s.setR a v).lanes = s.lanes := rfl
@[simp] theorem State.setR_rings (s : State) (a : Nat) (v : Word) : (s.setR a v).rings = s.rings := rfl
@[simp] theorem State.setR_dirs (s : State) (a : Nat) (v : Word) : (s.setR a v).dirs = s.dirs := rfl
@[simp] theorem State.setR_plan (s : State) (a : Nat) (v : Word) : (s.setR a v).plan = s.plan := rfl
@[simp] theorem State.setR_stb (s : State) (a : Nat) (v : Word) : (s.setR a v).stb = s.stb := rfl
@[simp] theorem State.setR_cell (s : State) (a : Nat) (v : Word) : (s.setR a v).cell = s.cell := rfl
@[simp] theorem State.setR_mets (s : State) (a : Nat) (v : Word) : (s.setR a v).mets = s.mets := rfl
@[simp] theorem State.setR_pq (s : State) (a : Nat) (v : Word) : (s.setR a v).pq = s.pq := rfl
@[simp] theorem State.setR_stnPorts (s : State) (a : Nat) (v : Word) : (s.setR a v).stnPorts = s.stnPorts := rfl
@[simp] theorem State.setR_stn (s : State) (a : Nat) (v : Word) : (s.setR a v).stn = s.stn := rfl
@[simp] theorem State.setR_subs (s : State) (a : Nat) (v : Word) : (s.setR a v).subs = s.subs := rfl
@[simp] theorem State.setR_pubs (s : State) (a : Nat) (v : Word) : (s.setR a v).pubs = s.pubs := rfl
@[simp] theorem State.setR_idm (s : State) (a : Nat) (v : Word) : (s.setR a v).idm = s.idm := rfl
@[simp] theorem State.setR_auxs (s : State) (a : Nat) (v : Word) : (s.setR a v).auxs = s.auxs := rfl

@[simp] theorem State.setMemB_pending (s : State) (a : Nat) (b : Byte) : (s.setMemB a b).pending = s.pending := rfl
@[simp] theorem State.setMemB_freeCtr (s : State) (a : Nat) (b : Byte) : (s.setMemB a b).freeCtr = s.freeCtr := rfl
@[simp] theorem State.setMemB_pw (s : State) (a : Nat) (b : Byte) : (s.setMemB a b).pw = s.pw := rfl
@[simp] theorem State.setMemB_clk (s : State) (a : Nat) (b : Byte) : (s.setMemB a b).clk = s.clk := rfl
@[simp] theorem State.setMemB_grd (s : State) (a : Nat) (b : Byte) : (s.setMemB a b).grd = s.grd := rfl
@[simp] theorem State.setMemB_kp (s : State) (a : Nat) (b : Byte) : (s.setMemB a b).kp = s.kp := rfl
@[simp] theorem State.setMemB_regs (s : State) (a : Nat) (b : Byte) : (s.setMemB a b).regs = s.regs := rfl
@[simp] theorem State.setMemB_shadow (s : State) (a : Nat) (b : Byte) : (s.setMemB a b).shadow = s.shadow := rfl
@[simp] theorem State.setMemB_snap (s : State) (a : Nat) (b : Byte) : (s.setMemB a b).snap = s.snap := rfl
@[simp] theorem State.setMemB_sump (s : State) (a : Nat) (b : Byte) : (s.setMemB a b).sump = s.sump := rfl
@[simp] theorem State.setMemB_mirror (s : State) (a : Nat) (b : Byte) : (s.setMemB a b).mirror = s.mirror := rfl
@[simp] theorem State.setMemB_logq (s : State) (a : Nat) (b : Byte) : (s.setMemB a b).logq = s.logq := rfl
@[simp] theorem State.setMemB_tst (s : State) (a : Nat) (b : Byte) : (s.setMemB a b).tst = s.tst := rfl
@[simp] theorem State.setMemB_pump (s : State) (a : Nat) (b : Byte) : (s.setMemB a b).pump = s.pump := rfl
@[simp] theorem State.setMemB_tab (s : State) (a : Nat) (b : Byte) : (s.setMemB a b).tab = s.tab := rfl
@[simp] theorem State.setMemB_chans (s : State) (a : Nat) (b : Byte) : (s.setMemB a b).chans = s.chans := rfl
@[simp] theorem State.setMemB_drainJob (s : State) (a : Nat) (b : Byte) : (s.setMemB a b).drainJob = s.drainJob := rfl
@[simp] theorem State.setMemB_bandWritten (s : State) (a : Nat) (b : Byte) : (s.setMemB a b).bandWritten = s.bandWritten := rfl
@[simp] theorem State.setMemB_profs (s : State) (a : Nat) (b : Byte) : (s.setMemB a b).profs = s.profs := rfl
@[simp] theorem State.setMemB_trks (s : State) (a : Nat) (b : Byte) : (s.setMemB a b).trks = s.trks := rfl
@[simp] theorem State.setMemB_sync (s : State) (a : Nat) (b : Byte) : (s.setMemB a b).sync = s.sync := rfl
@[simp] theorem State.setMemB_ride (s : State) (a : Nat) (b : Byte) : (s.setMemB a b).ride = s.ride := rfl
@[simp] theorem State.setMemB_isld (s : State) (a : Nat) (b : Byte) : (s.setMemB a b).isld = s.isld := rfl
@[simp] theorem State.setMemB_pwm (s : State) (a : Nat) (b : Byte) : (s.setMemB a b).pwm = s.pwm := rfl
@[simp] theorem State.setMemB_syncOut (s : State) (a : Nat) (b : Byte) : (s.setMemB a b).syncOut = s.syncOut := rfl
@[simp] theorem State.setMemB_isls (s : State) (a : Nat) (b : Byte) : (s.setMemB a b).isls = s.isls := rfl
@[simp] theorem State.setMemB_ilkE0 (s : State) (a : Nat) (b : Byte) : (s.setMemB a b).ilkE0 = s.ilkE0 := rfl
@[simp] theorem State.setMemB_faultAt (s : State) (a : Nat) (b : Byte) : (s.setMemB a b).faultAt = s.faultAt := rfl
@[simp] theorem State.setMemB_adc (s : State) (a : Nat) (b : Byte) : (s.setMemB a b).adc = s.adc := rfl
@[simp] theorem State.setMemB_cmpF (s : State) (a : Nat) (b : Byte) : (s.setMemB a b).cmpF = s.cmpF := rfl
@[simp] theorem State.setMemB_lvTick (s : State) (a : Nat) (b : Byte) : (s.setMemB a b).lvTick = s.lvTick := rfl
@[simp] theorem State.setMemB_lvSnap (s : State) (a : Nat) (b : Byte) : (s.setMemB a b).lvSnap = s.lvSnap := rfl
@[simp] theorem State.setMemB_lvDone (s : State) (a : Nat) (b : Byte) : (s.setMemB a b).lvDone = s.lvDone := rfl
@[simp] theorem State.setMemB_lanes (s : State) (a : Nat) (b : Byte) : (s.setMemB a b).lanes = s.lanes := rfl
@[simp] theorem State.setMemB_rings (s : State) (a : Nat) (b : Byte) : (s.setMemB a b).rings = s.rings := rfl
@[simp] theorem State.setMemB_dirs (s : State) (a : Nat) (b : Byte) : (s.setMemB a b).dirs = s.dirs := rfl
@[simp] theorem State.setMemB_plan (s : State) (a : Nat) (b : Byte) : (s.setMemB a b).plan = s.plan := rfl
@[simp] theorem State.setMemB_stb (s : State) (a : Nat) (b : Byte) : (s.setMemB a b).stb = s.stb := rfl
@[simp] theorem State.setMemB_cell (s : State) (a : Nat) (b : Byte) : (s.setMemB a b).cell = s.cell := rfl
@[simp] theorem State.setMemB_mets (s : State) (a : Nat) (b : Byte) : (s.setMemB a b).mets = s.mets := rfl
@[simp] theorem State.setMemB_pq (s : State) (a : Nat) (b : Byte) : (s.setMemB a b).pq = s.pq := rfl
@[simp] theorem State.setMemB_stnPorts (s : State) (a : Nat) (b : Byte) : (s.setMemB a b).stnPorts = s.stnPorts := rfl
@[simp] theorem State.setMemB_stn (s : State) (a : Nat) (b : Byte) : (s.setMemB a b).stn = s.stn := rfl
@[simp] theorem State.setMemB_subs (s : State) (a : Nat) (b : Byte) : (s.setMemB a b).subs = s.subs := rfl
@[simp] theorem State.setMemB_pubs (s : State) (a : Nat) (b : Byte) : (s.setMemB a b).pubs = s.pubs := rfl
@[simp] theorem State.setMemB_idm (s : State) (a : Nat) (b : Byte) : (s.setMemB a b).idm = s.idm := rfl
@[simp] theorem State.setMemB_auxs (s : State) (a : Nat) (b : Byte) : (s.setMemB a b).auxs = s.auxs := rfl

@[simp] theorem State.setSump_pending (s : State) (i : Nat) (w : Word) : (s.setSump i w).pending = s.pending := rfl
@[simp] theorem State.setSump_freeCtr (s : State) (i : Nat) (w : Word) : (s.setSump i w).freeCtr = s.freeCtr := rfl
@[simp] theorem State.setSump_pw (s : State) (i : Nat) (w : Word) : (s.setSump i w).pw = s.pw := rfl
@[simp] theorem State.setSump_clk (s : State) (i : Nat) (w : Word) : (s.setSump i w).clk = s.clk := rfl
@[simp] theorem State.setSump_grd (s : State) (i : Nat) (w : Word) : (s.setSump i w).grd = s.grd := rfl
@[simp] theorem State.setSump_kp (s : State) (i : Nat) (w : Word) : (s.setSump i w).kp = s.kp := rfl
@[simp] theorem State.setSump_regs (s : State) (i : Nat) (w : Word) : (s.setSump i w).regs = s.regs := rfl
@[simp] theorem State.setSump_shadow (s : State) (i : Nat) (w : Word) : (s.setSump i w).shadow = s.shadow := rfl
@[simp] theorem State.setSump_snap (s : State) (i : Nat) (w : Word) : (s.setSump i w).snap = s.snap := rfl
@[simp] theorem State.setSump_mem (s : State) (i : Nat) (w : Word) : (s.setSump i w).mem = s.mem := rfl
@[simp] theorem State.setSump_mirror (s : State) (i : Nat) (w : Word) : (s.setSump i w).mirror = s.mirror := rfl
@[simp] theorem State.setSump_logq (s : State) (i : Nat) (w : Word) : (s.setSump i w).logq = s.logq := rfl
@[simp] theorem State.setSump_tst (s : State) (i : Nat) (w : Word) : (s.setSump i w).tst = s.tst := rfl
@[simp] theorem State.setSump_pump (s : State) (i : Nat) (w : Word) : (s.setSump i w).pump = s.pump := rfl
@[simp] theorem State.setSump_tab (s : State) (i : Nat) (w : Word) : (s.setSump i w).tab = s.tab := rfl
@[simp] theorem State.setSump_chans (s : State) (i : Nat) (w : Word) : (s.setSump i w).chans = s.chans := rfl
@[simp] theorem State.setSump_drainJob (s : State) (i : Nat) (w : Word) : (s.setSump i w).drainJob = s.drainJob := rfl
@[simp] theorem State.setSump_bandWritten (s : State) (i : Nat) (w : Word) : (s.setSump i w).bandWritten = s.bandWritten := rfl
@[simp] theorem State.setSump_profs (s : State) (i : Nat) (w : Word) : (s.setSump i w).profs = s.profs := rfl
@[simp] theorem State.setSump_trks (s : State) (i : Nat) (w : Word) : (s.setSump i w).trks = s.trks := rfl
@[simp] theorem State.setSump_sync (s : State) (i : Nat) (w : Word) : (s.setSump i w).sync = s.sync := rfl
@[simp] theorem State.setSump_ride (s : State) (i : Nat) (w : Word) : (s.setSump i w).ride = s.ride := rfl
@[simp] theorem State.setSump_isld (s : State) (i : Nat) (w : Word) : (s.setSump i w).isld = s.isld := rfl
@[simp] theorem State.setSump_pwm (s : State) (i : Nat) (w : Word) : (s.setSump i w).pwm = s.pwm := rfl
@[simp] theorem State.setSump_syncOut (s : State) (i : Nat) (w : Word) : (s.setSump i w).syncOut = s.syncOut := rfl
@[simp] theorem State.setSump_isls (s : State) (i : Nat) (w : Word) : (s.setSump i w).isls = s.isls := rfl
@[simp] theorem State.setSump_ilkE0 (s : State) (i : Nat) (w : Word) : (s.setSump i w).ilkE0 = s.ilkE0 := rfl
@[simp] theorem State.setSump_faultAt (s : State) (i : Nat) (w : Word) : (s.setSump i w).faultAt = s.faultAt := rfl
@[simp] theorem State.setSump_adc (s : State) (i : Nat) (w : Word) : (s.setSump i w).adc = s.adc := rfl
@[simp] theorem State.setSump_cmpF (s : State) (i : Nat) (w : Word) : (s.setSump i w).cmpF = s.cmpF := rfl
@[simp] theorem State.setSump_lvTick (s : State) (i : Nat) (w : Word) : (s.setSump i w).lvTick = s.lvTick := rfl
@[simp] theorem State.setSump_lvSnap (s : State) (i : Nat) (w : Word) : (s.setSump i w).lvSnap = s.lvSnap := rfl
@[simp] theorem State.setSump_lvDone (s : State) (i : Nat) (w : Word) : (s.setSump i w).lvDone = s.lvDone := rfl
@[simp] theorem State.setSump_lanes (s : State) (i : Nat) (w : Word) : (s.setSump i w).lanes = s.lanes := rfl
@[simp] theorem State.setSump_rings (s : State) (i : Nat) (w : Word) : (s.setSump i w).rings = s.rings := rfl
@[simp] theorem State.setSump_dirs (s : State) (i : Nat) (w : Word) : (s.setSump i w).dirs = s.dirs := rfl
@[simp] theorem State.setSump_plan (s : State) (i : Nat) (w : Word) : (s.setSump i w).plan = s.plan := rfl
@[simp] theorem State.setSump_stb (s : State) (i : Nat) (w : Word) : (s.setSump i w).stb = s.stb := rfl
@[simp] theorem State.setSump_cell (s : State) (i : Nat) (w : Word) : (s.setSump i w).cell = s.cell := rfl
@[simp] theorem State.setSump_mets (s : State) (i : Nat) (w : Word) : (s.setSump i w).mets = s.mets := rfl
@[simp] theorem State.setSump_pq (s : State) (i : Nat) (w : Word) : (s.setSump i w).pq = s.pq := rfl
@[simp] theorem State.setSump_stnPorts (s : State) (i : Nat) (w : Word) : (s.setSump i w).stnPorts = s.stnPorts := rfl
@[simp] theorem State.setSump_stn (s : State) (i : Nat) (w : Word) : (s.setSump i w).stn = s.stn := rfl
@[simp] theorem State.setSump_subs (s : State) (i : Nat) (w : Word) : (s.setSump i w).subs = s.subs := rfl
@[simp] theorem State.setSump_pubs (s : State) (i : Nat) (w : Word) : (s.setSump i w).pubs = s.pubs := rfl
@[simp] theorem State.setSump_idm (s : State) (i : Nat) (w : Word) : (s.setSump i w).idm = s.idm := rfl
@[simp] theorem State.setSump_auxs (s : State) (i : Nat) (w : Word) : (s.setSump i w).auxs = s.auxs := rfl

@[simp] theorem State.setMirror_pending (s : State) (i w : Nat) (v : Word) : (s.setMirror i w v).pending = s.pending := rfl
@[simp] theorem State.setMirror_freeCtr (s : State) (i w : Nat) (v : Word) : (s.setMirror i w v).freeCtr = s.freeCtr := rfl
@[simp] theorem State.setMirror_pw (s : State) (i w : Nat) (v : Word) : (s.setMirror i w v).pw = s.pw := rfl
@[simp] theorem State.setMirror_clk (s : State) (i w : Nat) (v : Word) : (s.setMirror i w v).clk = s.clk := rfl
@[simp] theorem State.setMirror_grd (s : State) (i w : Nat) (v : Word) : (s.setMirror i w v).grd = s.grd := rfl
@[simp] theorem State.setMirror_kp (s : State) (i w : Nat) (v : Word) : (s.setMirror i w v).kp = s.kp := rfl
@[simp] theorem State.setMirror_regs (s : State) (i w : Nat) (v : Word) : (s.setMirror i w v).regs = s.regs := rfl
@[simp] theorem State.setMirror_shadow (s : State) (i w : Nat) (v : Word) : (s.setMirror i w v).shadow = s.shadow := rfl
@[simp] theorem State.setMirror_snap (s : State) (i w : Nat) (v : Word) : (s.setMirror i w v).snap = s.snap := rfl
@[simp] theorem State.setMirror_mem (s : State) (i w : Nat) (v : Word) : (s.setMirror i w v).mem = s.mem := rfl
@[simp] theorem State.setMirror_sump (s : State) (i w : Nat) (v : Word) : (s.setMirror i w v).sump = s.sump := rfl
@[simp] theorem State.setMirror_logq (s : State) (i w : Nat) (v : Word) : (s.setMirror i w v).logq = s.logq := rfl
@[simp] theorem State.setMirror_tst (s : State) (i w : Nat) (v : Word) : (s.setMirror i w v).tst = s.tst := rfl
@[simp] theorem State.setMirror_pump (s : State) (i w : Nat) (v : Word) : (s.setMirror i w v).pump = s.pump := rfl
@[simp] theorem State.setMirror_tab (s : State) (i w : Nat) (v : Word) : (s.setMirror i w v).tab = s.tab := rfl
@[simp] theorem State.setMirror_chans (s : State) (i w : Nat) (v : Word) : (s.setMirror i w v).chans = s.chans := rfl
@[simp] theorem State.setMirror_drainJob (s : State) (i w : Nat) (v : Word) : (s.setMirror i w v).drainJob = s.drainJob := rfl
@[simp] theorem State.setMirror_bandWritten (s : State) (i w : Nat) (v : Word) : (s.setMirror i w v).bandWritten = s.bandWritten := rfl
@[simp] theorem State.setMirror_profs (s : State) (i w : Nat) (v : Word) : (s.setMirror i w v).profs = s.profs := rfl
@[simp] theorem State.setMirror_trks (s : State) (i w : Nat) (v : Word) : (s.setMirror i w v).trks = s.trks := rfl
@[simp] theorem State.setMirror_sync (s : State) (i w : Nat) (v : Word) : (s.setMirror i w v).sync = s.sync := rfl
@[simp] theorem State.setMirror_ride (s : State) (i w : Nat) (v : Word) : (s.setMirror i w v).ride = s.ride := rfl
@[simp] theorem State.setMirror_isld (s : State) (i w : Nat) (v : Word) : (s.setMirror i w v).isld = s.isld := rfl
@[simp] theorem State.setMirror_pwm (s : State) (i w : Nat) (v : Word) : (s.setMirror i w v).pwm = s.pwm := rfl
@[simp] theorem State.setMirror_syncOut (s : State) (i w : Nat) (v : Word) : (s.setMirror i w v).syncOut = s.syncOut := rfl
@[simp] theorem State.setMirror_isls (s : State) (i w : Nat) (v : Word) : (s.setMirror i w v).isls = s.isls := rfl
@[simp] theorem State.setMirror_ilkE0 (s : State) (i w : Nat) (v : Word) : (s.setMirror i w v).ilkE0 = s.ilkE0 := rfl
@[simp] theorem State.setMirror_faultAt (s : State) (i w : Nat) (v : Word) : (s.setMirror i w v).faultAt = s.faultAt := rfl
@[simp] theorem State.setMirror_adc (s : State) (i w : Nat) (v : Word) : (s.setMirror i w v).adc = s.adc := rfl
@[simp] theorem State.setMirror_cmpF (s : State) (i w : Nat) (v : Word) : (s.setMirror i w v).cmpF = s.cmpF := rfl
@[simp] theorem State.setMirror_lvTick (s : State) (i w : Nat) (v : Word) : (s.setMirror i w v).lvTick = s.lvTick := rfl
@[simp] theorem State.setMirror_lvSnap (s : State) (i w : Nat) (v : Word) : (s.setMirror i w v).lvSnap = s.lvSnap := rfl
@[simp] theorem State.setMirror_lvDone (s : State) (i w : Nat) (v : Word) : (s.setMirror i w v).lvDone = s.lvDone := rfl
@[simp] theorem State.setMirror_lanes (s : State) (i w : Nat) (v : Word) : (s.setMirror i w v).lanes = s.lanes := rfl
@[simp] theorem State.setMirror_rings (s : State) (i w : Nat) (v : Word) : (s.setMirror i w v).rings = s.rings := rfl
@[simp] theorem State.setMirror_dirs (s : State) (i w : Nat) (v : Word) : (s.setMirror i w v).dirs = s.dirs := rfl
@[simp] theorem State.setMirror_plan (s : State) (i w : Nat) (v : Word) : (s.setMirror i w v).plan = s.plan := rfl
@[simp] theorem State.setMirror_stb (s : State) (i w : Nat) (v : Word) : (s.setMirror i w v).stb = s.stb := rfl
@[simp] theorem State.setMirror_cell (s : State) (i w : Nat) (v : Word) : (s.setMirror i w v).cell = s.cell := rfl
@[simp] theorem State.setMirror_mets (s : State) (i w : Nat) (v : Word) : (s.setMirror i w v).mets = s.mets := rfl
@[simp] theorem State.setMirror_pq (s : State) (i w : Nat) (v : Word) : (s.setMirror i w v).pq = s.pq := rfl
@[simp] theorem State.setMirror_stnPorts (s : State) (i w : Nat) (v : Word) : (s.setMirror i w v).stnPorts = s.stnPorts := rfl
@[simp] theorem State.setMirror_stn (s : State) (i w : Nat) (v : Word) : (s.setMirror i w v).stn = s.stn := rfl
@[simp] theorem State.setMirror_subs (s : State) (i w : Nat) (v : Word) : (s.setMirror i w v).subs = s.subs := rfl
@[simp] theorem State.setMirror_pubs (s : State) (i w : Nat) (v : Word) : (s.setMirror i w v).pubs = s.pubs := rfl
@[simp] theorem State.setMirror_idm (s : State) (i w : Nat) (v : Word) : (s.setMirror i w v).idm = s.idm := rfl
@[simp] theorem State.setMirror_auxs (s : State) (i w : Nat) (v : Word) : (s.setMirror i w v).auxs = s.auxs := rfl

@[simp] theorem State.logE_pending (s : State) (c : Nat) (b : Option Nat) (p : Nat) (h : Word) (d : List (Nat × Nat)) : (s.logE c b p h d).pending = s.pending := rfl
@[simp] theorem State.logE_freeCtr (s : State) (c : Nat) (b : Option Nat) (p : Nat) (h : Word) (d : List (Nat × Nat)) : (s.logE c b p h d).freeCtr = s.freeCtr := rfl
@[simp] theorem State.logE_pw (s : State) (c : Nat) (b : Option Nat) (p : Nat) (h : Word) (d : List (Nat × Nat)) : (s.logE c b p h d).pw = s.pw := rfl
@[simp] theorem State.logE_clk (s : State) (c : Nat) (b : Option Nat) (p : Nat) (h : Word) (d : List (Nat × Nat)) : (s.logE c b p h d).clk = s.clk := rfl
@[simp] theorem State.logE_grd (s : State) (c : Nat) (b : Option Nat) (p : Nat) (h : Word) (d : List (Nat × Nat)) : (s.logE c b p h d).grd = s.grd := rfl
@[simp] theorem State.logE_kp (s : State) (c : Nat) (b : Option Nat) (p : Nat) (h : Word) (d : List (Nat × Nat)) : (s.logE c b p h d).kp = s.kp := rfl
@[simp] theorem State.logE_regs (s : State) (c : Nat) (b : Option Nat) (p : Nat) (h : Word) (d : List (Nat × Nat)) : (s.logE c b p h d).regs = s.regs := rfl
@[simp] theorem State.logE_shadow (s : State) (c : Nat) (b : Option Nat) (p : Nat) (h : Word) (d : List (Nat × Nat)) : (s.logE c b p h d).shadow = s.shadow := rfl
@[simp] theorem State.logE_snap (s : State) (c : Nat) (b : Option Nat) (p : Nat) (h : Word) (d : List (Nat × Nat)) : (s.logE c b p h d).snap = s.snap := rfl
@[simp] theorem State.logE_mem (s : State) (c : Nat) (b : Option Nat) (p : Nat) (h : Word) (d : List (Nat × Nat)) : (s.logE c b p h d).mem = s.mem := rfl
@[simp] theorem State.logE_sump (s : State) (c : Nat) (b : Option Nat) (p : Nat) (h : Word) (d : List (Nat × Nat)) : (s.logE c b p h d).sump = s.sump := rfl
@[simp] theorem State.logE_mirror (s : State) (c : Nat) (b : Option Nat) (p : Nat) (h : Word) (d : List (Nat × Nat)) : (s.logE c b p h d).mirror = s.mirror := rfl
@[simp] theorem State.logE_tst (s : State) (c : Nat) (b : Option Nat) (p : Nat) (h : Word) (d : List (Nat × Nat)) : (s.logE c b p h d).tst = s.tst := rfl
@[simp] theorem State.logE_pump (s : State) (c : Nat) (b : Option Nat) (p : Nat) (h : Word) (d : List (Nat × Nat)) : (s.logE c b p h d).pump = s.pump := rfl
@[simp] theorem State.logE_tab (s : State) (c : Nat) (b : Option Nat) (p : Nat) (h : Word) (d : List (Nat × Nat)) : (s.logE c b p h d).tab = s.tab := rfl
@[simp] theorem State.logE_chans (s : State) (c : Nat) (b : Option Nat) (p : Nat) (h : Word) (d : List (Nat × Nat)) : (s.logE c b p h d).chans = s.chans := rfl
@[simp] theorem State.logE_drainJob (s : State) (c : Nat) (b : Option Nat) (p : Nat) (h : Word) (d : List (Nat × Nat)) : (s.logE c b p h d).drainJob = s.drainJob := rfl
@[simp] theorem State.logE_bandWritten (s : State) (c : Nat) (b : Option Nat) (p : Nat) (h : Word) (d : List (Nat × Nat)) : (s.logE c b p h d).bandWritten = s.bandWritten := rfl
@[simp] theorem State.logE_profs (s : State) (c : Nat) (b : Option Nat) (p : Nat) (h : Word) (d : List (Nat × Nat)) : (s.logE c b p h d).profs = s.profs := rfl
@[simp] theorem State.logE_trks (s : State) (c : Nat) (b : Option Nat) (p : Nat) (h : Word) (d : List (Nat × Nat)) : (s.logE c b p h d).trks = s.trks := rfl
@[simp] theorem State.logE_sync (s : State) (c : Nat) (b : Option Nat) (p : Nat) (h : Word) (d : List (Nat × Nat)) : (s.logE c b p h d).sync = s.sync := rfl
@[simp] theorem State.logE_ride (s : State) (c : Nat) (b : Option Nat) (p : Nat) (h : Word) (d : List (Nat × Nat)) : (s.logE c b p h d).ride = s.ride := rfl
@[simp] theorem State.logE_isld (s : State) (c : Nat) (b : Option Nat) (p : Nat) (h : Word) (d : List (Nat × Nat)) : (s.logE c b p h d).isld = s.isld := rfl
@[simp] theorem State.logE_pwm (s : State) (c : Nat) (b : Option Nat) (p : Nat) (h : Word) (d : List (Nat × Nat)) : (s.logE c b p h d).pwm = s.pwm := rfl
@[simp] theorem State.logE_syncOut (s : State) (c : Nat) (b : Option Nat) (p : Nat) (h : Word) (d : List (Nat × Nat)) : (s.logE c b p h d).syncOut = s.syncOut := rfl
@[simp] theorem State.logE_isls (s : State) (c : Nat) (b : Option Nat) (p : Nat) (h : Word) (d : List (Nat × Nat)) : (s.logE c b p h d).isls = s.isls := rfl
@[simp] theorem State.logE_ilkE0 (s : State) (c : Nat) (b : Option Nat) (p : Nat) (h : Word) (d : List (Nat × Nat)) : (s.logE c b p h d).ilkE0 = s.ilkE0 := rfl
@[simp] theorem State.logE_faultAt (s : State) (c : Nat) (b : Option Nat) (p : Nat) (h : Word) (d : List (Nat × Nat)) : (s.logE c b p h d).faultAt = s.faultAt := rfl
@[simp] theorem State.logE_adc (s : State) (c : Nat) (b : Option Nat) (p : Nat) (h : Word) (d : List (Nat × Nat)) : (s.logE c b p h d).adc = s.adc := rfl
@[simp] theorem State.logE_cmpF (s : State) (c : Nat) (b : Option Nat) (p : Nat) (h : Word) (d : List (Nat × Nat)) : (s.logE c b p h d).cmpF = s.cmpF := rfl
@[simp] theorem State.logE_lvTick (s : State) (c : Nat) (b : Option Nat) (p : Nat) (h : Word) (d : List (Nat × Nat)) : (s.logE c b p h d).lvTick = s.lvTick := rfl
@[simp] theorem State.logE_lvSnap (s : State) (c : Nat) (b : Option Nat) (p : Nat) (h : Word) (d : List (Nat × Nat)) : (s.logE c b p h d).lvSnap = s.lvSnap := rfl
@[simp] theorem State.logE_lvDone (s : State) (c : Nat) (b : Option Nat) (p : Nat) (h : Word) (d : List (Nat × Nat)) : (s.logE c b p h d).lvDone = s.lvDone := rfl
@[simp] theorem State.logE_lanes (s : State) (c : Nat) (b : Option Nat) (p : Nat) (h : Word) (d : List (Nat × Nat)) : (s.logE c b p h d).lanes = s.lanes := rfl
@[simp] theorem State.logE_rings (s : State) (c : Nat) (b : Option Nat) (p : Nat) (h : Word) (d : List (Nat × Nat)) : (s.logE c b p h d).rings = s.rings := rfl
@[simp] theorem State.logE_dirs (s : State) (c : Nat) (b : Option Nat) (p : Nat) (h : Word) (d : List (Nat × Nat)) : (s.logE c b p h d).dirs = s.dirs := rfl
@[simp] theorem State.logE_plan (s : State) (c : Nat) (b : Option Nat) (p : Nat) (h : Word) (d : List (Nat × Nat)) : (s.logE c b p h d).plan = s.plan := rfl
@[simp] theorem State.logE_stb (s : State) (c : Nat) (b : Option Nat) (p : Nat) (h : Word) (d : List (Nat × Nat)) : (s.logE c b p h d).stb = s.stb := rfl
@[simp] theorem State.logE_cell (s : State) (c : Nat) (b : Option Nat) (p : Nat) (h : Word) (d : List (Nat × Nat)) : (s.logE c b p h d).cell = s.cell := rfl
@[simp] theorem State.logE_mets (s : State) (c : Nat) (b : Option Nat) (p : Nat) (h : Word) (d : List (Nat × Nat)) : (s.logE c b p h d).mets = s.mets := rfl
@[simp] theorem State.logE_pq (s : State) (c : Nat) (b : Option Nat) (p : Nat) (h : Word) (d : List (Nat × Nat)) : (s.logE c b p h d).pq = s.pq := rfl
@[simp] theorem State.logE_stnPorts (s : State) (c : Nat) (b : Option Nat) (p : Nat) (h : Word) (d : List (Nat × Nat)) : (s.logE c b p h d).stnPorts = s.stnPorts := rfl
@[simp] theorem State.logE_stn (s : State) (c : Nat) (b : Option Nat) (p : Nat) (h : Word) (d : List (Nat × Nat)) : (s.logE c b p h d).stn = s.stn := rfl
@[simp] theorem State.logE_subs (s : State) (c : Nat) (b : Option Nat) (p : Nat) (h : Word) (d : List (Nat × Nat)) : (s.logE c b p h d).subs = s.subs := rfl
@[simp] theorem State.logE_pubs (s : State) (c : Nat) (b : Option Nat) (p : Nat) (h : Word) (d : List (Nat × Nat)) : (s.logE c b p h d).pubs = s.pubs := rfl
@[simp] theorem State.logE_idm (s : State) (c : Nat) (b : Option Nat) (p : Nat) (h : Word) (d : List (Nat × Nat)) : (s.logE c b p h d).idm = s.idm := rfl
@[simp] theorem State.logE_auxs (s : State) (c : Nat) (b : Option Nat) (p : Nat) (h : Word) (d : List (Nat × Nat)) : (s.logE c b p h d).auxs = s.auxs := rfl

@[simp] theorem State.elapse_pending (s : State) (n : Nat) : (s.elapse n).pending = s.pending := rfl
@[simp] theorem State.elapse_freeCtr (s : State) (n : Nat) : (s.elapse n).freeCtr = s.freeCtr := rfl
@[simp] theorem State.elapse_pw (s : State) (n : Nat) : (s.elapse n).pw = s.pw := rfl
@[simp] theorem State.elapse_grd (s : State) (n : Nat) : (s.elapse n).grd = s.grd := rfl
@[simp] theorem State.elapse_kp (s : State) (n : Nat) : (s.elapse n).kp = s.kp := rfl
@[simp] theorem State.elapse_regs (s : State) (n : Nat) : (s.elapse n).regs = s.regs := rfl
@[simp] theorem State.elapse_shadow (s : State) (n : Nat) : (s.elapse n).shadow = s.shadow := rfl
@[simp] theorem State.elapse_snap (s : State) (n : Nat) : (s.elapse n).snap = s.snap := rfl
@[simp] theorem State.elapse_mem (s : State) (n : Nat) : (s.elapse n).mem = s.mem := rfl
@[simp] theorem State.elapse_sump (s : State) (n : Nat) : (s.elapse n).sump = s.sump := rfl
@[simp] theorem State.elapse_mirror (s : State) (n : Nat) : (s.elapse n).mirror = s.mirror := rfl
@[simp] theorem State.elapse_logq (s : State) (n : Nat) : (s.elapse n).logq = s.logq := rfl
@[simp] theorem State.elapse_tst (s : State) (n : Nat) : (s.elapse n).tst = s.tst := rfl
@[simp] theorem State.elapse_pump (s : State) (n : Nat) : (s.elapse n).pump = s.pump := rfl
@[simp] theorem State.elapse_tab (s : State) (n : Nat) : (s.elapse n).tab = s.tab := rfl
@[simp] theorem State.elapse_chans (s : State) (n : Nat) : (s.elapse n).chans = s.chans := rfl
@[simp] theorem State.elapse_drainJob (s : State) (n : Nat) : (s.elapse n).drainJob = s.drainJob := rfl
@[simp] theorem State.elapse_bandWritten (s : State) (n : Nat) : (s.elapse n).bandWritten = s.bandWritten := rfl
@[simp] theorem State.elapse_profs (s : State) (n : Nat) : (s.elapse n).profs = s.profs := rfl
@[simp] theorem State.elapse_trks (s : State) (n : Nat) : (s.elapse n).trks = s.trks := rfl
@[simp] theorem State.elapse_sync (s : State) (n : Nat) : (s.elapse n).sync = s.sync := rfl
@[simp] theorem State.elapse_ride (s : State) (n : Nat) : (s.elapse n).ride = s.ride := rfl
@[simp] theorem State.elapse_isld (s : State) (n : Nat) : (s.elapse n).isld = s.isld := rfl
@[simp] theorem State.elapse_pwm (s : State) (n : Nat) : (s.elapse n).pwm = s.pwm := rfl
@[simp] theorem State.elapse_syncOut (s : State) (n : Nat) : (s.elapse n).syncOut = s.syncOut := rfl
@[simp] theorem State.elapse_isls (s : State) (n : Nat) : (s.elapse n).isls = s.isls := rfl
@[simp] theorem State.elapse_ilkE0 (s : State) (n : Nat) : (s.elapse n).ilkE0 = s.ilkE0 := rfl
@[simp] theorem State.elapse_faultAt (s : State) (n : Nat) : (s.elapse n).faultAt = s.faultAt := rfl
@[simp] theorem State.elapse_adc (s : State) (n : Nat) : (s.elapse n).adc = s.adc := rfl
@[simp] theorem State.elapse_cmpF (s : State) (n : Nat) : (s.elapse n).cmpF = s.cmpF := rfl
@[simp] theorem State.elapse_lvTick (s : State) (n : Nat) : (s.elapse n).lvTick = s.lvTick := rfl
@[simp] theorem State.elapse_lvSnap (s : State) (n : Nat) : (s.elapse n).lvSnap = s.lvSnap := rfl
@[simp] theorem State.elapse_lvDone (s : State) (n : Nat) : (s.elapse n).lvDone = s.lvDone := rfl
@[simp] theorem State.elapse_lanes (s : State) (n : Nat) : (s.elapse n).lanes = s.lanes := rfl
@[simp] theorem State.elapse_rings (s : State) (n : Nat) : (s.elapse n).rings = s.rings := rfl
@[simp] theorem State.elapse_dirs (s : State) (n : Nat) : (s.elapse n).dirs = s.dirs := rfl
@[simp] theorem State.elapse_plan (s : State) (n : Nat) : (s.elapse n).plan = s.plan := rfl
@[simp] theorem State.elapse_stb (s : State) (n : Nat) : (s.elapse n).stb = s.stb := rfl
@[simp] theorem State.elapse_cell (s : State) (n : Nat) : (s.elapse n).cell = s.cell := rfl
@[simp] theorem State.elapse_mets (s : State) (n : Nat) : (s.elapse n).mets = s.mets := rfl
@[simp] theorem State.elapse_pq (s : State) (n : Nat) : (s.elapse n).pq = s.pq := rfl
@[simp] theorem State.elapse_stnPorts (s : State) (n : Nat) : (s.elapse n).stnPorts = s.stnPorts := rfl
@[simp] theorem State.elapse_stn (s : State) (n : Nat) : (s.elapse n).stn = s.stn := rfl
@[simp] theorem State.elapse_subs (s : State) (n : Nat) : (s.elapse n).subs = s.subs := rfl
@[simp] theorem State.elapse_pubs (s : State) (n : Nat) : (s.elapse n).pubs = s.pubs := rfl
@[simp] theorem State.elapse_idm (s : State) (n : Nat) : (s.elapse n).idm = s.idm := rfl
@[simp] theorem State.elapse_auxs (s : State) (n : Nat) : (s.elapse n).auxs = s.auxs := rfl

@[simp] theorem State.advanceTo_pending (s : State) (n : Nat) : (s.advanceTo n).pending = s.pending := rfl
@[simp] theorem State.advanceTo_freeCtr (s : State) (n : Nat) : (s.advanceTo n).freeCtr = s.freeCtr := rfl
@[simp] theorem State.advanceTo_pw (s : State) (n : Nat) : (s.advanceTo n).pw = s.pw := rfl
@[simp] theorem State.advanceTo_grd (s : State) (n : Nat) : (s.advanceTo n).grd = s.grd := rfl
@[simp] theorem State.advanceTo_kp (s : State) (n : Nat) : (s.advanceTo n).kp = s.kp := rfl
@[simp] theorem State.advanceTo_regs (s : State) (n : Nat) : (s.advanceTo n).regs = s.regs := rfl
@[simp] theorem State.advanceTo_shadow (s : State) (n : Nat) : (s.advanceTo n).shadow = s.shadow := rfl
@[simp] theorem State.advanceTo_snap (s : State) (n : Nat) : (s.advanceTo n).snap = s.snap := rfl
@[simp] theorem State.advanceTo_mem (s : State) (n : Nat) : (s.advanceTo n).mem = s.mem := rfl
@[simp] theorem State.advanceTo_sump (s : State) (n : Nat) : (s.advanceTo n).sump = s.sump := rfl
@[simp] theorem State.advanceTo_mirror (s : State) (n : Nat) : (s.advanceTo n).mirror = s.mirror := rfl
@[simp] theorem State.advanceTo_logq (s : State) (n : Nat) : (s.advanceTo n).logq = s.logq := rfl
@[simp] theorem State.advanceTo_tst (s : State) (n : Nat) : (s.advanceTo n).tst = s.tst := rfl
@[simp] theorem State.advanceTo_pump (s : State) (n : Nat) : (s.advanceTo n).pump = s.pump := rfl
@[simp] theorem State.advanceTo_tab (s : State) (n : Nat) : (s.advanceTo n).tab = s.tab := rfl
@[simp] theorem State.advanceTo_chans (s : State) (n : Nat) : (s.advanceTo n).chans = s.chans := rfl
@[simp] theorem State.advanceTo_drainJob (s : State) (n : Nat) : (s.advanceTo n).drainJob = s.drainJob := rfl
@[simp] theorem State.advanceTo_bandWritten (s : State) (n : Nat) : (s.advanceTo n).bandWritten = s.bandWritten := rfl
@[simp] theorem State.advanceTo_profs (s : State) (n : Nat) : (s.advanceTo n).profs = s.profs := rfl
@[simp] theorem State.advanceTo_trks (s : State) (n : Nat) : (s.advanceTo n).trks = s.trks := rfl
@[simp] theorem State.advanceTo_sync (s : State) (n : Nat) : (s.advanceTo n).sync = s.sync := rfl
@[simp] theorem State.advanceTo_ride (s : State) (n : Nat) : (s.advanceTo n).ride = s.ride := rfl
@[simp] theorem State.advanceTo_isld (s : State) (n : Nat) : (s.advanceTo n).isld = s.isld := rfl
@[simp] theorem State.advanceTo_pwm (s : State) (n : Nat) : (s.advanceTo n).pwm = s.pwm := rfl
@[simp] theorem State.advanceTo_syncOut (s : State) (n : Nat) : (s.advanceTo n).syncOut = s.syncOut := rfl
@[simp] theorem State.advanceTo_isls (s : State) (n : Nat) : (s.advanceTo n).isls = s.isls := rfl
@[simp] theorem State.advanceTo_ilkE0 (s : State) (n : Nat) : (s.advanceTo n).ilkE0 = s.ilkE0 := rfl
@[simp] theorem State.advanceTo_faultAt (s : State) (n : Nat) : (s.advanceTo n).faultAt = s.faultAt := rfl
@[simp] theorem State.advanceTo_adc (s : State) (n : Nat) : (s.advanceTo n).adc = s.adc := rfl
@[simp] theorem State.advanceTo_cmpF (s : State) (n : Nat) : (s.advanceTo n).cmpF = s.cmpF := rfl
@[simp] theorem State.advanceTo_lvTick (s : State) (n : Nat) : (s.advanceTo n).lvTick = s.lvTick := rfl
@[simp] theorem State.advanceTo_lvSnap (s : State) (n : Nat) : (s.advanceTo n).lvSnap = s.lvSnap := rfl
@[simp] theorem State.advanceTo_lvDone (s : State) (n : Nat) : (s.advanceTo n).lvDone = s.lvDone := rfl
@[simp] theorem State.advanceTo_lanes (s : State) (n : Nat) : (s.advanceTo n).lanes = s.lanes := rfl
@[simp] theorem State.advanceTo_rings (s : State) (n : Nat) : (s.advanceTo n).rings = s.rings := rfl
@[simp] theorem State.advanceTo_dirs (s : State) (n : Nat) : (s.advanceTo n).dirs = s.dirs := rfl
@[simp] theorem State.advanceTo_plan (s : State) (n : Nat) : (s.advanceTo n).plan = s.plan := rfl
@[simp] theorem State.advanceTo_stb (s : State) (n : Nat) : (s.advanceTo n).stb = s.stb := rfl
@[simp] theorem State.advanceTo_cell (s : State) (n : Nat) : (s.advanceTo n).cell = s.cell := rfl
@[simp] theorem State.advanceTo_mets (s : State) (n : Nat) : (s.advanceTo n).mets = s.mets := rfl
@[simp] theorem State.advanceTo_pq (s : State) (n : Nat) : (s.advanceTo n).pq = s.pq := rfl
@[simp] theorem State.advanceTo_stnPorts (s : State) (n : Nat) : (s.advanceTo n).stnPorts = s.stnPorts := rfl
@[simp] theorem State.advanceTo_stn (s : State) (n : Nat) : (s.advanceTo n).stn = s.stn := rfl
@[simp] theorem State.advanceTo_subs (s : State) (n : Nat) : (s.advanceTo n).subs = s.subs := rfl
@[simp] theorem State.advanceTo_pubs (s : State) (n : Nat) : (s.advanceTo n).pubs = s.pubs := rfl
@[simp] theorem State.advanceTo_idm (s : State) (n : Nat) : (s.advanceTo n).idm = s.idm := rfl
@[simp] theorem State.advanceTo_auxs (s : State) (n : Nat) : (s.advanceTo n).auxs = s.auxs := rfl

/-! ## Registers -/

/-- A record update of another field drops out of a register read by this and `getR_fold`. -/
@[simp] theorem State.getR_mk {p x1 x2 x3 g k r x7 x8 m u n x12 x13 x14 x15 x16 x17 x18 x19 x20 x21 x22 x23 x24 x25 x26 x27 x28 x29 x30 x31 x32 x33 x34 x35 x36 x37 x38 x39 x40 x41 x42 x43 x44 x45 x46 x47} (a : Nat) :
    (State.mk p x1 x2 x3 g k r x7 x8 m u n x12 x13 x14 x15 x16 x17 x18 x19 x20 x21 x22 x23 x24 x25 x26 x27 x28 x29 x30 x31 x32 x33 x34 x35 x36 x37 x38 x39 x40 x41 x42 x43 x44 x45 x46 x47).getR a = SMap.get (resetWord a) a r := rfl

@[simp] theorem State.getR_fold (s : State) (a : Nat) : SMap.get (resetWord a) a s.regs = s.getR a := rfl

theorem State.modR_eq (s : State) (a : Nat) (f : Word → Word) : s.modR a f = s.setR a (f (s.getR a)) := rfl

theorem State.setF_eq (s : State) (a lo len v : Nat) : s.setF a lo len v = s.setR a (putFld (s.getR a) lo len v) := rfl

theorem State.setB_eq (s : State) (a i : Nat) (b : Bool) : s.setB a i b = s.setR a (putBit (s.getR a) i b) := rfl

theorem State.incSat_eq (s : State) (a : Nat) :
    s.incSat a = s.setR a (if s.getR a = 0xFFFFFFFF then s.getR a else s.getR a + 1) := rfl

theorem State.incMod_eq (s : State) (a : Nat) : s.incMod a = s.setR a (s.getR a + 1) := rfl

theorem State.irq_eq (s : State) (p b : Nat) : s.irq p b = s.setR (Hdr.IRQ_RAW p) (putBit (s.getR (Hdr.IRQ_RAW p)) b true) := rfl

theorem State.refuse_eq (s : State) (p : Nat) :
    s.refuse p = s.setR (Hdr.EVENT_CNT p)
      (putFld (s.getR (Hdr.EVENT_CNT p)) 0 16 (satInc 16 (fld (s.getR (Hdr.EVENT_CNT p)) 0 16))) := rfl

theorem State.blockEv_eq (s : State) (p : Nat) :
    s.blockEv p = s.setR (Hdr.EVENT_CNT p)
      (putFld (s.getR (Hdr.EVENT_CNT p)) 16 16 (satInc 16 (fld (s.getR (Hdr.EVENT_CNT p)) 16 16))) := rfl

@[simp] theorem State.getR_modR_ne (s : State) {a k : Nat} (f : Word → Word) (h : k ≠ a) : (s.modR a f).getR k = s.getR k :=
  State.getR_setR_ne s _ h
@[simp] theorem State.getR_setF_ne (s : State) {a k : Nat} (lo len v : Nat) (h : k ≠ a) : (s.setF a lo len v).getR k = s.getR k :=
  State.getR_setR_ne s _ h
@[simp] theorem State.getR_setB_ne (s : State) {a k : Nat} (i : Nat) (b : Bool) (h : k ≠ a) : (s.setB a i b).getR k = s.getR k :=
  State.getR_setR_ne s _ h
@[simp] theorem State.getR_incSat_ne (s : State) {a k : Nat} (h : k ≠ a) : (s.incSat a).getR k = s.getR k := State.getR_setR_ne s _ h
@[simp] theorem State.getR_incMod_ne (s : State) {a k : Nat} (h : k ≠ a) : (s.incMod a).getR k = s.getR k := State.getR_setR_ne s _ h
@[simp] theorem State.getR_irq_ne (s : State) {p b k : Nat} (h : k ≠ Hdr.IRQ_RAW p) : (s.irq p b).getR k = s.getR k :=
  State.getR_setR_ne s _ h
@[simp] theorem State.getR_refuse_ne (s : State) {p k : Nat} (h : k ≠ Hdr.EVENT_CNT p) : (s.refuse p).getR k = s.getR k :=
  State.getR_setR_ne s _ h
@[simp] theorem State.getR_blockEv_ne (s : State) {p k : Nat} (h : k ≠ Hdr.EVENT_CNT p) : (s.blockEv p).getR k = s.getR k :=
  State.getR_setR_ne s _ h
@[simp] theorem State.getR_logE (s : State) (c : Nat) (b : Option Nat) (p : Nat) (h : Word) (d : List (Nat × Nat)) (k : Nat) :
    (s.logE c b p h d).getR k = s.getR k := rfl
@[simp] theorem State.getR_elapse (s : State) (n k : Nat) : (s.elapse n).getR k = s.getR k := rfl
@[simp] theorem State.getR_advanceTo (s : State) (n k : Nat) : (s.advanceTo n).getR k = s.getR k := rfl

/-! ### What was written is read -/

theorem State.getR_modR_eq {s : State} (a : Nat) (f : Word → Word) :
    (s.modR a f).getR a = f (s.getR a) := s.getR_setR_eq a _

theorem State.getF_setF_eq {s : State} (a : Nat) {lo len : Nat} (v : Nat) (hl : lo + len ≤ 32) :
    (s.setF a lo len v).getF a lo len = v % 2 ^ len := by
  rw [State.setF_eq, State.getF, State.getR_setR_eq, fld_putFld _ hl]

theorem State.getB_setB_eq {s : State} (a : Nat) {i : Nat} (b : Bool) (hi : i < 32) :
    (s.setB a i b).getB a i = b := by
  rw [State.setB_eq, State.getB, State.getR_setR_eq, bit_putBit _ hi]

theorem State.getB_irq_eq {s : State} (p : Nat) {b : Nat} (hb : b < 32) :
    (s.irq p b).getB (Hdr.IRQ_RAW p) b = true := State.getB_setB_eq _ true hb

theorem State.getR_incSat_eq {s : State} (a : Nat) :
    (s.incSat a).getR a = if s.getR a = 0xFFFFFFFF then s.getR a else s.getR a + 1 := s.getR_setR_eq a _

theorem State.getR_incMod_eq {s : State} (a : Nat) : (s.incMod a).getR a = s.getR a + 1 :=
  s.getR_setR_eq a _

theorem State.setR_wf {s : State} (a : Nat) (v : Word) (h : SMap.wf resetWord s.regs = true) :
    SMap.wf resetWord (s.setR a v).regs = true := SMap.wf_set a v h

/-! ## Bytes -/

@[simp] theorem State.memB_setR (s : State) (a : Nat) (v : Word) (k : Nat) : (s.setR a v).memB k = s.memB k := rfl
@[simp] theorem State.memB_elapse (s : State) (n k : Nat) : (s.elapse n).memB k = s.memB k := rfl
@[simp] theorem State.memB_logE (s : State) (c : Nat) (b : Option Nat) (p : Nat) (h : Word) (d : List (Nat × Nat)) (k : Nat) :
    (s.logE c b p h d).memB k = s.memB k := rfl

end Sys2Proof.Machine
end

