-- ==== Sys2Proof/Laws/Log.lean ====
section
/-! SUPPORT. What writing the log at the end of a command may change. -/
namespace Sys2Proof.Machine
open Sys2Proof

/-- `t` is `s` but for what writing entries of the log may change. -/
structure LogOf (s t : State) : Prop where
  same : t = { s with mem := t.mem, regs := t.regs, kp := { s.kp with pq := t.kp.pq } }
  regs : ∀ a, a ∉ logRegs → t.getR a = s.getR a
  mem : ∀ a, s.inVolRing a = false → t.memB a = s.memB a

theorem LogOf.refl (s : State) : LogOf s s := ⟨rfl, fun _ _ => rfl, fun _ _ => rfl⟩

theorem LogOf.volBase {s t : State} (h : LogOf s t) : t.getR Reg.LOG_VOL_BASE = s.getR Reg.LOG_VOL_BASE := h.regs _ (by decide)

theorem LogOf.ring {s t : State} (h : LogOf s t) (a : Nat) : t.inVolRing a = s.inVolRing a := by
  unfold State.inVolRing State.getF
  rw [h.volBase]

theorem LogOf.trans {s t u : State} (h : LogOf s t) (k : LogOf t u) : LogOf s u where
  same := by
    have e := k.same
    rw [h.same] at e
    exact e
  regs a ha := (k.regs a ha).trans (h.regs a ha)
  mem a ha := (k.mem a (by rw [h.ring]; exact ha)).trans (h.mem a ha)

theorem LogOf.setR {s : State} {a : Nat} (v : Word) (ha : a ∈ logRegs) : LogOf s (s.setR a v) :=
  ⟨rfl, fun _ hb => State.getR_setR_ne s v (fun e => hb (e ▸ ha)), fun _ _ => rfl⟩

theorem leBytes_length (n v : Nat) : (leBytes n v).length = n := by
  induction n generalizing v with
  | zero => rfl
  | succ n ih => simp [leBytes, ih]

theorem padTo_length (n : Nat) (bs : List Byte) : (padTo n bs).length = n := by
  simp only [padTo, List.length_append, List.length_take, List.length_replicate]
  omega

theorem entryBytes_length (time seq cls : Nat) (b : Option Nat) (pg flags : Nat) (h : Word) (d : List Byte) :
    (entryBytes time seq cls b pg flags h d).length = 32 := by
  simp [entryBytes, leBytes_length, padTo_length]

theorem State.setMemBytes_same (s : State) (a : Nat) (bs : List Byte) : s.setMemBytes a bs = { s with mem := (s.setMemBytes a bs).mem } := by
  induction bs generalizing s a with
  | nil => rfl
  | cons b bs ih => rw [State.setMemBytes, ih (s.setMemB a b)]; rfl

theorem LogOf.setMemBytes {s : State} {a : Nat} {bs : List Byte} (h : ∀ k, a ≤ k → k < a + bs.length → s.inVolRing k = true) :
    LogOf s (s.setMemBytes a bs) where
  same := by rw [State.setMemBytes_same s a bs]
  regs k _ := by
    have e := congrArg State.regs (State.setMemBytes_same s a bs)
    show SMap.get _ _ _ = _
    rw [e]; rfl
  mem k hk := by
    apply State.memB_setMemBytes_out
    rcases Nat.lt_or_ge k a with h1 | h1
    · exact .inl h1
    · refine .inr (Nat.le_of_not_lt fun h2 => ?_)
      rw [h k h1 h2] at hk
      exact Bool.noConfusion hk

theorem LogOf.volMakeRoom (s : State) : LogOf s s.volMakeRoom := by
  unfold State.volMakeRoom
  split
  · exact ((LogOf.setR _ (by decide)).trans (LogOf.setR _ (by decide))).trans (LogOf.setR _ (by decide))
  · exact LogOf.refl s

theorem LogOf.putEntry {s : State} {cls : Nat} {e : List Byte} (he : e.length = 32) : LogOf s (s.putEntry cls e) := by
  unfold State.putEntry
  simp only []
  refine (LogOf.volMakeRoom s).trans ?_
  generalize s.volMakeRoom = s1
  have h2 : LogOf s1 (s1.setMemBytes (sramBase + 4 * (s1.getF Reg.LOG_VOL_BASE 0 18) + 32 * (s1.getF Reg.LOG_VOL_WR 0 13 % 4096)) e) := by
    apply LogOf.setMemBytes
    intro k h1 h2
    have : s1.getF Reg.LOG_VOL_WR 0 13 % 4096 < 4096 := Nat.mod_lt _ (by decide)
    simp only [State.inVolRing, Bool.and_eq_true, decide_eq_true_eq]
    omega
  revert h2
  generalize s1.setMemBytes _ e = s2
  intro h2
  refine h2.trans ?_
  have h3 : LogOf s2 ((s2.setF Reg.LOG_VOL_WR 0 13 (s1.getF Reg.LOG_VOL_WR 0 13 + 1)).incMod Reg.LOG_SEQ_NEXT) :=
    (LogOf.setR _ (by decide)).trans (LogOf.setR _ (by decide))
  revert h3
  generalize (s2.setF Reg.LOG_VOL_WR 0 13 (s1.getF Reg.LOG_VOL_WR 0 13 + 1)).incMod Reg.LOG_SEQ_NEXT = s3
  intro h3
  refine h3.trans ?_
  have h4 : ∀ c, LogOf s3 (s3.irqIf c Pg.LOG 0) := by
    intro c
    unfold State.irqIf
    split
    · exact LogOf.setR _ (by decide)
    · exact LogOf.refl s3
  have h5 : ∀ t : State, LogOf t (if persistent cls = true then { t with kp := { t.kp with pq := t.kp.pq ++ [packPersistent e] } } else t) := by
    intro t
    split
    · exact ⟨rfl, fun _ _ => rfl, fun _ _ => rfl⟩
    · exact LogOf.refl t
  exact (h4 _).trans (h5 _)

theorem LogOf.putEntries (s : State) (cls : Nat) (b : Option Nat) (pg : Nat) (h : Word) (time flags : Nat) (ds : List (List Byte)) :
    LogOf s (s.putEntries cls b pg h time flags ds) := by
  induction ds generalizing s flags with
  | nil => exact LogOf.refl s
  | cons d ds ih => exact (LogOf.putEntry (entryBytes_length _ _ _ _ _ _ _ _)).trans (ih _ _)

theorem LogOf.writeNotes (s : State) (l : List LogNote) : LogOf s (s.writeNotes l) := by
  induction l generalizing s with
  | nil => exact LogOf.refl s
  | cons n l ih => exact (LogOf.putEntries _ _ _ _ _ _ _ _).trans (ih _)

/-- The end of a command changes only what writing the log may change, and no log note outlives it. -/
theorem State.flushLog_logOf (s : State) : LogOf { s with logq := [] } s.flushLog := by
  unfold State.flushLog
  split
  · rename_i h
    have e : { s with logq := [] } = s := by rw [← h]
    rw [e]
    exact LogOf.refl s
  · exact LogOf.writeNotes _ _

/-- A command that noted nothing writes nothing. -/
theorem State.flushLog_nil {s : State} (h : s.logq = []) : s.flushLog = s := by
  unfold State.flushLog
  rw [h]

/-- No log note outlives a command. -/
@[simp] theorem State.flushLog_logq (s : State) : s.flushLog.logq = [] := by rw [s.flushLog_logOf.same]

@[simp] theorem State.flushLog_pending (s : State) : s.flushLog.pending = s.pending := by rw [s.flushLog_logOf.same]
@[simp] theorem State.flushLog_freeCtr (s : State) : s.flushLog.freeCtr = s.freeCtr := by rw [s.flushLog_logOf.same]
@[simp] theorem State.flushLog_pw (s : State) : s.flushLog.pw = s.pw := by rw [s.flushLog_logOf.same]
@[simp] theorem State.flushLog_clk (s : State) : s.flushLog.clk = s.clk := by rw [s.flushLog_logOf.same]
@[simp] theorem State.flushLog_grd (s : State) : s.flushLog.grd = s.grd := by rw [s.flushLog_logOf.same]
@[simp] theorem State.flushLog_shadow (s : State) : s.flushLog.shadow = s.shadow := by rw [s.flushLog_logOf.same]
@[simp] theorem State.flushLog_snap (s : State) : s.flushLog.snap = s.snap := by rw [s.flushLog_logOf.same]
@[simp] theorem State.flushLog_sump (s : State) : s.flushLog.sump = s.sump := by rw [s.flushLog_logOf.same]
@[simp] theorem State.flushLog_mirror (s : State) : s.flushLog.mirror = s.mirror := by rw [s.flushLog_logOf.same]
@[simp] theorem State.flushLog_tst (s : State) : s.flushLog.tst = s.tst := by rw [s.flushLog_logOf.same]
@[simp] theorem State.flushLog_pump (s : State) : s.flushLog.pump = s.pump := by rw [s.flushLog_logOf.same]
@[simp] theorem State.flushLog_tab (s : State) : s.flushLog.tab = s.tab := by rw [s.flushLog_logOf.same]
@[simp] theorem State.flushLog_chans (s : State) : s.flushLog.chans = s.chans := by rw [s.flushLog_logOf.same]
@[simp] theorem State.flushLog_drainJob (s : State) : s.flushLog.drainJob = s.drainJob := by rw [s.flushLog_logOf.same]
@[simp] theorem State.flushLog_bandWritten (s : State) : s.flushLog.bandWritten = s.bandWritten := by rw [s.flushLog_logOf.same]
@[simp] theorem State.flushLog_profs (s : State) : s.flushLog.profs = s.profs := by rw [s.flushLog_logOf.same]
@[simp] theorem State.flushLog_trks (s : State) : s.flushLog.trks = s.trks := by rw [s.flushLog_logOf.same]
@[simp] theorem State.flushLog_sync (s : State) : s.flushLog.sync = s.sync := by rw [s.flushLog_logOf.same]
@[simp] theorem State.flushLog_ride (s : State) : s.flushLog.ride = s.ride := by rw [s.flushLog_logOf.same]
@[simp] theorem State.flushLog_isld (s : State) : s.flushLog.isld = s.isld := by rw [s.flushLog_logOf.same]
@[simp] theorem State.flushLog_pwm (s : State) : s.flushLog.pwm = s.pwm := by rw [s.flushLog_logOf.same]
@[simp] theorem State.flushLog_syncOut (s : State) : s.flushLog.syncOut = s.syncOut := by rw [s.flushLog_logOf.same]
@[simp] theorem State.flushLog_isls (s : State) : s.flushLog.isls = s.isls := by rw [s.flushLog_logOf.same]
@[simp] theorem State.flushLog_ilkE0 (s : State) : s.flushLog.ilkE0 = s.ilkE0 := by rw [s.flushLog_logOf.same]
@[simp] theorem State.flushLog_faultAt (s : State) : s.flushLog.faultAt = s.faultAt := by rw [s.flushLog_logOf.same]
@[simp] theorem State.flushLog_adc (s : State) : s.flushLog.adc = s.adc := by rw [s.flushLog_logOf.same]
@[simp] theorem State.flushLog_cmpF (s : State) : s.flushLog.cmpF = s.cmpF := by rw [s.flushLog_logOf.same]
@[simp] theorem State.flushLog_lvTick (s : State) : s.flushLog.lvTick = s.lvTick := by rw [s.flushLog_logOf.same]
@[simp] theorem State.flushLog_lvSnap (s : State) : s.flushLog.lvSnap = s.lvSnap := by rw [s.flushLog_logOf.same]
@[simp] theorem State.flushLog_lvDone (s : State) : s.flushLog.lvDone = s.lvDone := by rw [s.flushLog_logOf.same]
@[simp] theorem State.flushLog_lanes (s : State) : s.flushLog.lanes = s.lanes := by rw [s.flushLog_logOf.same]
@[simp] theorem State.flushLog_rings (s : State) : s.flushLog.rings = s.rings := by rw [s.flushLog_logOf.same]
@[simp] theorem State.flushLog_dirs (s : State) : s.flushLog.dirs = s.dirs := by rw [s.flushLog_logOf.same]
@[simp] theorem State.flushLog_plan (s : State) : s.flushLog.plan = s.plan := by rw [s.flushLog_logOf.same]
@[simp] theorem State.flushLog_stb (s : State) : s.flushLog.stb = s.stb := by rw [s.flushLog_logOf.same]
@[simp] theorem State.flushLog_cell (s : State) : s.flushLog.cell = s.cell := by rw [s.flushLog_logOf.same]
@[simp] theorem State.flushLog_mets (s : State) : s.flushLog.mets = s.mets := by rw [s.flushLog_logOf.same]
@[simp] theorem State.flushLog_pq (s : State) : s.flushLog.pq = s.pq := by rw [s.flushLog_logOf.same]
@[simp] theorem State.flushLog_stnPorts (s : State) : s.flushLog.stnPorts = s.stnPorts := by rw [s.flushLog_logOf.same]
@[simp] theorem State.flushLog_stn (s : State) : s.flushLog.stn = s.stn := by rw [s.flushLog_logOf.same]
@[simp] theorem State.flushLog_subs (s : State) : s.flushLog.subs = s.subs := by rw [s.flushLog_logOf.same]
@[simp] theorem State.flushLog_pubs (s : State) : s.flushLog.pubs = s.pubs := by rw [s.flushLog_logOf.same]
@[simp] theorem State.flushLog_idm (s : State) : s.flushLog.idm = s.idm := by rw [s.flushLog_logOf.same]
@[simp] theorem State.flushLog_auxs (s : State) : s.flushLog.auxs = s.auxs := by rw [s.flushLog_logOf.same]

theorem State.flushLog_kp (s : State) : s.flushLog.kp = { s.kp with pq := s.flushLog.kp.pq } := congrArg State.kp s.flushLog_logOf.same

@[simp] theorem State.flushLog_grdRam (s : State) : s.flushLog.grd.ram = s.grd.ram := by rw [State.flushLog_grd]

@[simp] theorem State.getR_flushLog (s : State) {a : Nat} (h : a ∉ logRegs) : s.flushLog.getR a = s.getR a := s.flushLog_logOf.regs a h

@[simp] theorem State.memB_flushLog (s : State) {a : Nat} (h : s.inVolRing a = false) : s.flushLog.memB a = s.memB a :=
  s.flushLog_logOf.mem a h

end Sys2Proof.Machine
end

