-- ==== Sys2Proof/Laws/Slots.lean ====
section
/-! SUPPORT. A slot written reads as written, every other slot as before, and the registers do not change. -/
namespace Sys2Proof.Machine
open Sys2Proof

@[simp] theorem State.adcS_setAdc_eq (s : State) (n : Nat) (v : AdcState) : (s.setAdc n v).adcS n = v := SMap.get_set_eq _ n _ s.adc
@[simp] theorem State.adcS_setAdc_ne (s : State) {n k : Nat} (v : AdcState) (h : k ≠ n) : (s.setAdc n v).adcS k = s.adcS k := SMap.get_set_ne h _ _ _ s.adc
@[simp] theorem State.adcS_setR (s : State) (a : Nat) (w : Word) (n : Nat) : (s.setR a w).adcS n = s.adcS n := rfl
@[simp] theorem State.adcS_logE (s : State) (c : Nat) (b : Option Nat) (p : Nat) (h : Word) (d : List (Nat × Nat)) (n : Nat) :
    (s.logE c b p h d).adcS n = s.adcS n := rfl
@[simp] theorem State.getR_setAdc (s : State) (n : Nat) (v : AdcState) (a : Nat) : (s.setAdc n v).getR a = s.getR a := rfl

@[simp] theorem State.aux_modAux_eq (s : State) (n : Nat) (f : AuxPort → AuxPort) : (s.modAux n f).aux n = f (s.aux n) := SMap.get_set_eq _ n _ s.auxs
@[simp] theorem State.aux_modAux_ne (s : State) {n k : Nat} (f : AuxPort → AuxPort) (h : k ≠ n) : (s.modAux n f).aux k = s.aux k := SMap.get_set_ne h _ _ _ s.auxs
@[simp] theorem State.aux_setR (s : State) (a : Nat) (w : Word) (n : Nat) : (s.setR a w).aux n = s.aux n := rfl
@[simp] theorem State.aux_logE (s : State) (c : Nat) (b : Option Nat) (p : Nat) (h : Word) (d : List (Nat × Nat)) (n : Nat) :
    (s.logE c b p h d).aux n = s.aux n := rfl
@[simp] theorem State.getR_modAux (s : State) (n : Nat) (f : AuxPort → AuxPort) (a : Nat) : (s.modAux n f).getR a = s.getR a := rfl

@[simp] theorem State.chan_setChan_eq (s : State) (n : Nat) (v : ChanSlot) : (s.setChan n v).chan n = v := SMap.get_set_eq _ n _ s.chans
@[simp] theorem State.chan_setChan_ne (s : State) {n k : Nat} (v : ChanSlot) (h : k ≠ n) : (s.setChan n v).chan k = s.chan k := SMap.get_set_ne h _ _ _ s.chans
@[simp] theorem State.chan_setR (s : State) (a : Nat) (w : Word) (n : Nat) : (s.setR a w).chan n = s.chan n := rfl
@[simp] theorem State.chan_logE (s : State) (c : Nat) (b : Option Nat) (p : Nat) (h : Word) (d : List (Nat × Nat)) (n : Nat) :
    (s.logE c b p h d).chan n = s.chan n := rfl
@[simp] theorem State.getR_setChan (s : State) (n : Nat) (v : ChanSlot) (a : Nat) : (s.setChan n v).getR a = s.getR a := rfl

@[simp] theorem State.sub_setSub_eq (s : State) (n : Nat) (v : SubSlot) : (s.setSub n v).sub n = v := SMap.get_set_eq _ n _ s.subs
@[simp] theorem State.sub_setSub_ne (s : State) {n k : Nat} (v : SubSlot) (h : k ≠ n) : (s.setSub n v).sub k = s.sub k := SMap.get_set_ne h _ _ _ s.subs
@[simp] theorem State.sub_setR (s : State) (a : Nat) (w : Word) (n : Nat) : (s.setR a w).sub n = s.sub n := rfl
@[simp] theorem State.sub_logE (s : State) (c : Nat) (b : Option Nat) (p : Nat) (h : Word) (d : List (Nat × Nat)) (n : Nat) :
    (s.logE c b p h d).sub n = s.sub n := rfl
@[simp] theorem State.getR_setSub (s : State) (n : Nat) (v : SubSlot) (a : Nat) : (s.setSub n v).getR a = s.getR a := rfl

@[simp] theorem State.pub_setPub_eq (s : State) (n : Nat) (v : PubState) : (s.setPub n v).pub n = v := SMap.get_set_eq _ n _ s.pubs
@[simp] theorem State.pub_setPub_ne (s : State) {n k : Nat} (v : PubState) (h : k ≠ n) : (s.setPub n v).pub k = s.pub k := SMap.get_set_ne h _ _ _ s.pubs
@[simp] theorem State.pub_setR (s : State) (a : Nat) (w : Word) (n : Nat) : (s.setR a w).pub n = s.pub n := rfl
@[simp] theorem State.pub_logE (s : State) (c : Nat) (b : Option Nat) (p : Nat) (h : Word) (d : List (Nat × Nat)) (n : Nat) :
    (s.logE c b p h d).pub n = s.pub n := rfl
@[simp] theorem State.getR_setPub (s : State) (n : Nat) (v : PubState) (a : Nat) : (s.setPub n v).getR a = s.getR a := rfl

@[simp] theorem State.isl_modIsl_eq (s : State) (n : Nat) (f : Island → Island) : (s.modIsl n f).isl n = f (s.isl n) := SMap.get_set_eq _ n _ s.isls
@[simp] theorem State.isl_modIsl_ne (s : State) {n k : Nat} (f : Island → Island) (h : k ≠ n) : (s.modIsl n f).isl k = s.isl k := SMap.get_set_ne h _ _ _ s.isls
@[simp] theorem State.isl_setR (s : State) (a : Nat) (w : Word) (n : Nat) : (s.setR a w).isl n = s.isl n := rfl
@[simp] theorem State.isl_logE (s : State) (c : Nat) (b : Option Nat) (p : Nat) (h : Word) (d : List (Nat × Nat)) (n : Nat) :
    (s.logE c b p h d).isl n = s.isl n := rfl
@[simp] theorem State.getR_modIsl (s : State) (n : Nat) (f : Island → Island) (a : Nat) : (s.modIsl n f).getR a = s.getR a := rfl

@[simp] theorem State.lane_modLane_eq (s : State) (n : Nat) (f : Lane → Lane) : (s.modLane n f).lane n = f (s.lane n) := SMap.get_set_eq _ n _ s.lanes
@[simp] theorem State.lane_modLane_ne (s : State) {n k : Nat} (f : Lane → Lane) (h : k ≠ n) : (s.modLane n f).lane k = s.lane k := SMap.get_set_ne h _ _ _ s.lanes
@[simp] theorem State.lane_setR (s : State) (a : Nat) (w : Word) (n : Nat) : (s.setR a w).lane n = s.lane n := rfl
@[simp] theorem State.lane_logE (s : State) (c : Nat) (b : Option Nat) (p : Nat) (h : Word) (d : List (Nat × Nat)) (n : Nat) :
    (s.logE c b p h d).lane n = s.lane n := rfl
@[simp] theorem State.getR_modLane (s : State) (n : Nat) (f : Lane → Lane) (a : Nat) : (s.modLane n f).getR a = s.getR a := rfl

@[simp] theorem State.met_modMet_eq (s : State) (n : Nat) (f : MetPoint → MetPoint) : (s.modMet n f).met n = f (s.met n) := SMap.get_set_eq _ n _ s.mets
@[simp] theorem State.met_modMet_ne (s : State) {n k : Nat} (f : MetPoint → MetPoint) (h : k ≠ n) : (s.modMet n f).met k = s.met k := SMap.get_set_ne h _ _ _ s.mets
@[simp] theorem State.met_setR (s : State) (a : Nat) (w : Word) (n : Nat) : (s.setR a w).met n = s.met n := rfl
@[simp] theorem State.met_logE (s : State) (c : Nat) (b : Option Nat) (p : Nat) (h : Word) (d : List (Nat × Nat)) (n : Nat) :
    (s.logE c b p h d).met n = s.met n := rfl
@[simp] theorem State.getR_modMet (s : State) (n : Nat) (f : MetPoint → MetPoint) (a : Nat) : (s.modMet n f).getR a = s.getR a := rfl

@[simp] theorem State.gen_setGen_eq (s : State) (n : Nat) (v : PwmGen) : (s.setGen n v).gen n = v := SMap.get_set_eq _ n _ s.pwm
@[simp] theorem State.gen_setGen_ne (s : State) {n k : Nat} (v : PwmGen) (h : k ≠ n) : (s.setGen n v).gen k = s.gen k := SMap.get_set_ne h _ _ _ s.pwm
@[simp] theorem State.gen_setR (s : State) (a : Nat) (w : Word) (n : Nat) : (s.setR a w).gen n = s.gen n := rfl
@[simp] theorem State.gen_logE (s : State) (c : Nat) (b : Option Nat) (p : Nat) (h : Word) (d : List (Nat × Nat)) (n : Nat) :
    (s.logE c b p h d).gen n = s.gen n := rfl
@[simp] theorem State.getR_setGen (s : State) (n : Nat) (v : PwmGen) (a : Nat) : (s.setGen n v).getR a = s.getR a := rfl

@[simp] theorem State.ring_modRing_eq (s : State) (n : Nat) (f : Ring → Ring) : (s.modRing n f).ring n = f (s.ring n) := SMap.get_set_eq _ n _ s.rings
@[simp] theorem State.ring_modRing_ne (s : State) {n k : Nat} (f : Ring → Ring) (h : k ≠ n) : (s.modRing n f).ring k = s.ring k := SMap.get_set_ne h _ _ _ s.rings
@[simp] theorem State.ring_setR (s : State) (a : Nat) (w : Word) (n : Nat) : (s.setR a w).ring n = s.ring n := rfl
@[simp] theorem State.ring_logE (s : State) (c : Nat) (b : Option Nat) (p : Nat) (h : Word) (d : List (Nat × Nat)) (n : Nat) :
    (s.logE c b p h d).ring n = s.ring n := rfl
@[simp] theorem State.getR_modRing (s : State) (n : Nat) (f : Ring → Ring) (a : Nat) : (s.modRing n f).getR a = s.getR a := rfl

@[simp] theorem State.dir_modDir_eq (s : State) (n : Nat) (f : DirEntry → DirEntry) : (s.modDir n f).dir n = f (s.dir n) := SMap.get_set_eq _ n _ s.dirs
@[simp] theorem State.dir_modDir_ne (s : State) {n k : Nat} (f : DirEntry → DirEntry) (h : k ≠ n) : (s.modDir n f).dir k = s.dir k := SMap.get_set_ne h _ _ _ s.dirs
@[simp] theorem State.dir_setR (s : State) (a : Nat) (w : Word) (n : Nat) : (s.setR a w).dir n = s.dir n := rfl
@[simp] theorem State.dir_logE (s : State) (c : Nat) (b : Option Nat) (p : Nat) (h : Word) (d : List (Nat × Nat)) (n : Nat) :
    (s.logE c b p h d).dir n = s.dir n := rfl
@[simp] theorem State.getR_modDir (s : State) (n : Nat) (f : DirEntry → DirEntry) (a : Nat) : (s.modDir n f).getR a = s.getR a := rfl

@[simp] theorem State.prof_setProf_eq (s : State) (n : Nat) (v : ProfSlot) : (s.setProf n v).prof n = v := SMap.get_set_eq _ n _ s.profs
@[simp] theorem State.prof_setProf_ne (s : State) {n k : Nat} (v : ProfSlot) (h : k ≠ n) : (s.setProf n v).prof k = s.prof k := SMap.get_set_ne h _ _ _ s.profs
@[simp] theorem State.prof_setR (s : State) (a : Nat) (w : Word) (n : Nat) : (s.setR a w).prof n = s.prof n := rfl
@[simp] theorem State.prof_logE (s : State) (c : Nat) (b : Option Nat) (p : Nat) (h : Word) (d : List (Nat × Nat)) (n : Nat) :
    (s.logE c b p h d).prof n = s.prof n := rfl
@[simp] theorem State.getR_setProf (s : State) (n : Nat) (v : ProfSlot) (a : Nat) : (s.setProf n v).getR a = s.getR a := rfl

@[simp] theorem State.trk_setTrk_eq (s : State) (n : Nat) (v : TrkSlot) : (s.setTrk n v).trk n = v := SMap.get_set_eq _ n _ s.trks
@[simp] theorem State.trk_setTrk_ne (s : State) {n k : Nat} (v : TrkSlot) (h : k ≠ n) : (s.setTrk n v).trk k = s.trk k := SMap.get_set_ne h _ _ _ s.trks
@[simp] theorem State.trk_setR (s : State) (a : Nat) (w : Word) (n : Nat) : (s.setR a w).trk n = s.trk n := rfl
@[simp] theorem State.trk_logE (s : State) (c : Nat) (b : Option Nat) (p : Nat) (h : Word) (d : List (Nat × Nat)) (n : Nat) :
    (s.logE c b p h d).trk n = s.trk n := rfl
@[simp] theorem State.getR_setTrk (s : State) (n : Nat) (v : TrkSlot) (a : Nat) : (s.setTrk n v).getR a = s.getR a := rfl

end Sys2Proof.Machine
end

