-- ==== Sys2Proof/Laws/Host.lean ====
section
/-! SUPPORT. What the shared form of a host command does: one lemma for each of its four answers. -/
namespace Sys2Proof.Machine
open Sys2Proof

theorem State.HostReady.isAwake {s : State} {p : Nat} (h : s.HostReady p) : s.awake = true := by
  simp [State.awake, h.awake]

/-- A host command that is carried out. -/
theorem hostCmd_ready {s : State} {p : Nat} (f : State → State) (h : s.HostReady p) : hostCmd s p f = .next (f s).flushLog := by
  unfold hostCmd State.gated done
  rw [h.isAwake, h.bus, h.active, h.unlocked]
  rfl

/-- In DORMANT nothing answers. -/
theorem hostCmd_dormant {s : State} (p : Nat) (f : State → State) (h : s.pw.mode = .dormant) : hostCmd s p f = .next s := by
  unfold hostCmd State.awake
  rw [h]
  rfl

/-- A locked page refuses and counts. -/
theorem hostCmd_locked {s : State} {p : Nat} (f : State → State) (ha : s.pw.mode ≠ .dormant) (hb : s.pw.busChange = none)
    (hi : s.idle p = false) (hl : s.locked p = true) : hostCmd s p f = .next (s.refuse p).flushLog := by
  unfold hostCmd State.gated done State.awake
  rw [hb, hi, hl]
  simp [ha]

/-- An idle page ignores the write. -/
theorem hostCmd_idle {s : State} {p : Nat} (f : State → State) (ha : s.pw.mode ≠ .dormant) (hb : s.pw.busChange = none)
    (hi : s.idle p = true) : hostCmd s p f = .next s.flushLog := by
  unfold hostCmd State.gated done State.awake
  rw [hb, hi]
  simp [ha]

/-- During a bus-mode change the access stops the run. -/
theorem hostCmd_busChange {s : State} {p : Nat} (f : State → State) (ha : s.pw.mode ≠ .dormant) (hb : s.pw.busChange.isSome = true) :
    hostCmd s p f = .fault .accessDuringBusModeChange := by
  unfold hostCmd State.awake
  rw [hb]
  simp [ha]

/-- A command that no lock stops. -/
theorem hostRaw_ready {s : State} (f : State → State) (ha : s.pw.mode ≠ .dormant) (hb : s.pw.busChange = none) :
    hostRaw s f = .next (f s).flushLog := by
  unfold hostRaw done State.awake
  rw [hb]
  simp [ha]

theorem hostRaw_dormant {s : State} (f : State → State) (h : s.pw.mode = .dormant) : hostRaw s f = .next s := by
  unfold hostRaw State.awake
  rw [h]
  rfl

theorem hostRaw_busChange {s : State} (f : State → State) (ha : s.pw.mode ≠ .dormant) (hb : s.pw.busChange.isSome = true) :
    hostRaw s f = .fault .accessDuringBusModeChange := by
  unfold hostRaw State.awake
  rw [hb]
  simp [ha]

/-- A command through a selector that holds a valid handle acts on its index. -/
theorem State.through_selected {s : State} {sel cls n : Nat} (at_ : Nat) (f : State → Nat → State) (h : s.Selected sel cls n) :
    s.through sel cls at_ f = f s n := by
  unfold State.through
  rw [if_neg h.nonNull, if_pos h.valid, h.index]

end Sys2Proof.Machine
end

