-- ==== Sys2Proof/WellFormed.lean ====
section
/-! DEFINITION. Which commands are well formed: what the operand types leave over of the shapes the spec gives. A train has the length its
SLOTS names, a ring at most 96 devices, a bad mode code is one of the bad ones, and the data a block hands over have the number of elements
it handles. -/
namespace Sys2Proof

/-- A train: 292 + 32 × N bytes, N in byte 2 and from 1 to 96 (R248, R250). -/
def trainBytesOk (bs : List Byte) : Bool :=
  decide (bs.length = 292 + 32 * (bs.getD 2 0).toNat) && decide (1 ≤ (bs.getD 2 0).toNat ∧ (bs.getD 2 0).toNat ≤ 96)

/-- The operands of an E0: 24 modulator channels (R299) and 16 converter codes (R211). -/
def EpochIn.ok (i : EpochIn) : Bool := decide (i.mdat.length = 24) && decide (i.adc.length = 16)

/-- A tracked cycle: four voltage and four current channels (R302). -/
def CycleIn.ok (c : CycleIn) : Bool := decide (c.v.length = 4) && decide (c.i.length = 4)

/-- A synchrophasor estimate: three phases and the positive sequence (R318). -/
def PhasorIn.ok (p : PhasorIn) : Bool :=
  decide (p.vmag.length = 4) && decide (p.vang.length = 4) && decide (p.imag.length = 4) && decide (p.iang.length = 4)

/-- An identity read: 96 bytes of page A0h with 16 of page A2h, or the 96 bytes of a record (R394, R396). -/
def IdmRead.ok : IdmRead → Bool
  | .module _ (some (a, d)) => decide (a.length = 96) && decide (d.length = 16)
  | .record _ (some d) => decide (d.length = 96)
  | .module _ none => true
  | .record _ none => true
  | .stuck _ => true

/-- The operands of a command that its constructor's types do not bound. -/
def Instr.wf (i : Instr) : Bool :=
  match i with
  | .epoch x => x.ok
  | .modeRequestBadCode req => decide (req = 0 ∨ req = 1 ∨ req = 6)
  | .trainPass _ bytes _ => trainBytesOk bytes
  | .trainReturn _ bytes => trainBytesOk bytes
  | .trainingDone _ cells _ _ => decide (cells.length ≤ 96)
  | .rejoinDone _ _ cells _ => decide (cells.length ≤ 96)
  | .cycleEnd _ c => c.ok
  | .harmonicWindow _ _ _ bins => decide (bins.length = 8)
  | .phasorReport _ _ p => p.ok
  | .svFrame _ a b => decide (a.length = 8) && decide (b.length = 8)
  | .idmPoll modules _ => decide (modules.length = 16)
  | .idmReadDone r => r.ok
  | _ => true

end Sys2Proof
end

