-- ==== Sys2Proof/Tests/Slice0.lean ====
section
/-! SUPPORT. Tests: the ill-formed terms that the checks refuse, and for every statement states and operands that meet its hypotheses, at
the boundary values of its clauses. The expected values come from the rules cited. -/
namespace Sys2Proof.Tests
-- one theorem at a time: each kernel evaluation needs its own stack
set_option Elab.async false
open Sys2Proof Sys2Proof.Machine

/-! ## States -/

/-- Registers written in order. -/
def put (s : State) (l : List (Nat × Word)) : State := l.foldl (fun s e => s.setR e.1 e.2) s

/-- An awake device in CONFIGURE. -/
def cfg : State := { State.reset with pw := { power0 with mode := .configure } }

/-- An awake device in CONFIGURE whose period generator runs with PERIOD 80,000. -/
def live : State := put { cfg with clk := { clock0 with gen := true, tick := 80000, e0 := 80000 } } [(Reg.TIME_PERIOD, 80000)]

/-- The same in RUN. -/
def running : State := { live with pw := { live.pw with mode := .run, cblock := false } }

/-- In the Cell role. -/
def cellRole : State := { live with pw := { live.pw with role := .cell } }

/-- HostReady as a Bool. -/
def ready (s : State) (p : Nat) : Bool :=
  decide (s.pw.mode ≠ .dormant) && s.pw.busChange.isNone && !s.idle p && !s.locked p

theorem ready_iff {s : State} {p : Nat} (h : ready s p = true) : s.HostReady p := by
  simp only [ready, Bool.and_eq_true, decide_eq_true_eq, Option.isNone_iff_eq_none, Bool.not_eq_true'] at h
  exact ⟨h.1.1.1, h.1.1.2, h.1.2, h.2⟩

/-- Selected as a Bool. -/
def sel (s : State) (r cls n : Nat) : Bool :=
  decide (s.getR r ≠ 0) && s.validFor (s.getR r) cls && decide (hIndex (s.getR r) = n)

theorem sel_iff {s : State} {r cls n : Nat} (h : sel s r cls n = true) : s.Selected r cls n := by
  simp only [sel, Bool.and_eq_true, decide_eq_true_eq] at h
  exact ⟨h.1.1, h.1.2, h.2⟩

/-- What a next state holds. -/
def after (o : Host.Outcome State Fault Refusal) (p : State → Bool) : Bool :=
  match o with
  | .next t => p t
  | .fault _ => false
  | .refused _ => false

/-- The command ends in state `u`. -/
def same (o : Host.Outcome State Fault Refusal) (u : State) : Bool := after o (fun t => decide (t = u))

/-! ## Ill-formed terms -/

/-- A train of SLOTS 2 needs 356 bytes (R248, R250). -/
theorem illformed_train_length :
    Instr.wf (.trainReturn 0 ([0, 0, 2] ++ List.replicate 352 0)) = false ∧ Instr.wf (.trainReturn 0 ([0, 0, 2] ++ List.replicate 353 0)) = true := by
  decide +kernel

/-- SLOTS is 1 to 96 (R250). -/
theorem illformed_train_slots :
    trainBytesOk ([0, 0, 0] ++ List.replicate 289 0) = false ∧ trainBytesOk ([0, 0, 97] ++ List.replicate 3393 0) = false := by decide +kernel

/-- The codes of REQ other than 0, 1, 6 are commands of their own (R45). -/
theorem illformed_mode_code : Instr.wf (.modeRequestBadCode 2) = false ∧ Instr.wf (.modeRequestBadCode 6) = true := by decide

/-- A harmonic window has eight channels (R314). -/
theorem illformed_harmonic_window : Instr.wf (.harmonicWindow 0 2 0 []) = false := by decide

/-- A published frame carries eight values in each of its two samples (R369). -/
theorem illformed_sv_frame :
    Instr.wf (.svFrame 0 (List.replicate 7 0) (List.replicate 8 0)) = false := by decide

/-- A command with fields the type does not bound is well formed at both ends of its ranges and nowhere beyond. -/
theorem illformed_idm :
    Instr.wf (.idmReadDone (.record 0 (some []))) = false ∧ Instr.wf (.idmReadDone (.record 0 none)) = true ∧
    Instr.wf (.idmReadDone (.module 15 (some (List.replicate 96 0, List.replicate 15 0)))) = false ∧
    Instr.wf (.idmPoll [] 0) = false ∧ Instr.wf (.idmPoll (List.replicate 16 none) 0) = true := by decide

/-- Training finds at most 96 devices (R262). -/
theorem illformed_training :
    Instr.wf (.trainingDone 0 (List.replicate 97 ⟨0, 0, 0, 0⟩) 0 none) = false ∧
    Instr.wf (.rejoinDone 0 1 (List.replicate 97 (0, ⟨0, 0, 0, 0⟩)) none) = false := by decide

/-- An E0 takes 24 modulator streams and 16 codes, a cycle four channels of each kind, an estimate four phasors (R299, R302, R318). -/
theorem illformed_samples :
    EpochIn.ok ⟨⟨0, 0, 0, 0, 0, 0, 0, 0, 0, 0, 0, 0⟩, List.replicate 24 0, []⟩ = false ∧ CycleIn.ok ⟨0, 0, 0, true, 0, [], []⟩ = false ∧
    PhasorIn.ok ⟨[0], [], [], [], 0⟩ = false := by decide

/-! ## The queue, the lock and the bus -/

/-- Two commands wait: the first runs, the second stays (StepRunsTheFrontCommand, CommandsLeaveTheQueue). -/
theorem witness_front :
    let s := { cfg with pending := [.clrMissed, .bankDrop] }
    s.pending = [.clrMissed, .bankDrop] ∧ s.logq = [] ∧ after (step s) (fun t => decide (t.pending = [.bankDrop] ∧ t.logq = [])) = true := by
  decide +kernel

/-- AnEmptyQueueLetsOneTickPass and StepKeepsTheCanonicalForm at reset. -/
theorem witness_idle : State.reset.pending = [] ∧ after (step State.reset) (fun t => decide (t.clk.tick = 1 ∧ t.clk.plant8 = 5)) = true := by
  decide +kernel

theorem witness_canonical : State.reset.Canonical ∧ after (step State.reset) (fun _ => true) = true :=
  ⟨⟨by decide +kernel, by decide +kernel, by decide +kernel, by decide +kernel, by decide +kernel, by decide +kernel⟩, by decide +kernel⟩

/-- R24: a host access while the bus mode changes stops; a command that is no host access does not (accessDuringBusModeChangeStops,
EveryCommandCompletes). -/
theorem witness_bus_change :
    let s := { cfg with pw := { cfg.pw with busChange := some (1600, true) } }
    s.pw.mode ≠ .dormant ∧ s.pw.busChange.isSome = true ∧ lockPage .clrMissed = some Pg.PUMP ∧ freeAccess (.hostRead 0 .good) = true ∧
    stops (exec .clrMissed s) = true ∧ stops (exec (.hostRead 0 .good) s) = true ∧
    cfg.pw.busChange = none := by decide +kernel

/-- R45: in DORMANT a host command changes nothing (dormantIgnoresTheHost). -/
theorem witness_dormant :
    State.reset.pw.mode = .dormant ∧ lockPage .clrMissed ≠ none ∧ freeAccess (.pageLock 0) = true ∧
    same (exec (.pageLock 0) State.reset) State.reset = true := by decide +kernel

/-- Page `p` of the awake device, locked (R35). -/
def lockedPage (p : Nat) : State := put live [(Hdr.LOCK p, 1)]

/-- LockedPagesRefuse: the hypotheses hold of PUMP and of a Guard page, at the first and last lockable offsets, with a posted Guard write at
each of its offsets; and the command is refused and counted. -/
theorem witness_locked :
    let s := lockedPage Pg.PUMP
    let g := lockedPage Pg.GRD
    let q (a : Nat) : State := { g with grd := { guard0 with inReset := false }, pw := { g.pw with gpost := [(a, 5, 15)] } }
    (s.pw.mode ≠ .dormant ∧ s.pw.busChange = none ∧ s.logq = [] ∧ s.idle Pg.PUMP = false ∧ s.locked Pg.PUMP = true) ∧
    (g.idle Pg.GRD = false ∧ g.locked Pg.GRD = true) ∧
    lockPage .clrMissed = some Pg.PUMP ∧
    (∀ off ∈ [0x04, 0x1C, 0x40, 0xFFC, 0x0C, 0x10, 0x18], (w32 (Pg.PUMP * 4096 + off)).toNat % 4 = 0 ∧
      (w32 (Pg.PUMP * 4096 + off)).toNat / 4096 = Pg.PUMP ∧ (w32 (Pg.PUMP * 4096 + off)).toNat % 4096 = off) ∧
    s.getB (Hdr.LOCK Pg.PUMP) 1 = false ∧
    after (exec .clrMissed s) (fun t => decide (t.getF (Hdr.EVENT_CNT Pg.PUMP) 0 16 = 1)) = true ∧
    (∀ off ∈ [0x04, 0x1C, 0x40, 0x0C], (q (Pg.GRD * 4096 + off)).pw.gpost = [(Pg.GRD * 4096 + off, 5, 15)] ∧
      after (exec .guardWriteApply (q (Pg.GRD * 4096 + off))) (fun t => decide (t.getF (Hdr.EVENT_CNT Pg.GRD) 0 16 = if off = 0x0C then 0 else 1)) = true) ∧
    (q (Pg.GRD * 4096 + 4)).grd.inReset = false := by decide +kernel

/-- R18: the profiles are idle in the Cell role (idlePagesIgnore). -/
theorem witness_idle_page :
    cellRole.pw.mode ≠ .dormant ∧ cellRole.pw.busChange = none ∧ cellRole.logq = [] ∧ cellRole.idle Pg.PROF = true ∧
    lockPage .pfHold = some Pg.PROF ∧ same (exec .pfHold cellRole) cellRole = true := by decide +kernel

/-! ## Strokes -/

/-- A scalar stroke with operands in words 48, 49 and 50 and its destination in word 51. -/
def scalar0 : Scalar :=
  { pen := false, pneg := false, pidx := 0, dst := 51, sa := 48, sb := 49, sc := 50, fin := false, out := false, imm := 0 }

/-- The same, taken only when P0 is set. -/
def scalarOff : Scalar := { scalar0 with pen := true }

/-- A vector stroke over descriptors 0 and 1. -/
def vec0 : Vec :=
  { pen := false, pneg := false, pidx := 0, xd := 0, yd := 1, sa := 48, sb := 49, sd := 51, fin := false, imm := 0 }

/-- The Pump about to issue stroke `w`, words 48 to 50 holding 3.0, 2.0 and 1.0. -/
def issuing (w : BitVec 64) : State :=
  { running with pump := { pump0 with run := .main, issue := [w], cyc := 1600, inForce := true, started := true },
                 sump := [(48, 0x40400000), (49, 0x40000000), (50, 0x3F800000)] }

/-- What stroke `w` leaves in the pipe. -/
def retires (o : Host.Outcome State Fault Refusal) : List (Nat × Retire × Bool) :=
  match o with
  | .next t => t.pump.pipe
  | .fault _ => []
  | .refused _ => []

/-- arithmeticStrokesComputeTheirRow and integerStrokesComputeTheirRow: each opcode is ready, takes and writes a Sump word. -/
theorem witness_scalar_ready :
    ∀ op ∈ [0x01, 0x02, 0x03, 0x04, 0x08, 0x09, 0x0A, 0x0C, 0x0D, 0x0E, 0x0F, 0x10, 0x11, 0x20, 0x21, 0x22, 0x23, 0x24, 0x25, 0x26, 0x27,
      0x28], (issuing (encodeScalar op scalar0)).issuesScalar op scalar0 = true := by decide +kernel

/-- R82 on 3.0, 2.0 and 1.0: 3 × 2 + 1 = 7, 3 × 2 − 1 = 5, 1 − 3 × 2 = −5, 3 + (2 − 3) × 1 = 2, the larger, the smaller, the clamp of 3 to
[2, 1], −3, 1/3 to nearest or one ulp off is not asked here. R79: four cycles after issue. -/
theorem test_arith :
    retires (exec (.fma scalar0) (issuing (encodeScalar 0x01 scalar0))) = [(1604, .sump 51 0x40E00000, true)] ∧
    retires (exec (.fms scalar0) (issuing (encodeScalar 0x02 scalar0))) = [(1604, .sump 51 0x40A00000, true)] ∧
    retires (exec (.fnma scalar0) (issuing (encodeScalar 0x03 scalar0))) = [(1604, .sump 51 0xC0A00000, true)] ∧
    retires (exec (.lerp scalar0) (issuing (encodeScalar 0x04 scalar0))) = [(1604, .sump 51 0x40000000, true)] ∧
    retires (exec (.min scalar0) (issuing (encodeScalar 0x08 scalar0))) = [(1604, .sump 51 0x40000000, true)] ∧
    retires (exec (.max scalar0) (issuing (encodeScalar 0x09 scalar0))) = [(1604, .sump 51 0x40400000, true)] ∧
    retires (exec (.clamp scalar0) (issuing (encodeScalar 0x0A scalar0))) = [(1604, .sump 51 0x3F800000, true)] ∧
    retires (exec (.neg scalar0) (issuing (encodeScalar 0x0D scalar0))) = [(1604, .sump 51 0xC0400000, true)] := by decide +kernel

/-- R82: integer strokes on the patterns of 3.0 and 2.0. -/
theorem test_integer :
    retires (exec (.iadd scalar0) (issuing (encodeScalar 0x20 scalar0))) = [(1604, .sump 51 0x80400000, true)] ∧
    retires (exec (.isub scalar0) (issuing (encodeScalar 0x21 scalar0))) = [(1604, .sump 51 0x00400000, true)] ∧
    retires (exec (.iand scalar0) (issuing (encodeScalar 0x22 scalar0))) = [(1604, .sump 51 0x40000000, true)] ∧
    retires (exec (.ior scalar0) (issuing (encodeScalar 0x23 scalar0))) = [(1604, .sump 51 0x40400000, true)] ∧
    retires (exec (.ixor scalar0) (issuing (encodeScalar 0x24 scalar0))) = [(1604, .sump 51 0x00400000, true)] ∧
    retires (exec (.f2i scalar0) (issuing (encodeScalar 0x27 scalar0))) = [(1604, .sump 51 3, true)] ∧
    retires (exec (.i2f scalar0) (issuing (encodeScalar 0x28 scalar0))) = [(1604, .sump 51 0x4E808000, true)] := by decide +kernel

/-- predicateStrokesSetTheirPredicate: each opcode is ready; 3 < 2 is false and 3 = 2 is false; DST[2:0] is 3. SEL writes with P0 clear. -/
theorem witness_predicates :
    (∀ op ∈ [0x14, 0x15, 0x16, 0x17, 0x18, 0x19, 0x29, 0x0B], (issuing (encodeScalar op scalar0)).strokeReady (encodeScalar op scalar0) = true) ∧
    (issuing 0).strokeOpen.predTakes scalar0.pen scalar0.pneg scalar0.pidx = true ∧ scalar0.out = false ∧
    retires (exec (.clt scalar0) (issuing (encodeScalar 0x14 scalar0))) = [(1604, .pred 3 false, true)] ∧
    retires (exec (.cle scalar0) (issuing (encodeScalar 0x15 scalar0))) = [(1604, .pred 3 false, true)] ∧
    retires (exec (.ceq scalar0) (issuing (encodeScalar 0x16 scalar0))) = [(1604, .pred 3 false, true)] ∧
    retires (exec (.sel scalar0) (issuing (encodeScalar 0x0B scalar0))) = [(1604, .sump 51 0x40000000, true)] := by decide +kernel

/-- vectorStrokesRunTheirElements and singleElementStrokesNopAndBadop: each opcode is ready and takes; 0x3F is unlisted. -/
theorem witness_vectors :
    (∀ op ∈ [0x30, 0x31, 0x32, 0x33, 0x34, 0x35, 0x36, 0x37, 0x38, 0x39, 0x3A, 0x3B, 0x3C],
      (issuing (encodeVec op vec0)).strokeReady (encodeVec op vec0) = true) ∧
    (issuing 0).strokeOpen.predTakes vec0.pen vec0.pneg vec0.pidx = true ∧
    (issuing (encodeScalar 0x00 scalar0)).strokeReady (encodeScalar 0x00 scalar0) = true ∧
    (issuing (0x3F <<< 58)).strokeReady (0x3F <<< 58) = true ∧ opListed (strokeOp (0x3F <<< 58)) = false := by decide +kernel

/-- predicatedOffStrokeOnlyPasses: with P0 clear a stroke predicated on it does nothing. -/
theorem witness_predicated_off :
    let s := issuing (encodeScalar 0x01 scalarOff)
    let v := { vec0 with pen := true }
    s.strokeReady (encodeScalar 0x01 scalarOff) = true ∧ s.strokeOpen.predTakes scalarOff.pen scalarOff.pneg scalarOff.pidx = false ∧
    retires (exec (.fma scalarOff) s) = [] ∧
    (∀ op ∈ [0x30, 0x32, 0x3A], (issuing (encodeVec op v)).strokeReady (encodeVec op v) = true ∧
      (issuing (encodeVec op v)).strokeOpen.predTakes v.pen v.pneg v.pidx = false) := by decide +kernel

/-- sumpRetirementRespectsSystemWords at words 0, 47, 48 and 1023. -/
theorem witness_sump_retirement :
    running.getR Reg.PUMP_SYSWR_CNT ≠ 0xFFFFFFFF ∧
    (running.retire 0 (.sump 47 5) true).getR Reg.PUMP_SYSWR_CNT = 1 ∧ (running.retire 0 (.sump 47 5) true).sumpW 47 = 0 ∧
    (running.retire 0 (.sump 48 5) true).sumpW 48 = 5 ∧ (running.retire 0 (.sump 48 5) true).getR Reg.PUMP_SYSWR_CNT = 0 := by decide +kernel

/-! ## Banks, quotas and channels -/

/-- A channel slot in state `st` of generation 255 with granules 12 and 13, a MANUAL mode and the words of R104. -/
def slot (st : Nat) : ChanSlot :=
  { freeSlot 255 with st := st, used := 2, granules := [12, 13], outW := 0, manW := 1, modeW := 2, feRefW := 3, feFbW := 4 }

/-- Channel 127 in state `st`, selected on CHAN and on SUMP. -/
def withChan (s : State) (c : ChanSlot) : State :=
  put (s.setChan 127 c) [(Reg.CHAN0_CH_SEL, mkHandle 1 255 127), (Reg.SUMP_CH_SEL, mkHandle 1 255 127)]

/-- A staged bank with channel 127 STAGED in it. -/
def stagedBankS : State := withChan { live with pump := { pump0 with stagedBank := true } } (slot 2)

/-- Bank 0 with FIN on its first stroke, SLOW_DIV 1,025, OUT_PHASE 228, DIRECT set. -/
def directS : State :=
  put ({ live with mem := [(schedBase + 1, 4)] }) [(Reg.PUMP_CTRL, 1), (Reg.PUMP_DIRECT_CFG, 228 + 1025 * 2 ^ 8)]

/-- bankCommandsTakeEffect and swapAtInThePastIsMissed. Under MODE 1 a SWAP_AT equal to PERIOD_CNT is past, the next period is not. -/
theorem witness_banks :
    ready stagedBankS Pg.PUMP = true ∧ stagedBankS.logq = [] ∧ stagedBankS.pump.stagedBank = true ∧ (stagedBankS.chan 127).st = 2 ∧
    (stagedBankS.chan 126).st ≠ 2 ∧
    after (exec .bankDrop stagedBankS) (fun t => !t.pump.stagedBank && decide ((t.chan 127).st = 1 ∧ (t.chan 127).used = 0 ∧
      (t.chan 127).granules = [] ∧ t.chan 126 = stagedBankS.chan 126)) = true ∧
    ((put live [(Reg.PUMP_SWAP_CFG, 1)]).setR Reg.PUMP_SWAP_AT 1).swapPast = false ∧
    ((put stagedBankS [(Reg.PUMP_SWAP_CFG, 1), (Reg.TIME_PERIOD_CNT, 7)]).setR Reg.PUMP_SWAP_AT 7).swapPast = true ∧
    ready (put stagedBankS [(Reg.PUMP_SWAP_CFG, 1)]) Pg.PUMP = true ∧ (put stagedBankS [(Reg.PUMP_SWAP_CFG, 1)]).getB Reg.PUMP_SWAP_CFG 0 = true ∧
    after (exec (.swapAtWrite 7) (put stagedBankS [(Reg.PUMP_SWAP_CFG, 1), (Reg.TIME_PERIOD_CNT, 7)])) (fun t => t.pump.missed &&
      t.getB (Hdr.IRQ_RAW Pg.PUMP) 5 && t.pump.stagedBank) = true := by decide +kernel

theorem splitSlices_length : ∀ (ws cur : List (BitVec 64)), (splitSlices cur ws).length ≤ ws.length + 1
  | [], cur => by unfold splitSlices; split <;> simp
  | w :: ws, cur => by
    unfold splitSlices
    split
    · simpa using splitSlices_length ws []
    · exact Nat.le_succ_of_le (splitSlices_length ws _)

/-- bankCommandsTakeEffect, staging: the state meets its conditions; the slow lane of 1,024 strokes holds at most 1,025 slices. -/
theorem witness_bank_stage :
    (directS.pw.mode = .configure ∧ directS.getB Reg.PUMP_CTRL 0 = true ∧ directS.pump.stagedBank = false ∧
      directS.phaseConflict 228 = none) ∧
    ∃ l, directS.directLayout directS.standby = some l ∧ l.outPhase = 228 ∧ l.sliceSys.length ≤ l.slowDiv := by
  refine ⟨by decide +kernel, ?_⟩
  have h : (List.range 7168).find? (fun k => strokeFin (directS.strokeAt directS.standby k)) = some 0 := by decide +kernel
  unfold State.directLayout
  rw [h]
  refine ⟨_, rfl, by decide +kernel, ?_⟩
  have hd : fld (directS.getR Reg.PUMP_DIRECT_CFG) 8 17 = 1025 := by decide +kernel
  simp only [List.length_map, hd]
  refine Nat.le_trans (List.length_filter_le _ _) (Nat.le_trans (splitSlices_length _ _) ?_)
  simp [State.strokes]

/-- quotaIsGrantedFromThePool: a request of 240 fits an empty pool; one of 240 beside another channel that holds 1 does not. -/
theorem witness_quota :
    let s := withChan live (slot 1)
    let u := s.setChan 0 { slot 1 with used := 1 }
    ready s Pg.SUMP = true ∧ s.logq = [] ∧ sel s Reg.SUMP_CH_SEL 1 127 = true ∧ s.loadingSlot ≠ some 127 ∧
    max (fld (240 : Word) 0 8) (s.chan 127).used ≤ (s.chan 127).eff + s.poolFree ∧
    after (exec (.chQuotaWrite 240) s) (fun t => decide ((t.chan 127).req = 240)) = true ∧
    ready u Pg.SUMP = true ∧ sel u Reg.SUMP_CH_SEL 1 127 = true ∧
    (u.chan 127).eff + u.poolFree < max (fld (240 : Word) 0 8) (u.chan 127).used ∧
    after (exec (.chQuotaWrite 240) u) (fun t => decide (t.getR Reg.SUMP_QREFUSE_CNT = 1)) = true := by decide +kernel

/-- channelCommandsTakeEffect: CREATE with the slot named and with the lowest free one; each command in its state. -/
theorem witness_channel_commands :
    (ready live Pg.CHAN0 = true ∧ live.chanModes = true ∧ live.createSlot none = some 0 ∧ live.createSlot (some 127) = some 127) ∧
    after (exec (.chCreate (some 127)) live) (fun t => decide ((t.chan 127).st = 1 ∧ t.getR Reg.CHAN0_CH_SEL = live.chanHandle 127)) = true ∧
    (∀ st ∈ [1, 2, 3], ready (withChan live (slot st)) Pg.CHAN0 = true ∧ sel (withChan live (slot st)) Reg.CHAN0_CH_SEL 1 127 = true ∧
      (withChan live (slot st)).loaderBusy = false ∧ (withChan live (slot st)).clk.gen = true ∧
      ((withChan live (slot st)).chan 127).hasManual = true) ∧
    after (exec .chDrain (withChan live (slot 3))) (fun t => decide (t.drainJob = some ⟨127, 255⟩)) = true ∧
    after (exec .chDestroy (withChan live (slot 1))) (fun t => decide (t.chan 127 = freeSlot 0)) = true ∧
    after (exec .chDestroy stagedBankS) (fun t => decide (t.chan 127 = freeSlot 0)) = true ∧
    after (exec .chManual (withChan live (slot 3))) (fun t => decide ((t.chan 127).cmd = some false)) = true ∧
    after (exec .chAuto (withChan live (slot 2))) (fun t => (t.chan 127).auto) = true ∧
    after (exec .feClr (withChan live { slot 3 with feFired := true, feHeld := true })) (fun t => decide (t.chan 127 = slot 3)) = true := by
  decide +kernel

/-- channelEventsTakeEffect: a drained channel, a DRAIN that composes from the bank in force, and a timer one past FE_TIME. -/
theorem witness_channel_events :
    let d := withChan live { slot 4 with drain := 0 }
    let j := { withChan directS (slot 3) with drainJob := some ⟨127, 255⟩, pump := { pump0 with inForce := true } }
    let f := withChan live { slot 3 with auto := true, feAction := 1, feTime := 5, feTimer := 6 }
    (d.chan 127).st = 4 ∧ (d.chan 127).drain = 0 ∧ after (exec (.channelFree 127) d) (fun t => decide (t.chan 127 = freeSlot 0)) = true ∧
    (j.chan 127).st = 3 ∧ (j.chan 127).gen = 255 ∧ j.basePlan.isSome = true ∧
    after (exec .drainDone j) (fun t => t.drainJob.isNone && (t.chan 127).release && t.pump.stagedBank &&
      decide (t.getR Reg.HOST_LOAD_STAT = 2)) = true ∧
    (f.chan 127).supervised = true ∧ (f.chan 127).feTime < (f.chan 127).feTimer ∧ (f.chan 127).feOver = false ∧ f.pw.mode ≠ .armed ∧
    f.pw.mode ≠ .run ∧ f.getR Reg.CHAN0_FE_EVENT_CNT ≠ 0xFFFFFFFF ∧
    after (exec (.followingErrorFire 127) f) (fun t => (t.chan 127).feOver && (t.chan 127).feFired && t.getB (Hdr.IRQ_RAW Pg.CHAN0) 2) = true := by
  decide +kernel

/-- coefficientWriteStoresOneLocalWord at the last local word of a channel of two granules. -/
theorem witness_coefficient :
    let s := put (withChan live (slot 3)) [(Reg.CHAN0_COEF_IDX, 7)]
    ready s Pg.CHAN0 = true ∧ sel s Reg.CHAN0_CH_SEL 1 127 = true ∧ (s.chan 127).st = 3 ∧ s.getF Reg.CHAN0_COEF_IDX 0 10 < 4 * (s.chan 127).used ∧
    48 ≤ (s.chan 127).place (s.getF Reg.CHAN0_COEF_IDX 0 10) ∧
    after (exec (.coefWrite 9) s) (fun t => decide (t.sumpW 55 = 9 ∧ t.sumpW 54 = 0)) = true := by decide +kernel

/-! ## Profiles and trackers -/

/-- Profile 15 in state `st`, selected. -/
def withProf (s : State) (p : ProfSlot) : State := put (s.setProf 15 p) [(Reg.PROF_PF_SEL, mkHandle 3 p.gen 15)]

/-- An allocated profile in state `st`. -/
def prof0 (st : Nat) : ProfSlot := { freeProf 9 with alloc := true, st := st }

/-- profileCommandsTakeEffect: CREATE named and unnamed, and each command; SET is refused in RUN. -/
theorem witness_profiles :
    (ready live Pg.PROF = true ∧ pickSlot (fun k => !(live.prof k).alloc) 16 (some 15) = some 15 ∧
      pickSlot (fun k => !(live.prof k).alloc) 16 none = some 0) ∧
    after (exec (.pfCreate (some 15)) live) (fun t => decide (t.prof 15 = { freeProf 0 with alloc := true, st := 1 } ∧
      t.getR Reg.PROF_PF_SEL = mkHandle 3 0 15)) = true ∧
    (ready (withProf live (prof0 3)) Pg.PROF = true ∧ sel (withProf live (prof0 3)) Reg.PROF_PF_SEL 3 15 = true ∧
      ((withProf live (prof0 3)).prof 15).st < 4 ∧ (withProf live (prof0 3)).notRunModes = true) ∧
    (sel (withProf running (prof0 1)) Reg.PROF_PF_SEL 3 15 = true ∧ (withProf running (prof0 1)).notRunModes = false) ∧
    after (exec .pfDestroy (withProf live (prof0 1))) (fun t => decide (t.prof 15 = freeProf 10)) = true ∧
    after (exec .pfHold (withProf live (prof0 3))) (fun t => decide ((t.prof 15).cmds = [3])) = true ∧
    after (exec .pfSet (withProf running (prof0 1))) (fun t => decide (t.getF (Hdr.EVENT_CNT Pg.PROF) 0 16 = 1)) = true ∧
    after (exec .fsAll (withProf live (prof0 1))) (fun t => (t.prof 15).fsPend && !(t.prof 14).fsPend) = true := by decide +kernel

/-- profileEndsOnItsTarget. -/
theorem witness_profile_ends :
    let m := put (withProf live { prof0 2 with ended := true }) [(Reg.PROF_PS_TARGET 15, 0x40400000)]
    let f := put (withProf live { prof0 4 with ended := true }) [(Reg.PROF_PS_FS_TARGET 15, 0x40400000)]
    ((m.prof 15).alloc = true ∧ (m.prof 15).ended = true ∧ (m.prof 15).st = 2) ∧ ((f.prof 15).alloc = true ∧ (f.prof 15).ended = true ∧ (f.prof 15).st = 4) ∧
    after (exec (.profileSettled 15) m) (fun t => decide ((t.prof 15).st = 1 ∧ t.getR (Reg.PROF_PS_Y 15) = 0x40400000)) = true ∧
    after (exec (.fstopReached 15) f) (fun t => decide ((t.prof 15).st = 5 ∧ t.getR (Reg.PROF_PS_Y 15) = 0x40400000)) = true := by decide +kernel

/-- Tracker 63 as given, selected. -/
def withTrk (s : State) (k : TrkSlot) : State := put (s.setTrk 63 k) [(Reg.TRACK_T_SEL, mkHandle 2 k.gen 63)]

/-- An allocated tracker in state `st`, with V_START 3.0 between V_MIN 1.0 and V_MAX 2.0. -/
def trk0 (st : Nat) : TrkSlot :=
  { freeTrk 9 with alloc := true, st := st, cfg := [(0x060, 0x40400000), (0x064, 0x3F800000), (0x068, 0x40000000)] }

/-- trackerCommandsTakeEffect, with an interval of one second that has just passed. -/
theorem witness_trackers :
    let k := { trk0 2 with cfg := [(0x080, 1)], sinceScan := tickS }
    (ready live Pg.TRACK = true ∧ pickSlot (fun k => !(live.trk k).alloc) 64 (some 63) = some 63) ∧
    after (exec (.tCreate none) live) (fun t => decide ((t.trk 0).st = 1 ∧ t.getR Reg.TRACK_T_SEL = mkHandle 2 0 0)) = true ∧
    (ready (withTrk live (trk0 1)) Pg.TRACK = true ∧ sel (withTrk live (trk0 1)) Reg.TRACK_T_SEL 2 63 = true ∧
      ((withTrk live (trk0 1)).trk 63).st = 1) ∧
    after (exec .tDestroy (withTrk live (trk0 1))) (fun t => decide (t.trk 63 = freeTrk 10)) = true ∧
    after (exec .tStart (withTrk live (trk0 1))) (fun t => (t.trk 63).baseline && decide ((t.trk 63).st = 2)) = true ∧
    after (exec .tStop (withTrk live (trk0 2))) (fun t => decide ((t.trk 63).st = 1)) = true ∧
    (k.alloc = true ∧ 2 ≤ k.st ∧ 0 < fld (k.get 0x080) 0 16 ∧ k.scanReq = false ∧ fld (k.get 0x080) 0 16 * tickS ≤ k.sinceScan) ∧
    after (exec (.scanIntervalExpire 63) (withTrk live k)) (fun t => (t.trk 63).scanReq) = true := by decide +kernel

/-- trackerStepRecordsItsAverages: one sample of 2.0 V and 1.0 A; and an interval without a sample, the second in a row. -/
theorem witness_tracker_step :
    let k := { trk0 2 with stepDue := true, baseline := true, count := 1, sumV := 2 ^ 150, sumI := 2 ^ 149, runV := 0x40000000, runI := 0x3F800000 }
    let s := withTrk live k
    let e := withTrk live { trk0 2 with stepDue := true, skips := 1 }
    (s.logq = [] ∧ (s.trk 63).alloc = true ∧ (s.trk 63).stepDue = true ∧ (s.trk 63).st = 2 ∧ (s.trk 63).scanReq = false ∧ (s.trk 63).count ≠ 0 ∧
      (s.trk 63).baseline = true) ∧
    fltW 0 ((s.setTrk 63 { k with stepDue := false }).trkMean k.sumV k.runV k.count).1 = true ∧
    after (exec (.trackerStep 63) s) (fun t => decide (t.getR (Reg.TRACK_V_V 63) = 0x40000000 ∧ t.getR (Reg.TRACK_I_V 63) = 0x3F800000 ∧
      t.getR (Reg.TRACK_P_V 63) = 0x40000000)) = true ∧
    ((e.trk 63).alloc = true ∧ (e.trk 63).stepDue = true ∧ (e.trk 63).st = 2 ∧ (e.trk 63).count = 0 ∧ (e.trk 63).skips + 1 < 3) ∧
    after (exec (.trackerStep 63) e) (fun t => decide ((t.trk 63).skips = 2)) = true := by decide +kernel

/-! ## Grid policy -/

/-- The awake device with SYNC as given. -/
def withSync (s : State) (y : SyncState) : State := { s with sync := y }

/-- SYNC in state `st`. -/
def sync0 (st : Nat) : SyncState := { State.reset.sync with st := st }

/-- The least settings of SYNC: LOCK_N, COAST_MAX, RET_SETTLE and RIDE's EXIT_T are 0. -/
def least (s : State) : State := put s [(Reg.SYNC_LOCK_N, 0), (Reg.SYNC_COAST_MAX, 0), (Reg.SYNC_RET_SETTLE, 0), (Reg.RIDE_EXIT_T, 0)]

/-- syncTransitionsFollowTheirRules, at the least counts: LOCK_N and RET_SETTLE 0 are taken as 1, COAST_MAX 0 with a coast of one period. -/
theorem witness_sync :
    let a := withSync (least live) { sync0 1 with lockCnt := 1 }
    let b := withSync (least live) { sync0 2 with lockCnt := 1 }
    let c := withSync (least live) { sync0 3 with coast := 1 }
    let d := withSync (least live) { sync0 5 with settle := 1, thetaObs := 0x3F800000 }
    let e := withSync (least live) (sync0 4)
    (a.sync.st = 1 ∧ a.sync.fClamp = false ∧ max 1 (a.getF Reg.SYNC_LOCK_N 0 16) ≤ a.sync.lockCnt ∧
      after (exec .syncLock a) (fun t => decide (t.sync = sync0 2) && t.getB (Hdr.IRQ_RAW Pg.SYNC) 0) = true) ∧
    (b.sync.st = 2 ∧ max 1 (b.getF Reg.SYNC_LOCK_N 0 16) ≤ b.sync.lockCnt ∧
      after (exec .syncUnlock b) (fun t => decide (t.sync = sync0 1) && t.getB (Hdr.IRQ_RAW Pg.SYNC) 4) = true) ∧
    (c.sync.st = 3 ∧ decide (max 1 (c.getF Reg.SYNC_RET_SETTLE 0 8) ≤ c.sync.settle) = false ∧
      c.getF Reg.SYNC_COAST_MAX 0 16 * 1600000 < c.sync.coast * c.period ∧
      after (exec .syncLost c) (fun t => decide (t.sync.st = 5 ∧ t.getR Reg.SYNC_LOSS_CNT = 1) && t.getB (Hdr.IRQ_RAW Pg.SYNC) 3) = true) ∧
    (d.sync.st = 5 ∧ decide (max 1 (d.getF Reg.SYNC_RET_SETTLE 0 8) ≤ d.sync.settle) = true) ∧
    (e.sync.st = 4 ∧ e.sumpW 8 = e.sync.thetaObs ∧ after (exec .slewDone e) (fun t => decide (t.sync.st = 2)) = true) := by decide +kernel

/-- phaseJumpIsMeasured: no jump with JUMP_SNAP +0.0 is taken at once; a jump of half a turn is not. -/
theorem witness_jump :
    let s := withSync (least live) { sync0 3 with settle := 1, coast := 4 }
    let u := withSync (put (least live) [(Reg.SYNC_JUMP_SNAP, 0x41200000)]) { sync0 3 with settle := 1, thetaObs := 0x40400000 }
    let j (s : State) := degOfTurns (wrapTurns (turnsOf s.sync.thetaObs - turnsOf (advanceAng (s.sumpW 8) (s.sumpW 11) s.tS)))
    (s.sync.st = 3 ∧ max 1 (s.getF Reg.SYNC_RET_SETTLE 0 8) ≤ s.sync.settle ∧ fleW (fabsW (j s)) (s.getR Reg.SYNC_JUMP_SNAP) = true) ∧
    (u.sync.st = 3 ∧ max 1 (u.getF Reg.SYNC_RET_SETTLE 0 8) ≤ u.sync.settle ∧ fleW (fabsW (j u)) (u.getR Reg.SYNC_JUMP_SNAP) = false) := by decide +kernel

/-- gridFormingIsChosenBeforeRun. -/
theorem witness_grid_forming :
    ready live Pg.SYNC = true ∧ live.pw.mode = .configure ∧ after (exec (.syncModeWrite true) live) (fun t => t.getB Reg.SYNC_CFG 1) = true ∧
    ready running Pg.SYNC = true ∧ running.pw.mode ≠ .configure ∧ running.pw.mode ≠ .armed ∧ true ≠ running.getB Reg.SYNC_CFG 1 ∧
    after (exec (.syncModeWrite true) running) (fun t => decide (t.getF (Hdr.EVENT_CNT Pg.SYNC) 0 16 = 1)) = true := by decide +kernel

/-- rideTransitionsFollowTheirRules: the last frequency point with TIME 0, and a SUPPORT that has seen one good E0. -/
theorem witness_ride :
    let s := { put running [(Reg.RIDE_CFG, 1), (pointReg 23, 0)] with ride := { State.reset.ride with sub := 0, timers := [(23, 1)] } }
    let u := { put (least running) [(Reg.RIDE_CFG, 1), (Reg.TIME_PERIOD_CNT, 9)] with ride := { State.reset.ride with sub := 1, exitCnt := 1, supportAt := 4 } }
    (s.pw.mode = .run ∧ s.getB Reg.RIDE_CFG 0 = true ∧ s.ride.sub ≠ 4 ∧ s.rideTimer 23 ≠ 0 ∧ s.getF (pointReg 23) 0 16 ≠ 0xFFFF ∧
      s.getF (pointReg 23) 0 16 * 1600000 < s.rideTimer 23 * s.period ∧ s.sync.clamp = false ∧
      after (exec (.ridePointFire 23) s) (fun t => decide (t.ride.sub = 4 ∧ t.ride.src = 4 ∧ t.ride.point = 3 ∧ t.sumpW 6 = 4)) = true) ∧
    (u.pw.mode = .run ∧ u.getB Reg.RIDE_CFG 0 = true ∧ u.ride.sub = 1 ∧ max 1 (u.getF Reg.RIDE_EXIT_T 0 16) ≤ u.ride.exitCnt ∧
      after (exec .rideRecovery u) (fun t => decide (t.ride.sub = 3 ∧ t.getR Reg.RIDE_FAULT_PERIODS = 5)) = true) := by decide +kernel

/-- islandingDecisionIsLatched: the transfer trip, method 4, first and beside a request that stands; CLR in CONFIGURE and in RUN. -/
theorem witness_islanding :
    let s := put running [(Reg.ISLD_CFG, 0x10), (Reg.GOOSE_TT_IN, 1)]
    let u := { s with isld := { s.isld with req := true, src := 1 } }
    (s.pw.mode = .run ∧ s.isldDue 4 = true ∧ s.isld.decided.getLsbD 3 = false ∧ s.isld.req = false ∧ s.getR Reg.ISLD_DET_CNT ≠ 0xFFFFFFFF ∧
      after (exec (.isldDecision 3) s) (fun t => t.isld.req && decide (t.isld.src = 4 ∧ t.getR Reg.ISLD_DET_CNT = 1) && bit (t.sumpW 7) 9) = true) ∧
    (u.isldDue 4 = true ∧ u.isld.req = true ∧
      after (exec (.isldDecision 3) u) (fun t => decide (t.isld.src = 1 ∧ t.getR Reg.ISLD_DET_CNT = 0)) = true) ∧
    (ready live Pg.ISLD = true ∧ ready running Pg.ISLD = true ∧ live.pw.mode ≠ .run ∧
      after (exec .isldClr { live with isld := u.isld }) (fun t => !t.isld.req) = true ∧
      after (exec .isldClr u) (fun t => t.isld.req && decide (t.getF (Hdr.EVENT_CNT Pg.ISLD) 0 16 = 1)) = true) := by decide +kernel

/-- tableHalvesSwapAndCopy: arming, and the copy of table 7 that is busy. -/
theorem witness_tables :
    let s := { live with tab := { active := 0x80, armed := 1, busy := 0x80 } }
    ready s Pg.COMP = true ∧ s.logq = [] ∧ s.tab.busy.getLsbD 7 = true ∧
    after (exec (.tableSwapArm 0x80) s) (fun t => decide (t.tab.armed = 0x81)) = true := by decide +kernel

/-- pumpSequencesBegin: a bank in force at E2, and slice 0 chosen after E4. -/
theorem witness_pump_begins :
    let s := { running with pump := { pump0 with inForce := true } }
    let u := { running with pump := { pump0 with inForce := true, slice := some 0, e4Done := true } }
    (s.logq = [] ∧ s.pw.mode ≠ .dormant ∧ s.clk.gen = true ∧ s.pump.inForce = true ∧ s.pump.started = false ∧ s.pump.e4Done = false ∧
      after (exec .pumpStart s) (fun t => t.pump.started && decide (t.pump.cyc = 1600 ∧ t.clk.tick = 83200)) = true) ∧
    (u.pump.slice = some 0 ∧ u.pump.e4Done = true ∧ u.pump.overrun = false ∧ u.pump.run = .idle ∧
      after (exec .slowSliceStart u) (fun t => t.pump.slice.isNone) = true) := by decide +kernel

/-! ## Modes, power and reset -/

/-- safeEntryBlocksAndLatches: from RUN by the last cause, and a second cause in SAFE. -/
theorem witness_safe_entry :
    running.pw.mode ≠ .dormant ∧ running.pw.mode ≠ .safe ∧ (running.enterSafe 8).pw.mode = .safe ∧ (running.enterSafe 8).pw.cblock = true ∧
    (running.enterSafe 8).getR Reg.PWR_SAFE_CAUSE = 0x100 ∧ ((running.enterSafe 8).enterSafe 1).getR Reg.PWR_SAFE_CAUSE = 0x102 := by decide +kernel

/-- The Cell in CONFIGURE with its PLL locked and REQ pending. -/
def cellReq (req : Word) : State := put cellRole [(Reg.CLK_RPLL_STAT, 1), (Reg.PWR_MODE_CMD, req)]

/-- modeRequestsAreTaken, in the roles and modes of its clauses. -/
theorem witness_requests :
    ready live Pg.PWR = true ∧ live.pw.role ≠ .cell ∧ live.pw.mode = .configure ∧ ready cellRole Pg.PWR = true ∧ cellRole.pw.role = .cell ∧
    after (exec .modeRequestConfigure live) (fun t => decide (t.getR Reg.PWR_MODE_CMD = 2)) = true ∧
    after (exec (.modeRequestBadCode 6) live) (fun t => decide (t.getR Reg.PWR_MODE_CMD = 6)) = true ∧
    after (exec .modeRequestCancel (put live [(Reg.PWR_MODE_CMD, 3)])) (fun t => decide (t.getR Reg.PWR_MODE_CMD = 7)) = true ∧
    after (exec .modeRequestSafe running) (fun t => decide (t.pw.mode = .safe ∧ t.getR Reg.PWR_SAFE_CAUSE = 2)) = true ∧
    after (exec .modeRequestRun cellRole) (fun t => decide (t.getR Reg.PWR_REFUSE_WHY = 0x2000)) = true := by decide +kernel

/-- ModeRequestsAreJudgedAtE0: a transition made from each mode, and RUN refused for a dwell of no period. -/
theorem witness_mode_eval :
    ((cellReq 3).why &&& 0x27F = 0 ∧ (cellReq 3).modeEval.pw.mode = .armed) ∧
    (let s := { cellReq 2 with pw := { cellRole.pw with mode := .safe, clearedAt := some 0 } }
     s.modeEval.pw.mode = .configure ∧ s.modeEval.pw.cblock = false) ∧
    (let s := { cellReq 3 with pw := { cellRole.pw with mode := .run } }
     s.modeEval.pw.mode = .armed) ∧
    (let s := { cellReq 2 with pw := { cellRole.pw with mode := .armed } }
     s.modeEval.pw.mode = .configure) ∧
    (let s := { cellReq 4 with pw := { cellRole.pw with mode := .armed } }
     s.getF Reg.PWR_MODE_CMD 0 3 = 4 ∧ s.why &&& 0x1FFF ≠ 0 ∧ s.modeEval.pw.mode = .armed ∧ s.modeEval.getB Reg.PWR_REFUSE_WHY 12 = true) ∧
    (let s := put { cellReq 4 with pw := { cellRole.pw with mode := .armed }, cell := { cell0 with digestOk := true } }
       [(Reg.PWR_MODE_SINCE, 1), (Reg.CELL_POSITION, 0x8000)]
     s.why &&& 0xBFF = 0) := by decide +kernel

/-- SAFE with soft turn-off done, the Guard verified, and the first key at tick 80,000. -/
def clearing : State :=
  { live with pw := { live.pw with mode := .safe, softOff := true, clearFirst := some 80000 },
              clk := { live.clk with tick := 80000 + tickMs },
              grd := { guard0 with inReset := false, profileOk := true } }

/-- ClearanceTakesTwoKeys: the second key exactly 1 ms later, with each condition met; and without the first. -/
theorem witness_clearance :
    (let s := { live with pw := { live.pw with mode := .safe } }
     s.pw.mode = .safe ∧ s.islAllOff = true ∧ s.dirs = [] ∧ after (exec .softOffDone s) (fun t => t.pw.softOff) = true) ∧
    (ready clearing Pg.PWR = true ∧ clearing.clk.tick ≤ 80000 + tickMs ∧ clearing.pw.mode = .safe ∧ clearing.safeActive = 0 ∧
      clearing.pw.softOff = true ∧ clearing.gblock = false ∧
      after (exec .clearanceSecond clearing) (fun t => decide (t.pw.clearedAt = some clearing.clk.tick)) = true) ∧
    (ready live Pg.PWR = true ∧ live.pw.clearFirst = none ∧
      after (exec .clearanceSecond live) (fun t => decide (t.getF (Hdr.EVENT_CNT Pg.PWR) 0 16 = 1)) = true ∧
      after (exec .clearanceFirst live) (fun t => decide (t.pw.clearFirst = some 80000)) = true) ∧
    (let s := { clearing with pw := { clearing.pw with clearedAt := some 80000 } }
     after (exec .clearedLapse s) (fun t => t.pw.clearedAt.isNone && decide (t.clk.tick = 80000 + 100 * tickMs)) = true) ∧
    after (exec .guardLost running) (fun t => decide (t.pw.mode = .safe ∧ t.getR Reg.PWR_SAFE_CAUSE = 0x20)) = true := by decide +kernel

/-- resetsEnterBoot. -/
theorem witness_resets :
    State.reset.pw.mode = .dormant ∧ after (exec (.porNRelease 1) State.reset) (fun t => decide (t.pw.mode = .boot ∧ t.pw.role = .cell)) = true ∧
    running.pw.mode ≠ .dormant ∧ after (exec .porNAssert running) (fun t => decide (t.pw.mode = .dormant ∧ t.pw.causePending = 1)) = true ∧
    after (exec .resetNAssert running) (fun t => decide (t.pw.mode = .boot ∧ t.pw.causePending = 5)) = true ∧
    ready live Pg.PWR = true ∧ after (exec (.swReset 0x6D0F) live) (fun t => decide (t.pw.mode = .boot)) = true ∧
    after (exec (.swReset 0) live) (fun t => decide (t.pw.mode = .configure ∧ t.getF (Hdr.EVENT_CNT Pg.PWR) 0 16 = 1)) = true ∧
    keptReg Reg.LOG_SEQ_NEXT = true ∧ keptReg Reg.TIME_PERIOD = false := by decide +kernel

/-- bootRunsItsSteps: an answering Guard, one in reset, and one that never answers. -/
theorem witness_boot :
    let b := { State.reset with pw := { power0 with mode := .boot }, grd := { guard0 with inReset := false } }
    let g := { State.reset with pw := { power0 with mode := .boot } }
    b.pw.mode = .boot ∧ b.pw.bootDone = false ∧ b.pw.bootFatal = false ∧ b.pw.guardTimeout = false ∧ b.grd.inReset = false ∧ g.grd.inReset = true ∧
    after (exec .guardHandshakeTimeout b) (fun t => decide (t.pw.mode = .safe) && t.pw.bootFatal) = true := by decide +kernel

/-! ## Clocks and plant time -/

/-- lockWindowsJudgeTheCount: the expected count with three good windows behind it, one beyond UNLOCK_PPM, and one between the two limits. -/
theorem witness_lock_window :
    let s := put { live with pw := { live.pw with bootDone := true } }
      [(Reg.CLK_RPLL_STAT, 0x301), (Reg.CLK_LOCK_TOL, 10000 * 2 ^ 16 + 100)]
    let e := s.winExpect
    let good := ppmTol e (s.getF Reg.CLK_LOCK_TOL 0 16)
    let bad := ppmTol e (s.getF Reg.CLK_LOCK_TOL 16 16)
    s.pw.mode ≠ .dormant ∧ s.pw.bootDone = true ∧ s.getB Reg.CLK_RPLL_STAT 1 = false ∧ good < bad ∧ 3 ≤ s.getF Reg.CLK_RPLL_STAT 8 3 ∧ e + bad + 1 < 2 ^ 20 ∧
    after (exec (.lockWindowEnd (BitVec.ofNat 20 (e + good))) s) (fun t => t.pllLocked && decide (t.getF Reg.CLK_RPLL_STAT 8 3 = 4)) = true ∧
    after (exec (.lockWindowEnd (BitVec.ofNat 20 (e + bad))) s) (fun t => t.pllLocked && decide (t.getF Reg.CLK_RPLL_STAT 8 3 = 3)) = true ∧
    after (exec (.lockWindowEnd (BitVec.ofNat 20 (e + bad + 1))) s) (fun t => !t.pllLocked && t.clk.frozen) = true := by decide +kernel

/-- clockCommandsTakeEffect: RELOCK with N = 320 and with N = 321, and outside CONFIGURE. -/
theorem witness_clock :
    let tol : Word := 200 * 2 ^ 16 + 100
    let a := put live [(Reg.CLK_RPLL_DIV, 320), (Reg.CLK_LOCK_TOL, tol)]
    let b := put live [(Reg.CLK_RPLL_DIV, 321), (Reg.CLK_LOCK_TOL, tol)]
    live.pw.mode ≠ .dormant ∧ ready live Pg.CLK = true ∧ live.pw.mode = .configure ∧ running.pw.mode ≠ .configure ∧
    after (exec .referenceLost live) (fun t => t.getB Reg.CLK_RPLL_STAT 12) = true ∧
    after (exec (.ditherWrite 0x80800000) live) (fun t => decide (t.clk.lfsr = 1 ∧ t.getR Reg.CLK_DITHER = 0x80000000)) = true ∧
    (let n := fld (a.staged Reg.CLK_RPLL_DIV) 0 9
     decide (n < 20 ∨ 320 < n ∨ a.getF Reg.CLK_LOCK_TOL 16 16 ≤ a.getF Reg.CLK_LOCK_TOL 0 16) = false) ∧
    after (exec .relock b) (fun t => t.clk.gen && t.getB Reg.CLK_RPLL_STAT 1) = true ∧
    after (exec .relock running) (fun t => decide (t.getF (Hdr.EVENT_CNT Pg.CLK) 0 16 = 1)) = true := by decide +kernel

/-- servoCommandsTakeEffect. -/
theorem witness_servo :
    let s := put live [(Reg.TIME_SERVO_CFG, 2), (Reg.TIME_SERVO_STAT, 2), (Reg.TIME_SERVO_FRAC, 5)]
    s.logq = [] ∧ s.pw.mode ≠ .dormant ∧ s.servoSrc ≠ 0 ∧ s.getF Reg.TIME_SERVO_STAT 0 2 ≠ 3 ∧ ready s Pg.TIME = true ∧ live.servoSrc = 0 ∧
    s.getF Reg.TIME_SERVO_CFG 0 2 ≠ (1 : BitVec 2).toNat ∧
    after (exec .servoHoldover s) (fun t => decide (t.getF Reg.TIME_SERVO_STAT 0 2 = 3)) = true ∧
    after (exec (.servoFracWrite 0xFFFFFFFF) live) (fun t => decide (t.getR Reg.TIME_SERVO_FRAC = 0x1FFFFFF)) = true ∧
    after (exec (.servoFracWrite 7) s) (fun t => decide (t.getR Reg.TIME_SERVO_FRAC = 5)) = true ∧
    after (exec (.servoSrcChange 1) s) (fun t => decide (t.getR Reg.TIME_SERVO_INTEG = 0x1FFFFFB ∧ t.getR Reg.TIME_SERVO_FRAC = 5)) = true := by
  decide +kernel

/-- plantTimeIsSetAndAdjusted: SET_NS at 999,999,999 and one above, ADJ_NS −1. -/
theorem witness_plant_time :
    let s := put live [(Reg.TIME_SET_NS, 999999999), (Reg.TIME_SET_SEC_LO, 4), (Reg.TIME_ADJ_NS, 0xFFFFFFFF)]
    let u := put live [(Reg.TIME_SET_NS, 1000000000)]
    ready s Pg.TIME = true ∧ (s.getR Reg.TIME_SET_NS).toNat ≤ 999999999 ∧ 999999999 < (u.getR Reg.TIME_SET_NS).toNat ∧
    after (exec .timeSet s) (fun t => decide (t.sec = 4 ∧ t.ns = 999999999)) = true ∧
    after (exec .timeSet u) (fun t => decide (t.getF (Hdr.EVENT_CNT Pg.TIME) 0 16 = 1)) = true ∧
    after (exec .timeAdjust { s with clk := { s.clk with plant8 := 80 } }) (fun t => decide (t.clk.plant8 = 77)) = true := by decide +kernel

/-- secondsAreMarkedAndAligned: edges 0.5 s apart and one tick less; PPS_OUT with the widths 0 and 500; alignment under way. -/
theorem witness_seconds :
    let s := { live with clk := { live.clk with tick := 800000000, ppsLast := some 0 } }
    let u := { live with clk := { live.clk with tick := 799999999, ppsLast := some 0 } }
    let p := put live [(Reg.TIME_PPS_CFG, 0x10000 + 500)]
    let a := put live [(Reg.TIME_EPOCH_CTRL, 1), (Reg.TIME_SERVO_STAT, 2), (Reg.TIME_EPOCH_OFFSET, 7)]
    (s.logq = [] ∧ s.pw.mode ≠ .dormant ∧ 0 + 800000000 ≤ s.clk.tick ∧ u.clk.tick < 0 + 800000000) ∧
    after (exec .ppsInEdge s) (fun t => decide (t.clk.ppsLast = some 800000000)) = true ∧
    after (exec .ppsInEdge u) (fun t => decide (t.clk.ppsIgnored = 1 ∧ t.clk.ppsLast = some 0)) = true ∧
    (p.getB Reg.TIME_PPS_CFG 16 = true ∧ p.getF Reg.TIME_PPS_CFG 0 9 ≤ 500 ∧
      after (exec .ppsOutPulse p) (fun t => decide (t.clk.plant8 % 8000000000 < 5 ∧ t.clk.ppsHigh = some (t.clk.tick + 500 * tickMs))) = true) ∧
    after (exec .ppsOutEnd { live with clk := { live.clk with ppsHigh := some 90000 } }) (fun t => decide (t.clk.tick = 90000)) = true ∧
    (a.getB Reg.TIME_EPOCH_CTRL 0 = true ∧ a.pw.mode = .configure ∧ a.getF Reg.TIME_SERVO_STAT 0 2 = 2 ∧ a.clk.gen = true ∧
      a.getB Reg.TIME_EPOCH_CTRL 16 = false ∧ 0 < a.period ∧
      after (exec .epochAlign a) (fun t => t.clk.aligning && decide (t.clk.e0Plan = some (t.clk.tick + 7 + 0 * 80000) ∨
        t.clk.e0Plan = some (t.clk.tick + 7 + 1 * 80000) ∨ t.clk.e0Plan = some (t.clk.tick + 7 + 2 * 80000))) = true) := by decide +kernel

/-- A Cell that follows port 1, its last mark 80,000 ticks ago after a spacing one tick longer. -/
def marked : State :=
  put ({ cellRole with clk := { cellRole.clk with tick := 160000, tlPort := some true, tlLast := some 80000, tlSpacing := some 80001 } })
    [(Reg.LANEn_CTRL 3, 1)]

/-- timeLaneMarksAreFollowed. -/
theorem witness_marks :
    marked.laneUsed 3 = true ∧ marked.laneMode 3 = 1 ∧ marked.pw.role = .cell ∧ marked.clk.tlPort = some (decide ((1 : Fin 8).val = 1)) ∧
    marked.clk.tlLast = some 80000 ∧ marked.clk.tlSpacing = some 80001 ∧ marked.getF Reg.TIME_CELL_LEARNED 0 24 = 0 ∧
    ((80001 : Nat) : Int) - (marked.clk.tick - 80000 : Nat) ≤ 1 ∧
    after (exec (.epochMark 1 0) marked) (fun t => decide (t.getF Reg.TIME_CELL_LEARNED 0 24 = 80000 ∧ t.period = 80000 ∧
      t.getR (Reg.LANEn_MARK_CNT 3) = 1)) = true ∧
    after (exec (.markMiss 1) marked) (fun t => decide (t.getR (Reg.LANEn_MARK_MISS_CNT 3) = 1) && t.getB (Hdr.IRQ_RAW Pg.TIME) 5) = true ∧
    after (exec .timelaneSearch marked) (fun t => t.clk.tlPort.isNone) = true := by decide +kernel

/-- epochsFallWhereTheyAreDue and epochInstantCountsAndLatches: a running generator, SAFE without lock, a halt that has locked, and BOOT. -/
theorem witness_epochs :
    (live.pw.mode ≠ .dormant ∧ live.clk.gen = true ∧ live.pw.mode ≠ .safe) ∧
    (let s := { live with pw := { live.pw with mode := .safe } }
     s.logq = [] ∧ s.pllLocked = false ∧ after (exec (.epoch epochIn0) s) (fun t => t.clk.halted && !t.clk.gen && decide (t.clk.tick = 160000)) = true) ∧
    (let s := put { cfg with clk := { clock0 with halted := true } } [(Reg.CLK_RPLL_STAT, 1)]
     s.clk.gen = false ∧ s.clk.halted = true ∧ s.pllLocked = true) ∧
    (let s := put { State.reset with pw := { power0 with mode := .boot, bootDone := true } } [(Reg.CLK_RPLL_STAT, 1)]
     s.pw.mode = .boot ∧ s.pw.bootDone = true ∧ s.pllLocked = true ∧ s.clk.gen = false ∧ s.clk.relock = false ∧ s.clk.halted = false ∧
     s.getF Reg.PWR_MODE_CMD 0 3 = 7 ∧ s.pw.prior = false ∧ (s.epochMode true).pw.mode = .configure ∧
     (let u := { s with pw := { s.pw with prior := true } }
      (u.epochMode true).pw.mode = .safe ∧ (u.epochMode true).getR Reg.PWR_SAFE_CAUSE = 8)) ∧
    live.epochInstant.getR Reg.TIME_PERIOD_CNT = 1 := by decide +kernel

/-- outputAndApplyPhasesHappenOnce: FIN retired and not, and E6 of a Wellhead with APPLY_PHASE 255. -/
theorem witness_phases :
    let s := { running with pump := { pump0 with inForce := true, lay0 := { bankLayout0 with outPhase := 228 } } }
    let f := { s with pump := { s.pump with finAt := some 1700 } }
    let a := put running [(Reg.TIME_APPLY_PHASE, 255)]
    (s.pw.mode ≠ .dormant ∧ s.clk.gen = true ∧ s.pump.inForce = true ∧ s.pump.e4Done = false) ∧
    after (exec .outPhase s) (fun t => t.pump.e4Done && t.pump.overrun && decide (t.clk.tick = 80000 + 228 * 80000 / 256)) = true ∧
    after (exec .outPhase f) (fun t => t.pump.e4Done && !t.pump.overrun) = true ∧
    (a.applyPhase ≠ 0 ∧ a.clk.e6Done = false ∧
      after (exec .applyPhase a) (fun t => t.clk.e6Done && decide (t.clk.tick = 80000 + 255 * 80000 / 256)) = true) := by decide +kernel

/-! ## The log, scrubbing and ageing -/

/-- logCommandsTakeEffect: an entry that waits, with the Keeper's ring at its last slot, and without VKEEP; VOL_RD up to VOL_WR and beyond. -/
theorem witness_log :
    let s := { put live [(Reg.LOG_VOL_WR, 3), (Reg.LOG_VOL_RD, 1)] with kp := { keeper0 with pq := [[1, 2]], vkeepOk := true, headerOk := true, pNext := 1023 } }
    let u := { s with kp := { s.kp with vkeepOk := false } }
    (s.logq = [] ∧ s.kp.pq = [[1, 2]] ∧ s.pw.mode ≠ .dormant ∧
      after (exec .logPersistWrite s) (fun t => decide (t.kp.pq = [] ∧ t.nvBytes (0x2000 + 24 * 1023) 2 = [1, 2] ∧ t.kp.pNext = 0)) = true) ∧
    (u.kp.vkeepOk = false ∧ after (exec .logPersistWrite u) (fun t => decide (t.kp.pq = []) && t.getB (Hdr.IRQ_RAW Pg.LOG) 2) = true) ∧
    ready s Pg.LOG = true ∧ s.volHeld = 2 ∧ (fld (3 : Word) 0 13 + 8192 - s.getF Reg.LOG_VOL_RD 0 13) % 8192 ≤ s.volHeld ∧
    s.volHeld < (fld (4 : Word) 0 13 + 8192 - s.getF Reg.LOG_VOL_RD 0 13) % 8192 ∧
    after (exec (.volRdWrite 3) s) (fun t => decide (t.getF Reg.LOG_VOL_RD 0 13 = 3)) = true ∧
    after (exec (.volRdWrite 4) s) (fun t => decide (t.getF Reg.LOG_VOL_RD 0 13 = 1)) = true ∧
    after (exec .logClear (put live [(Reg.LOG_LOST_CNT, 4)])) (fun t => decide (t.getR Reg.LOG_LOST_CNT = 0)) = true := by decide +kernel

/-- ageingRecordIsLogged. -/
theorem witness_ageing :
    live.logq = [] ∧ live.pw.mode ≠ .dormant ∧
    after (exec .ageingRecord (put live [(Reg.TEST_SEC_105, 0x1234)])) (fun t => decide (t.kp.pq.map (fun e => (e.length, e.getD 16 0, e.getD 13 0)) =
      [(24, 0x34, 0x90)])) = true := by decide +kernel

/-- healthCommandsTakeEffect: the last word of a pass, which is a Table RAM word or another critical one in RUN; 105.0 °C and above. -/
theorem witness_health :
    let s := { put running [(Reg.TEST_SCRUB_CFG, 1)] with tst := { scrubPos := scrubWords - 1 } }
    let u := { put running [(Reg.TEST_SCRUB_CFG, 1)] with tst := { scrubPos := 147456 } }
    (s.pw.mode ≠ .dormant ∧ s.getB Reg.TEST_SCRUB_CFG 0 = true ∧ s.tst.scrubPos < scrubWords ∧
      after (exec (.scrubStep .single) s) (fun t => decide (t.tst.scrubPos = 0) && t.getB (Hdr.IRQ_RAW Pg.TEST) 0) = true) ∧
    (u.pw.mode = .run ∧ u.criticalWord (scrubAddr u.tst.scrubPos) = true ∧
      after (exec (.scrubStep .uncorrectable) u) (fun t => decide (t.pw.mode = .safe)) = true) ∧
    after (exec (.tempSample 1050) live) (fun t => decide (t.getR Reg.TEST_SEC_105 = 0)) = true ∧
    after (exec (.tempSample 1051) live) (fun t => decide (t.getR Reg.TEST_SEC_105 = 1)) = true ∧
    after (exec (.tempSample 0xFF00) live) (fun t => decide (t.getR Reg.TEST_SEC_105 = 0 ∧ t.getR Reg.TEST_TJ = 0xFF00)) = true ∧
    after (exec (.roMeasure 0xFFFFFFFF) (put live [(Reg.TEST_RO_LIM, 0)])) (fun t => t.getB Reg.TEST_AGE_STAT 4) = true ∧
    ready live Pg.TEST = true ∧ live.pw.mode = .configure ∧ running.pw.mode ≠ .configure ∧
    after (exec .ageLoad (put live [(Reg.TEST_AGE_LOAD_105, 8)])) (fun t => decide (t.getR Reg.TEST_SEC_105 = 8)) = true ∧
    after (exec .testClearLaneMin live) (fun t => decide (t.getR (Reg.TEST_LANE_MIN 15) = 0xFF)) = true := by decide +kernel

/-! ## Host accesses and the loader -/

/-- BadAddressesAreRecorded: each cause at a boundary of its range; 0 beside it. -/
theorem witness_bad_addresses :
    addressCause 0x1000000 = 6 ∧ addressCause 0xFFFFFF = 7 ∧ addressCause 0x58000 = 1 ∧ addressCause 0xFFFFC = 1 ∧ addressCause 0x100000 = 0 ∧
    addressCause 0x200000 = 3 ∧ addressCause 0x22FFFC = 3 ∧ addressCause 0x230000 = 1 ∧ addressCause 0x428000 = 3 ∧ addressCause 0x430FFC = 3 ∧
    addressCause 0x431000 = 1 ∧ addressCause 0x450000 = 1 ∧ live.pw.mode ≠ .dormant ∧ live.pw.busChange = none ∧ live.logq = [] ∧
    live.getR Reg.HOST_BUS_ERR_CNT = 0 ∧
    (∀ a ∈ [0x1000000, 0xFFFFFF, 0x58000, 0x200000, 0x22FFFC, 0x430FFC, 0x450000],
      after (exec (.hostMemoryWrite (w32 a) 5 15) live) (fun t => decide (t.getR Reg.HOST_BUS_ERR_CAUSE = w32 (addressCause a) ∧
        t.getR Reg.HOST_BUS_ERR_ADDR = w32 (a % 2 ^ 24) ∧ t.getR Reg.HOST_BUS_ERR_CNT = 1 ∧ t.mem = [])) = true) := by decide +kernel

/-- memoryWritesStoreTheEnabledBytes: the last word of Main SRAM, with byte enables 1000b; and a word of the output region. -/
theorem witness_memory_write :
    let o := put live [(Reg.PUMP_RES_LEN 7, 1)]
    live.pw.load = none ∧ live.outputWord 0x1FFFFC = none ∧ (o.outputWord sramBase).isSome = true ∧ (o.outputWord (sramBase + 8)).isSome = false ∧
    after (exec (.hostMemoryWrite 0x1FFFFC 0x11223344 8) live) (fun t => decide (t.mem = [(0x1FFFFF, 0x11)])) = true ∧
    after (exec (.hostMemoryWrite 0x100000 5 15) o) (fun t => decide (t.mem = [] ∧ t.getR Reg.HOST_BUS_ERR_CAUSE = 3)) = true := by decide +kernel

/-- guardWritesArePosted: a queue of fifteen and of sixteen; the last word of the Guard's RAM. -/
theorem witness_guard_post :
    let q (n : Nat) : State := { live with pw := { live.pw with gpost := List.replicate n (0x443FFC, 0x11223344, 8) }, grd := { guard0 with inReset := false } }
    (q 15).pw.gpost.length < 16 ∧ 16 ≤ (q 16).pw.gpost.length ∧
    after (exec (.guardWritePost 0x44FFFC 5 15) (q 15)) (fun t => decide (t.pw.gpost.length = 16)) = true ∧
    after (exec (.guardWritePost 0x440000 5 15) (q 16)) (fun t => decide (t.pw.gpost.length = 16 ∧ t.getR Reg.HOST_BUS_ERR_CAUSE = 5)) = true ∧
    (q 1).grd.inReset = false ∧ after (exec .guardWriteApply (q 1)) (fun t => decide (t.grd.ram = [(0x3FFF, 0x11)] ∧ t.pw.gpost = [])) = true := by
  decide +kernel

/-- registerWritesObeyTheHeader: IRQ_RAW and IRQ_EN of PUMP, a partial write, and a locked page. -/
theorem witness_header_writes :
    let s := put live [(Hdr.IRQ_RAW Pg.PUMP, 7)]
    s.idle Pg.PUMP = false ∧ (w32 (Hdr.IRQ_RAW Pg.PUMP)).toNat / 4096 = Pg.PUMP ∧ (w32 (Hdr.IRQ_RAW Pg.PUMP)).toNat % 4096 = 0x0C ∧
    after (exec (.registerWrite (w32 (Hdr.IRQ_RAW Pg.PUMP)) 3 15) s) (fun t => decide (t.getR (Hdr.IRQ_RAW Pg.PUMP) = 4)) = true ∧
    after (exec (.registerWrite (w32 (Hdr.IRQ_EN Pg.PUMP)) 0xFFFFFFFF 15) s) (fun t => decide (t.getR (Hdr.IRQ_EN Pg.PUMP) = irqDefined Pg.PUMP)) = true ∧
    after (exec (.registerWrite (w32 Reg.PUMP_OVR_CFG) 9 7) s) (fun t => decide (t.getR Reg.HOST_BUS_ERR_CAUSE = 2 ∧
      t.getR Reg.PUMP_OVR_CFG = s.getR Reg.PUMP_OVR_CFG)) = true ∧
    after (exec (.registerWrite (w32 Reg.PUMP_OVR_CFG) 9 15) s) (fun t => decide (t.getR Reg.PUMP_OVR_CFG = 9)) = true ∧
    (lockedPage Pg.PUMP).locked Pg.PUMP = true ∧
    after (exec (.registerWrite (w32 Reg.PUMP_OVR_CFG) 9 15) (lockedPage Pg.PUMP)) (fun t => decide (t.getF (Hdr.EVENT_CNT Pg.PUMP) 0 16 = 1)) = true := by
  decide +kernel

/-- pageHeaderCommandsTakeEffect on page 87, and on TIME, which has shadows. -/
theorem witness_page_header :
    let p := Pg.TIME
    let s := { put live [(Hdr.SHADOW_CTRL p, 0x200), (Hdr.EVENT_CNT p, 9)] with shadow := [(Reg.TIME_PERIOD, 70000)] }
    live.idle 87 = false ∧ live.getB (Hdr.LOCK 87) 1 = false ∧ live.locked 87 = false ∧ hasShadow 87 = false ∧ hasShadow p = true ∧ s.locked p = false ∧
    (put live [(Hdr.LOCK 87, 3)]).getB (Hdr.LOCK 87) 1 = true ∧ fld (0 : Word) 8 8 ≠ 0x5A ∧ fld (0 : Word) 8 8 ≠ 0xA5 ∧
    after (exec (.pageLock 87) live) (fun t => decide (t.getR (Hdr.LOCK 87) = 1)) = true ∧
    after (exec (.pageLockSticky 87) live) (fun t => decide (t.getR (Hdr.LOCK 87) = 3)) = true ∧
    after (exec (.pageUnlock 87 0xA500) (put live [(Hdr.LOCK 87, 1)])) (fun t => decide (t.getR (Hdr.LOCK 87) = 0)) = true ∧
    after (exec (.pageUnlock 87 0xA500) (put live [(Hdr.LOCK 87, 3)])) (fun t => decide (t.getR (Hdr.LOCK 87) = 3)) = true ∧
    after (exec (.shadowCommit ⟨p, by decide⟩) s) (fun t => t.getB (Hdr.SHADOW_CTRL p) 8) = true ∧
    after (exec (.shadowDiscard ⟨p, by decide⟩) s) (fun t => decide (t.shadow = [] ∧ t.getR (Hdr.SHADOW_CTRL p) = 0)) = true ∧
    after (exec (.eventCntClear ⟨p, by decide⟩) s) (fun t => decide (t.getR (Hdr.EVENT_CNT p) = 0)) = true := by decide +kernel

/-- hostPageCommandsTakeEffect. -/
theorem witness_host_page :
    ready live Pg.HOST = true ∧ bit (1 : Word) 0 ≠ live.pw.busSync ∧
    after (exec (.busCfgWrite 1) live) (fun t => decide (t.pw.busChange = some (81600, true) ∧ t.pw.busSync = false)) = true ∧
    after (exec .busModeApply { live with pw := { live.pw with busChange := some (81600, true) } }) (fun t => t.pw.busSync && t.pw.busChange.isNone &&
      decide (t.clk.tick = 81600)) = true ∧
    after (exec .clearStale (put live [(Reg.HOST_STALE_CNT, 3)])) (fun t => decide (t.getR Reg.HOST_STALE_CNT = 0)) = true := by decide +kernel

/-- readsReturnAndLatch: the snapshot of the log's record, a memory word, and an uncorrectable one. -/
theorem witness_reads :
    let a := Pg.LOG * 4096 + 0x68
    let s := { live with mem := [(0x1FFFFC, 7)] }
    (w32 a).toNat < 0x58000 ∧ live.idle ((w32 a).toNat / 4096) = false ∧ (snapGroup (w32 a).toNat).isSome = true ∧
    after (exec (.snapRead (w32 a)) live) (fun t => decide (t.regs = live.regs)) = true ∧
    after (exec (.hostRead 0x1FFFFC .good) s) (fun t => decide (t.pw.hostData = 7)) = true ∧
    after (exec (.hostRead 0x1FFFFC .uncorrectable) s) (fun t => decide (t.pw.hostData = 7 ∧ t.getR Reg.HOST_BUS_ERR_CAUSE = 4 ∧
      t.getR Reg.TEST_UE_ADDR = 0x1FFFFC)) = true := by decide +kernel

/-- selectorsTakeValidHandles: a live profile's handle, and one of another generation. -/
theorem witness_selectors :
    let s := live.setProf 15 (prof0 1)
    ready s (selectorReg .pfSel / 4096) = true ∧ s.validFor (mkHandle 3 9 15) (selectorClass .pfSel) = true ∧
    s.validFor (mkHandle 3 8 15) (selectorClass .pfSel) = false ∧
    after (exec (.handleSelect .pfSel (mkHandle 3 9 15)) s) (fun t => decide (t.getR Reg.PROF_PF_SEL = mkHandle 3 9 15)) = true ∧
    after (exec (.handleSelect .pfSel (mkHandle 3 8 15)) s) (fun t => decide (t.getR Reg.PROF_PF_SEL = 0 ∧ t.getR Reg.HOST_STALE_CNT = 1 ∧
      t.getR Reg.HOST_STALE_HANDLE = mkHandle 3 8 15)) = true := by decide +kernel

/-- A table image at the start of Main SRAM for table 7: header, 1,024 entries of +0.0 but the first, 1.0, and no swap. -/
def tableImage : State :=
  { live with mem := [(0x100000, 0x57), (0x100001, 0x44), (0x100002, 0x47), (0x100003, 0x4E), (0x100004, 3), (0x100005, 1), (0x100007, 2),
                      (0x100008, 0x70), (0x100009, 0x10)] ++ [(0x100018, 0x45), (0x100019, 0x37), (0x10001A, 0x5F), (0x10001B, 0xA2)] ++
                     [(0x100061, 4), (0x100062, 1), (0x100072, 0x80), (0x100073, 0x3F)],
              pw := { live.pw with load := some (0, 7, 80000) } }

/-- loaderRunsItsChecks and headerChecksComeInOrder: an idle loader, a good table image, a bad magic, and an image one byte beyond. -/
theorem witness_loader :
    (ready live Pg.HOST = true ∧ live.loaderBusy = false ∧ (put live [(Reg.HOST_LOAD_STAT, 1)]).loaderBusy = true ∧
      after (exec .loadStart live) (fun t => decide (t.pw.load = some (0, 0, 80000) ∧ t.getR Reg.HOST_LOAD_STAT = 1)) = true) ∧
    (tableImage.pw.load = some (0, 7, 80000) ∧ tableImage.img 0 4 1 = 3 ∧ (7 : Word).toNat ≤ 7 ∧
      after (exec .loadAbort tableImage) (fun t => t.pw.load.isNone && decide (t.getR Reg.HOST_LOAD_STAT = 0x0F02)) = true) ∧
    (let s := { live with pw := { live.pw with load := some (0xFFFA1, 7, 80000) } }
     s.headerFail 0xFFFA1 = some (0x05, 0) ∧ after (exec .loadDone s) (fun t => t.pw.load.isNone && decide (t.getR Reg.HOST_LOAD_STAT = 0x0502)) = true) ∧
    live.headerFail 0xFFFA0 = some (0x01, 0) ∧
    ({ tableImage with mem := tableImage.mem.filter (fun e : Nat × Byte => decide (e.1 ≠ 0x100004)) }).headerFail 0 = some (0x02, 0) ∧
    ({ tableImage with mem := tableImage.mem.filter (fun e : Nat × Byte => decide (e.1 ≠ 0x100005)) }).headerFail 0 = some (0x03, 0) ∧
    ({ tableImage with pw := { tableImage.pw with role := .wellhead }, mem := tableImage.mem.filter (fun e : Nat × Byte => decide (e.1 ≠ 0x100007)) ++ [] }).img 0 7 1 = 0 ∧
    roleFits .cell 0 = false ∧ roleFits .wellhead 0 = true := by decide +kernel

theorem crc32Run_append : ∀ (a b : List Byte) (c : Word), crc32Run c (a ++ b) = crc32Run (crc32Run c a) b
  | [], _, _ => rfl
  | _ :: xs, b, _ => crc32Run_append xs b _

/-- `f` of a number that is evaluated first. -/
def forced (f : Word → Word) : Nat → Word
  | 0 => f (BitVec.ofNat 32 0)
  | n + 1 => f (BitVec.ofNat 32 (n + 1))

theorem forced_eq (f : Word → Word) (c : Word) : forced f c.toNat = f c := by
  have h : BitVec.ofNat 32 c.toNat = c := by simp
  conv => rhs; rw [← h]
  cases c.toNat <;> rfl

/-- The CRC register after the bytes, evaluated byte by byte. -/
def crcForced (c : Word) : List Byte → Word
  | [] => c
  | b :: bs => forced (fun d => crcForced d bs) (crc32Shift 8 (c ^^^ b.setWidth 32)).toNat

theorem crcForced_eq : ∀ (bs : List Byte) (c : Word), crcForced c bs = crc32Run c bs
  | [], _ => rfl
  | b :: bs, c => by rw [crcForced, forced_eq, crcForced_eq bs]; rfl

/-- The CRC register after each 124 zero bytes. -/
def crcBlocks (c : Word) : List Word → Bool
  | [] => true
  | d :: ds => decide (crcForced c (List.replicate 124 0) = d) && crcBlocks d ds

theorem crcBlocks_run : ∀ (l : List Word) (c : Word), crcBlocks c l = true → crc32Run c (List.replicate (124 * l.length) 0) = l.getLastD c
  | [], _, _ => rfl
  | d :: ds, c, h => by
    simp only [crcBlocks, Bool.and_eq_true, decide_eq_true_eq] at h
    have e : 124 * (d :: ds).length = 124 + 124 * ds.length := by simp only [List.length_cons]; omega
    rw [e, ← List.replicate_append_replicate, crc32Run_append, ← crcForced_eq (List.replicate 124 0), h.1, crcBlocks_run ds d h.2]
    cases ds <;> rfl

/-- The register after the 116 bytes that are not all zero and after each 124 of the 4,092 zero bytes that follow. -/
def crcWords : List Word :=
  [0x7A97270C, 0x89ADADD6, 0x466982CB, 0xE2BC23AC, 0x668ECFF0, 0x4CB25B4E, 0xBD12CCF4, 0x9E8B42EF, 0x789DF9CF, 0x01C2926A,
    0x1597DB5C, 0x22945E4D, 0x85A9C21F, 0x58909B4C, 0x2A9CA0D0, 0x13AE8E25, 0xFA017FDC, 0x851A3862, 0xB38CAC40, 0x34434428,
    0x53256CB9, 0xF34BFE5F, 0x0F4C7CF5, 0x7A0D5822, 0xD07B3283, 0x8C7B5A43, 0x3D8EACE3, 0x1C34D214, 0x6513CBD9, 0x63587934,
    0xA7929C4B, 0xD44519CB, 0x5DA0C8BA]

theorem memBytes_zero (s : State) : ∀ (n a : Nat), (∀ k, a ≤ k → s.memB k = 0) → s.memBytes a n = List.replicate n 0
  | 0, _, _ => rfl
  | n + 1, a, h => by
    rw [State.memBytes, h a (Nat.le_refl a), memBytes_zero s n (a + 1) (fun k hk => h k (by omega))]
    rfl

theorem memBytes_add (s : State) : ∀ (n m a : Nat), s.memBytes a (n + m) = s.memBytes a n ++ s.memBytes (a + n) m
  | 0, m, a => by simp [State.memBytes]
  | n + 1, m, a => by
    rw [Nat.add_right_comm, State.memBytes, State.memBytes, memBytes_add s n m (a + 1), Nat.add_right_comm a 1 n]
    rfl

theorem tableImage_zero (k : Nat) (h : 0x100074 ≤ k) : tableImage.memB k = 0 := by
  have hn : ∀ e ∈ tableImage.mem, e.1 < k := by
    intro e he
    have : ∀ e ∈ tableImage.mem, e.1 < 0x100074 := by decide
    exact Nat.lt_of_lt_of_le (this e he) h
  unfold State.memB SMap.get
  have hf : ∀ (m : SMap Byte), (∀ e ∈ m, e.1 < k) → SMap.find k m = none := by
    intro m
    induction m with
    | nil => intro _; rfl
    | cons e es ih =>
      intro hm
      unfold SMap.find
      have := hm e (by simp)
      rw [if_neg (by omega)]
      exact ih (fun x hx => hm x (by simp [hx]))
  rw [hf _ hn]
  rfl

theorem tableImage_crc : crc32 (tableImage.imgChecked 0 0x1070) = 0xA25F3745 := by
  have hz : tableImage.imgBytes 0 0x60 4112 = tableImage.imgBytes 0 0x60 20 ++ List.replicate 4092 0 := by
    unfold State.imgBytes
    rw [show 4112 = 20 + 4092 from rfl, memBytes_add, memBytes_zero _ 4092 _ (fun k hk => tableImage_zero k hk)]
  have hc : crcBlocks 0x8BD508CF crcWords = true := by decide +kernel
  have h0 : crcForced 0xFFFFFFFF (tableImage.imgBytes 0 0 0x18 ++ List.replicate 4 0 ++ tableImage.imgBytes 0 0x1C 0x24 ++ List.replicate 32 0 ++
      tableImage.imgBytes 0 0x60 20) = 0x8BD508CF := by decide +kernel
  have hr : crc32Run 0x8BD508CF (List.replicate 4092 0) = 0x5DA0C8BA := by
    have := crcBlocks_run _ _ hc
    rwa [show 124 * crcWords.length = 4092 from rfl, show crcWords.getLastD 0x8BD508CF = 0x5DA0C8BA from rfl] at this
  have hl : crc32 (tableImage.imgChecked 0 0x1070) = crc32Run 0xFFFFFFFF (tableImage.imgBytes 0 0 0x18 ++ List.replicate 4 0 ++
      tableImage.imgBytes 0 0x1C 0x24 ++ List.replicate 32 0 ++ tableImage.imgBytes 0 0x60 4112) ^^^ 0xFFFFFFFF := by
    rw [crc32, State.imgChecked]
  rw [hl, hz, ← List.append_assoc, crc32Run_append, ← crcForced_eq (tableImage.imgBytes 0 0 0x18 ++ _ ++ _ ++ _ ++ _), h0, hr]
  decide

theorem witness_table_image : tableImage.headerFail 0 = none ∧ (tableImage.loadTable 0 (tableImage.img 0 8 4) 7).1 = 0 := by
  have h8 : tableImage.img 0 8 4 = 0x1070 := by decide +kernel
  have hh : tableImage.img 0 4 1 = 3 ∧ decide (tableImage.img 0 0x0C 1 = 1) = false ∧ tableImage.img 0 0 4 = 0x4E474457 ∧ tableImage.img 0 5 1 = 1 ∧
      roleFits tableImage.pw.role (tableImage.img 0 7 1) = true ∧ tableImage.badHeaderByte 0 = none ∧ tableImage.img 0 0x18 4 = 0xA25F3745 ∧
      tableImage.getB Reg.HOST_LOAD_CFG 0 = false ∧ modeCode tableImage.pw.mode = 2 := by decide +kernel
  have ht : tableImage.tab.armed.getLsbD 7 = false ∧ tableImage.tab.busy.getLsbD 7 = false ∧ tableImage.img 0 0x60 2 = 1024 ∧
      tableImage.img 0 0x62 1 = 1 ∧ tableImage.img 0 0x63 1 = 0 ∧ tableImage.imgZero 0 0x64 12 = true := by decide +kernel
  obtain ⟨h1, h2, h3, h4, h5, h6, h7, h9, h10⟩ := hh
  obtain ⟨t1, t2, t3, t4, t5, t6⟩ := ht
  constructor
  · simp [State.headerFail, h8, h1, h2, h3, h4, h5, h6, h7, h9, h10, tableImage_crc, w32]
  · unfold State.loadTable
    rw [t1, t2, h8, t3, t4, t5, t6]
    simp

/-! ## Generators and drive islands -/

/-- Generator 11 counting from tick 80,000 with PRD 4,000. -/
def gen0 : PwmGen := { pwmReset with running := true, t0 := 80000, prd := 4000 }

/-- The device with generator 11 as given and PRD 4,000. -/
def withGen (s : State) (ctrl : Word) (p : PwmGen) : State :=
  put (s.setGen 11 p) [(Reg.PWMn_CTRL 11, ctrl), (Reg.PWMn_PRD 11, 4000), (Reg.PWMn_CMPC 11, 3999), (Reg.PWMn_CMPA 11, 1000)]

/-- generatorPointsFallInOrder: BOUNDARY with a commit armed, MID in up-down counting, and SYNC_OUT at the last position of the period. -/
theorem witness_pwm_points :
    let b := { put (withGen live 1 gen0) [(Hdr.SHADOW_CTRL (Pg.PWMn 11), 0x300)] with shadow := [(Reg.PWMn_CMPA 11, 5)] }
    let m := withGen live 3 gen0
    let o := put (withGen live 1 gen0) [(Reg.PWMC_SYNCO, 0x1B), (Reg.PWMC_SYNCO_PHASE, 3999)]
    (b.pwmRuns 11 = true ∧ b.xferBoundary 11 = true ∧ b.getB (Hdr.SHADOW_CTRL (Pg.PWMn 11)) 8 = true ∧
      after (exec (.pwmBoundary 11) b) (fun t => decide ((t.gen 11).t0 = 84000 ∧ t.shadow = [] ∧ t.getR (Reg.PWMn_CMPA 11) = 5)) = true) ∧
    (m.pwmRuns 11 = true ∧ m.pwmUpDown 11 = true ∧ (m.gen 11).half = false ∧ (m.gen 11).prd % 2 = 0 ∧
      after (exec (.pwmMid 11) m) (fun t => (t.gen 11).half && decide (t.clk.tick = 82000)) = true) ∧
    (o.getF Reg.PWMC_SYNCO 0 4 = 11 ∧ o.getB Reg.PWMC_SYNCO 4 = true ∧ o.getB Reg.TIME_IO_CFG 0 = false ∧
      o.getF Reg.PWMC_SYNCO_PHASE 0 24 < (o.gen 11).prd ∧
      after (exec .syncOutPulse o) (fun t => decide (t.syncOut = some 84079 ∧ t.clk.tick = 83999)) = true) := by decide +kernel

/-- edgesNeverOverlap: the fall of raw A at the compare value, and a placed fall of A. -/
theorem witness_edges :
    let s := withGen live 1 { gen0 with a := { pwmOff0 with raw := true, on := true, rose := 80000 } }
    let p := withGen live 1 { gen0 with a := { pwmOff0 with on := true, rose := 80000, place := some 80500 } }
    (s.pwmRuns 11 = true ∧ (s.nextEdge 11).isSome = true ∧ s.pwmIndep 11 = false ∧ ¬ ((s.gen 11).a.on = true ∧ (s.gen 11).b.on = true)) ∧
    (p.pwmRuns 11 = true ∧ (match p.nextEdge 11 with | some (t, .place false) => decide (t = 80500) | _ => false) = true ∧ ((p.gen 11).out false).on = true ∧
      after (exec (.pwmCompareEdge 11) p) (fun t => !(t.gen 11).a.on && decide (t.getR (Reg.PWMn_ONTIME_A 11) = 500)) = true) := by decide +kernel

/-- triggerComparesFireOnceAPeriod at the last position of the period. -/
theorem witness_triggers :
    let s := put (withGen live 1 gen0) [(Hdr.IRQ_EN (Pg.PWMn 11), 0x20)]
    s.pwmRuns 11 = true ∧ s.getF (Reg.PWMn_CMPC 11) 0 24 < (s.gen 11).prd ∧ (s.gen 11).cDone = false ∧
    (s.clk.tick : Int) ≤ (s.gen 11).t0 + ((s.getF (Reg.PWMn_CMPC 11) 0 24 : Nat) : Int) ∧
    after (exec (.triggerCompareEvent 11 false) s) (fun t => (t.gen 11).cDone && t.getB (Hdr.IRQ_RAW (Pg.PWMn 11)) 5 &&
      decide (t.clk.tick = 83999)) = true := by decide +kernel

/-- tripInputsStopTheirGenerators: TZ3 on generator 11, its negation, and the clears. -/
theorem witness_trips :
    let s := put (withGen running 1 gen0) [(Reg.PWMn_TRIP_EN 11, 8)]
    let u := put s [(Reg.PWMC_TZ_STAT, 0x808)]
    let c := withGen live 1 { gen0 with oneShot := 1 }
    (s.pw.mode ≠ .dormant ∧ s.getB Reg.PWMC_TZ_STAT 3 = false ∧ s.idle (Pg.PWMn 11) = false ∧ s.getB (Reg.PWMn_TRIP_EN 11) 3 = true ∧
      after (exec (.tzAssert 3 true) s) (fun t => (t.gen 11).tripped && decide (t.getR Reg.PWMC_TZ_STAT = 0x808)) = true) ∧
    (u.logq = [] ∧ u.getB Reg.PWMC_TZ_STAT 3 = true ∧ after (exec (.tzAssert 3 false) u) (fun t => decide (t.getR Reg.PWMC_TZ_STAT = 0x800)) = true) ∧
    (ready u Pg.PWMC = true ∧ after (exec .tzClr u) (fun t => decide (t.getR Reg.PWMC_TZ_STAT = 8)) = true) ∧
    (ready c (Pg.PWMn 11) = true ∧ c.tripLevel = 0 ∧ (c.gen 11).oneShot = 1 ∧
      after (exec (.pwmTripClr 11) c) (fun t => decide ((t.gen 11).oneShot = 2)) = true) := by decide +kernel

/-- GeneratorCommandsTakeEffect. -/
theorem witness_pwm_commands :
    let s := withGen live 1 { gen0 with running := false }
    let y := withGen live 0x81 { gen0 with running := false }
    let c := withGen live 0x101 gen0
    let r := withGen running 1 gen0
    (ready s Pg.PWMC = true ∧ (0x800 : BitVec 12).getLsbD 11 = true ∧ s.pwmEn 11 = true ∧ s.pwmLock 11 = false ∧ s.pwmSynci 11 = false ∧
      s.idle (Pg.PWMn 11) = false ∧ after (exec (.pwmStart 0x800) s) (fun t => (t.gen 11).running && decide (t.clk.tick = 80016)) = true ∧
      after (exec (.gcommit 0x800) s) (fun t => t.getB (Hdr.SHADOW_CTRL (Pg.PWMn 11)) 8) = true) ∧
    (y.pwmSynci 11 = true ∧ y.pwmLock 11 = false ∧ y.pwmEn 11 = true ∧
      after (exec (.syncInEdge false) (put y [(Reg.PWMn_SYNCI_PHASE 11, 10)])) (fun t => decide ((t.gen 11).t0 = 79990)) = true) ∧
    (ready s (Pg.PWMn 11) = true ∧ s.pwmStaged 11 = false ∧ s.auxOwns 11 = false ∧
      after (exec (.cmpaWrite 11 0xFF000007) s) (fun t => decide (t.shadow = [(Reg.PWMn_CMPA 11, 7)])) = true) ∧
    (c.pwmStaged 11 = true ∧ after (exec (.cmpaWrite 11 7) c) (fun t => decide (t.shadow = [])) = true) ∧
    (s.pw.role ≠ .cell ∧ s.pw.mode = .configure ∧ after (exec (.pwmCtrlWrite 11 0xFFFFFFBC) (withGen live 1 gen0)) (fun t =>
      decide (t.getR (Reg.PWMn_CTRL 11) = 0xFBC) && !(t.gen 11).running) = true) ∧
    (r.pw.mode ≠ .configure ∧ (((0x20 : Word) &&& 0xFFF) ^^^ r.getR (Reg.PWMn_CTRL 11)) &&& 0xFEE ≠ 0 ∧
      after (exec (.pwmCtrlWrite 11 0x20) r) (fun t => decide (t.getR (Reg.PWMn_CTRL 11) = 1)) = true) ∧
    after (exec (.pwmStatClrCounters 11) (put s [(Reg.PWMn_TRIP_CNT 11, 5)])) (fun t => decide (t.getR (Reg.PWMn_TRIP_CNT 11) = 0)) = true := by
  decide +kernel

/-- RUN with the Guard verified and the PLL locked. -/
def driving : State :=
  put ({ running with grd := { guard0 with inReset := false, profileOk := true } }) [(Reg.CLK_RPLL_STAT, 1)]

/-- An island with link and supplies. -/
def goodIsl : Island := { island0 with linkOk := true, vddGood := true, veeGood := true, gateOff := true }

/-- The device with islands 6 and 7 as given, CTRL of island 7, and generator 3's outputs as given. -/
def withIsl (s : State) (ctrl : Word) (i j : Island) (a b : Bool) : State :=
  put (((s.modIsl 6 (fun _ => i)).modIsl 7 (fun _ => j)).setGen 3 { gen0 with a := { pwmOff0 with on := a }, b := { pwmOff0 with on := b } })
    [(Reg.ISLn_CTRL 7, ctrl)]

/-- islandCommandsDriveTheGate: island 7 turns on, ignores while disabled, meets the interlock of its pair, and turns off under a block and
without one. -/
theorem witness_islands :
    let s := withIsl driving 0x71 goodIsl goodIsl false true
    let d := withIsl driving 0 goodIsl goodIsl false true
    let k := put (withIsl driving 0x71 { goodIsl with level := true, out := true } goodIsl true true) [(Reg.ISLC_ILK_CFG, 8)]
    let f := withIsl driving 0x71 goodIsl { goodIsl with level := true, out := true, cmd := true } false false
    let g := withIsl live 0x71 goodIsl { goodIsl with level := true, out := true, cmd := true } false false
    (s.pw.mode ≠ .dormant ∧ s.islSwin 7 = false ∧ s.islLevel 7 = true ∧ (s.isl 7).level = false ∧ s.ilkHeld 3 = false ∧
      (s.isl (partner 7)).level = false ∧ s.islIgnores 7 = false ∧
      after (exec (.islandCommandRise 7) s) (fun t => (t.isl 7).out && (t.isl 7).blank && decide (t.getR (Reg.ISLn_SWITCH_CNT 7) = 1)) = true) ∧
    (d.islLevel 7 = true ∧ d.islIgnores 7 = true ∧ after (exec (.islandCommandRise 7) d) (fun t => !(t.isl 7).out) = true) ∧
    (k.islLevel 7 = true ∧ (k.isl 7).level = false ∧ k.ilkHeld 3 = false ∧ k.getB Reg.ISLC_ILK_CFG 3 = true ∧ (k.isl (partner 7)).level = true ∧
      after (exec (.islandCommandRise 7) k) (fun t => !(t.isl 7).out && !(t.isl 6).out && t.ilkHeld 3) = true) ∧
    (f.islLevel 7 = false ∧ (f.isl 7).level = true ∧ f.islBlock = false ∧
      after (exec (.islandCommandFall 7) f) (fun t => !(t.isl 7).out && (t.isl 7).soft.isNone) = true) ∧
    (g.islLevel 7 = false ∧ (g.isl 7).level = true ∧ g.islBlock = true ∧
      after (exec (.islandCommandFall 7) g) (fun t => !(t.isl 7).out && decide ((t.isl 7).soft = some 80000)) = true) := by decide +kernel

/-- islandsTurnOffAndBlank. -/
theorem witness_island_off :
    let on := { goodIsl with out := true, level := true, gateOff := false, blank := true }
    let s := put (withIsl live 0x31 goodIsl on false false) [(Reg.ISLn_SOFT_CFG 7, 0x300), (Reg.ISLn_DSAT_CFG 7, 0x1010000)]
    let v (i : Island) : State := s.modIsl 7 (fun _ => i)
    (s.islBlock = true ∧ (s.isl 7).out = true ∧ after (exec (.islandBlock 7) s) (fun t => decide ((t.isl 7).soft = some 80000)) = true) ∧
    (let u := v { goodIsl with soft := some 80000 }
     after (exec (.softTurnOffEnd 7 true) u) (fun t => (t.isl 7).gateOff) = true ∧
     after (exec (.softTurnOffEnd 7 false) u) (fun t => (t.isl 7).soft.isNone && decide (t.clk.tick = 80480)) = true) ∧
    (let u := v { goodIsl with gateOff := false }
     (u.isl 7).out = false ∧ (u.isl 7).soft = none ∧ (u.isl 7).gateOff = false ∧ (u.isl 7).linkOk = true ∧
     after (exec (.gateOff 7) u) (fun t => (t.isl 7).gateOff && (t.isl 7).clamp) = true) ∧
    (s.dsatEn 7 = true ∧ (s.isl 7).blank = true ∧ (s.isl 7).armed = false ∧ after (exec (.blankArm 7 true) s) (fun t => (t.isl 7).armed) = true ∧
      after (exec (.blankingEnd 7) s) (fun t => !(t.isl 7).blank && (t.isl 7).out) = true) ∧
    (let u := v { on with armed := true }
     (u.isl 7).armed = true ∧ u.dsatEn 7 = true ∧ (u.isl 7).soft = none ∧ (u.isl 7).fault = false ∧
     after (exec (.blankingEnd 7) u) (fun t => !(t.isl 7).out && t.getB (Hdr.IRQ_RAW (Pg.ISLn 7)) 0 && decide ((t.isl 7).typ = 2)) = true) := by
  decide +kernel

/-- islandFaultsLatchTheirType. -/
theorem witness_island_faults :
    let s := put (withIsl driving 0x71 goodIsl { goodIsl with out := true, level := true, gateOff := false } false true)
      [(Reg.ISLn_DSAT_CFG 7, 0x1000000), (Reg.ISLn_UVLO_CFG 7, 0), (Reg.ISLn_NTC_LIM 7, 0x3000200)]
    (s.isl 7).soft = none ∧ (s.isl 7).fault = false ∧ (s.isl 7).out = true ∧ (s.isl 7).blank = false ∧ s.dsatEn 7 = true ∧
    s.getB (Reg.ISLn_CTRL 7) 6 = true ∧ s.getB (Reg.ISLn_CTRL 7) 4 = true ∧ s.getF (Reg.ISLn_UVLO_CFG 7) 8 2 = 0 ∧ s.logq = [] ∧
    s.pw.mode ≠ .dormant ∧ (s.isl 7).linkOk = true ∧ s.islEn 7 = true ∧ s.pw.mode = .run ∧
    after (exec (.desatDetect 7) s) (fun t => (t.isl 7).fault && decide ((t.isl 7).typ = 1) && !(t.isl 7).out) = true ∧
    after (exec (.hardFault 7) s) (fun t => (t.isl 7).fault && decide ((t.isl 7).typ = 3)) = true ∧
    after (exec (.islandLinkTimeout 7) s) (fun t => decide ((t.isl 7).typ = 4)) = true ∧
    after (exec (.uvloEntry 7 false) s) (fun t => decide ((t.isl 7).typ = 5)) = true ∧ same (exec (.uvloEntry 7 true) s) s = true ∧
    after (exec (.linkReportTimeout 7) s) (fun t => decide (t.pw.mode = .safe) && !(t.isl 7).linkOk) = true ∧
    after (exec (.ntcConversion 7 0x1FF) s) (fun t => t.getB (Hdr.IRQ_RAW (Pg.ISLn 7)) 4 && decide ((t.isl 7).typ = 7)) = true ∧
    after (exec (.ntcConversion 7 0x300) s) (fun t => !(t.isl 7).fault) = true := by decide +kernel

/-- islandCommandsRelease. -/
theorem witness_island_release :
    let s := { put (withIsl live 0 goodIsl { goodIsl with fault := true, typ := 4 } false false) [(Reg.ISLC_ILK_STAT, 0x808), (Reg.ISLC_ILK_CFG, 0x808)] with
      ilkE0 := [(3, 2)] }
    let u := s.modIsl 7 (fun i => { i with linkOk := false })
    (s.ilkHeld 3 = true ∧ s.getB Reg.ISLC_ILK_CFG 11 = true ∧ 2 ≤ SMap.get 0 3 s.ilkE0 ∧
      after (exec (.ilkHoldExpire 3) s) (fun t => !t.ilkHeld 3) = true) ∧
    (ready s Pg.ISLC = true ∧ (8 : BitVec 4).getLsbD 3 = true ∧ (s.isl 6).level = false ∧ (s.isl 7).level = false ∧
      after (exec (.ilkClr 8) s) (fun t => !t.getB Reg.ISLC_ILK_STAT 11) = true ∧
      after (exec .islcFaultClr { s with faultAt := some 3 }) (fun t => t.faultAt.isNone) = true) ∧
    (ready s (Pg.ISLn 7) = true ∧ s.causeAbsent 7 = true ∧ (s.isl 7).soft = none ∧ after (exec (.islFaultClr 7) s) (fun t => !(t.isl 7).fault) = true) ∧
    (u.causeAbsent 7 = false ∧ after (exec (.islFaultClr 7) u) (fun t => (t.isl 7).fault) = true) ∧
    after (exec (.islStatClr 7) (put s [(Reg.ISLn_HARD_CNT 7, 5)])) (fun t => decide (t.getR (Reg.ISLn_HARD_CNT 7) = 0)) = true ∧
    (s.pw.role ≠ .cell ∧ s.pw.mode = .configure ∧ after (exec (.islCtrlWrite 7 0xFFFFFFFE) s) (fun t => decide (t.getR (Reg.ISLn_CTRL 7) = 0x76))
      = true) := by decide +kernel

/-! ## Converters, comparators and lanes -/

/-- ConvertersRunTheirSequences: a trigger of ADC1's injected sequence taken and missed, software triggers of both sequences, a delay that ends,
and the first entry of a pending sequence. -/
theorem witness_converters :
    let s := put live [(Reg.ADCn_CTRL 1, 1), (Reg.ADCn_INJ_TRIG 1, 0x50000)]
    let q (f : AdcSeq) : State := s.setAdc 1 { adc0 with inj := f }
    let f := q { adcSeq0 with fired := [80000] }
    let b := q { adcSeq0 with fired := [80000], pend := true }
    let w := q { adcSeq0 with wait := some 80040 }
    (f.pw.mode ≠ .dormant ∧ ((f.adcS 1).seq true).fired = [80000] ∧ f.adcBusy 1 true = false ∧
      after (exec (.adcTrigger 1 true) f) (fun t => decide (((t.adcS 1).seq true).wait = some 80040)) = true) ∧
    (b.adcBusy 1 true = true ∧ after (exec (.adcTrigger 1 true) b) (fun t => t.getB (Hdr.IRQ_RAW (Pg.ADCn 1)) 2) = true) ∧
    (ready s (Pg.ADCn 1) = true ∧ s.adcEn 1 = true ∧ s.adcBusy 1 false = false ∧ s.adcBusy 1 true = false ∧ s.adcCont 1 = false ∧
      after (exec (.adcSwTrigRegular 1) s) (fun t => decide (((t.adcS 1).seq false).wait = some 80000)) = true ∧
      after (exec (.adcSwTrigInjected 1) s) (fun t => decide (((t.adcS 1).seq true).wait = some 80040)) = true ∧
      after (exec (.adcEnable 1 false) b) (fun t => !t.adcEn 1 && decide ((t.adcS 1).inj = adcSeq0)) = true) ∧
    (((w.adcS 1).seq true).wait = some 80040 ∧
      after (exec (.adcTriggerDelayEnd 1 true) w) (fun t => ((t.adcS 1).seq true).pend && decide (t.clk.tick = 80040)) = true) ∧
    (b.adcEn 1 = true ∧ b.clk.relock = false ∧ b.adcChoice 1 = some (true, 0) ∧
      after (exec (.adcConversionStart 1) b) (fun t => decide ((t.adcS 1).convs.map (fun c => (c.inj, c.entry, c.start)) = [(true, 0, 80000)])) = true) := by
  decide +kernel

/-- conversionsDeliverTheirResults: the last entry of the injected sequence, channel 16 to its latest value; a snapshot; Q_RD up to Q_WR and
beyond. -/
theorem witness_conversions :
    let c : AdcConv := { inj := true, entry := 7, word := 0x50, start := 80000, epoch := none, last := true }
    let s := { live.setAdc 0 { adc0 with convs := [c] } with freeCtr := 0 }
    let q := put live [(Reg.ADCQ_Q_WR, 2)]
    ((s.adcS 0).convs = [c] ∧ c.entry < 8 ∧ bit c.word 6 = true ∧ fld c.word 0 5 = 16 ∧
      after (exec (.adcConversionDone 0 0x1234) s) (fun t => decide (t.getR (lvReg 16) = 0x21234 ∧ t.getR (Reg.ADCn_RESULT_LAST 0) = 0x501234 ∧
        t.clk.tick = 80328)) = true) ∧
    (live.pw.mode ≠ .dormant ∧ live.clk.gen = true ∧ live.lvDone = false ∧ live.pw.role ≠ .cell ∧
      after (exec .lvSnapshot (put live [(lvReg 3, 0x20007)])) (fun t => t.lvDone && decide (SMap.get 0 3 t.lvSnap = 0x20007 ∧
        t.getR (lvReg 3) = 0x1000007 ∧ t.clk.tick = 83040)) = true) ∧
    (ready q Pg.ADCQ = true ∧ q.adcqHeld = 2 ∧ after (exec (.qRdWrite 2) q) (fun t => decide (t.getR Reg.ADCQ_Q_RD = 2)) = true ∧
      after (exec (.qRdWrite 3) q) (fun t => decide (t.getR Reg.ADCQ_Q_RD = 0)) = true) := by decide +kernel

/-- comparatorsLatchTheirRise: comparator 13 without filter, its level rising; sampled; and its latch cleared with the output 0 and 1. -/
theorem witness_comparators :
    let s := put live [(Reg.CMP_C_CFG 13, 1)]
    let p := put live [(Reg.CMP_C_CFG 13, 0x41), (Reg.CMP_C_SAMP 13, 3), (Reg.TIME_PERIOD_CNT, 8)]
    let l := put s [(Reg.CMP_LATCH, 0x2000)]
    (s.cmpKept 13 = false ∧ s.getB (Reg.CMP_C_FILT 13) 16 = false ∧ s.getB (Reg.CMP_C_CFG 13) 6 = false ∧ s.pw.mode ≠ .dormant ∧
      cmpRaw (s.getR (Reg.CMP_C_CFG 13)) true false = true ∧
      after (exec (.cmpRawChange 13 true false) s) (fun t => t.getB Reg.CMP_LATCH 13 && decide (t.getR Reg.CMP_LEVEL = 0x20002000)) = true) ∧
    (p.getB (Reg.CMP_C_CFG 13) 6 = true ∧ p.clk.gen = true ∧ (p.getR Reg.TIME_PERIOD_CNT).toNat % 2 ^ p.getF (Reg.CMP_C_SAMP 13) 0 4 = 0 ∧
      after (exec (.cmpSampledDecision 13 true false) p) (fun t => t.getB Reg.CMP_LATCH 13 && decide (t.clk.tick = 83200)) = true) ∧
    (ready l Pg.CMP = true ∧ (0x2000 : BitVec 16).getLsbD 13 = true ∧ l.getB (Reg.CMP_C_CFG 13) 7 = false ∧ l.getB Reg.CMP_LATCH 13 = true ∧
      after (exec (.cmpLatchClear 0x2000) l) (fun t => !t.getB Reg.CMP_LATCH 13) = true ∧
      after (exec (.cmpLatchClear 0x2000) (put l [(Reg.CMP_LEVEL, 0x2000)])) (fun t => t.getB Reg.CMP_LATCH 13) = true) := by decide +kernel

/-- The device with lane `n` in mode `m` and as given. -/
def withLane (s : State) (n : Nat) (ctrl : Word) (l : Lane) : State := put (s.modLane n (fun _ => l)) [(Reg.LANEn_CTRL n, ctrl)]

/-- laneReceiversLockAndSync: fifteen violations within 65,536 UI before the sixteenth, and fourteen; a TRIP in RUN of a Cell. -/
theorem witness_receivers :
    let o := withLane live 14 1 lane0
    let c := withLane live 14 1 { lane0 with cdr := true, clean := 80000 }
    let y (k : Nat) : State := withLane live 14 1 { lane0 with cdr := true, sync := true, viol := List.replicate k 80000 }
    let r := withLane { cellRole with pw := { cellRole.pw with mode := .run } } 0 1 { lane0 with cdr := true, sync := true }
    (o.laneUsed 14 = true ∧ o.laneMode 14 = 1 ∧ (o.lane 14).cdr = false ∧
      after (exec (.cdrLock 14) o) (fun t => (t.lane 14).cdr) = true) ∧
    (c.laneUsed 14 = true ∧ isData 14 = true ∧ (c.lane 14).cdr = true ∧ (c.lane 14).sync = false ∧
      after (exec (.laneSync 14) c) (fun t => (t.lane 14).sync && decide (t.clk.tick = 81024)) = true) ∧
    ((y 15).laneMode 14 = 1 ∧ ((y 15).lane 14).sync = true ∧
      after (exec (.cdrLockLoss 14) (y 15)) (fun t => !(t.lane 14).cdr && t.getB (Hdr.IRQ_RAW (Pg.LANEn 14)) 0) = true ∧
      15 ≤ (((y 15).lane 14).viol.filter (fun k => decide ((y 15).clk.tick < k + 16384))).length ∧
      after (exec (.codeViolation 14) (y 15)) (fun t => !(t.lane 14).sync) = true ∧
      (((y 14).lane 14).viol.filter (fun k => decide ((y 14).clk.tick < k + 16384))).length < 15 ∧
      after (exec (.codeViolation 14) (y 14)) (fun t => (t.lane 14).sync) = true) ∧
    (r.laneUsed 0 = true ∧ (r.lane 0).sync = true ∧ (r.lane 0).tripAt = none ∧ r.servingLane = 0 ∧ r.pw.mode = .run ∧
      after (exec (.tripMarkerReceived 0) r) (fun t => decide (t.pw.mode = .safe) && t.getB (Hdr.IRQ_RAW (Pg.LANEn 0)) 3) = true) := by decide +kernel

/-- lanesMeasureAndAdapt: openings that reach 255 and that give 0; a point; a FOM one below its warning limit; a tune command with TUNE_EN 0; and
the pattern checker. -/
theorem witness_measurements :
    let s := withLane live 15 1 lane0
    let e := withLane live 15 0x41 { lane0 with eyeAt := some 80000 }
    let a := put (withLane live 15 0x11 { lane0 with adPeriods := 255, trial := true, par := 6 })
      [(Reg.LANEn_ADAPT_CFG 15, 0xF0F0), (Reg.LANEn_FOM 15, 9), (Reg.LANEn_FOM_LIM 15, 10), (Reg.LANEn_EQ_BEST 15, 0x123)]
    let c := withLane live 15 1 { lane0 with tuneCmd := some 0x8001, tuneDue := true }
    let p := withLane live 15 2 lane0
    let q := withLane live 15 2 { lane0 with prbsFrom := some 80000 }
    (s.laneUsed 15 = true ∧ s.laneMode 15 = 1 ∧ s.getB (Reg.LANEn_CTRL 15) 6 = false ∧
      after (exec (.eyeSweepEnd 15 32 32 32 32) s) (fun t => decide (t.getF (Reg.LANEn_FOM 15) 0 8 = 255)) = true ∧
      after (exec (.eyeSweepEnd 15 32 32 0 0) s) (fun t => decide (t.getF (Reg.LANEn_FOM 15) 0 8 = 0)) = true) ∧
    ((e.lane 15).eyeAt = some 80000 ∧ after (exec (.eyePointDone 15 0) e) (fun t => decide (t.getF (Reg.LANEn_EYE_RES 15) 0 2 = 3 ∧
      t.clk.tick = 96384)) = true) ∧
    (a.getB (Reg.LANEn_CTRL 15) 4 = true ∧ a.getB (Reg.LANEn_CTRL 15) 6 = false ∧ a.adaptInterval 15 ≤ (a.lane 15).adPeriods ∧
      after (exec (.adaptDecision 15) a) (fun t => (t.lane 15).suspended && decide (t.getR (Reg.LANEn_RX_EQ 15) = 0x123)) = true) ∧
    ((c.lane 15).tuneDue = true ∧ (c.lane 15).tuneCmd = some 0x8001 ∧ c.getB (Reg.LANEn_CTRL 15) 5 = false ∧ c.logq = [] ∧
      after (exec (.tuneCommandApply 15) c) (fun t => (t.lane 15).tuneCmd.isNone && decide (t.regs = c.regs)) = true) ∧
    (p.laneTest 15 = true ∧ (p.lane 15).prbsFrom = none ∧ after (exec (.prbsLock 15) p) (fun t => decide ((t.lane 15).prbsFrom = some 80000)) = true) ∧
    (q.laneTest 15 = true ∧ (q.lane 15).prbsFrom.isSome = true ∧
      after (exec (.prbsError 15) q) (fun t => decide ((t.lane 15).prbsErrs = 1) && t.getB (Reg.LANEn_PRBS_STAT 15) 1) = true) := by decide +kernel

/-- LaneCommandsTakeEffect. -/
theorem witness_lane_commands :
    let s := withLane live 15 0 lane0
    let o := withLane live 15 1 { lane0 with owned := true }
    let m := withLane live 15 0x40 lane0
    let t' := withLane live 15 3 lane0
    (ready s (Pg.LANEn 15) = true ∧ (s.lane 15).owned = false ∧
      after (exec (.laneCtrlWrite 15 0xFFFFFFFE) s) (fun t => decide (t.getR (Reg.LANEn_CTRL 15) = 0x7E)) = true) ∧
    (ready o (Pg.LANEn 15) = true ∧ (o.lane 15).owned = true ∧ (2 ^^^ o.getR (Reg.LANEn_CTRL 15)) &&& 0xF ≠ 0 ∧
      after (exec (.laneCtrlWrite 15 2) o) (fun t => decide (t.getR (Reg.LANEn_CTRL 15) = 1)) = true) ∧
    (m.getB (Reg.LANEn_CTRL 15) 6 = true ∧ after (exec (.eyePointStart 15 0xFFFF) m) (fun t => decide (t.getR (Reg.LANEn_EYE_CMD 15) = 0x3F3F)) = true) ∧
    (s.getB (Reg.LANEn_CTRL 15) 6 = false ∧ s.laneTest 15 = false) ∧
    (t'.laneTest 15 = true ∧ t'.getR (Reg.LANEn_PRBS_INJ_CNT 15) = 0 ∧
      after (exec (.prbsInjectSingle 15) t') (fun t => decide (t.getR (Reg.LANEn_PRBS_INJ_CNT 15) = 1)) = true ∧
      after (exec (.prbsInjectBurst 15 255) t') (fun t => decide (t.getR (Reg.LANEn_PRBS_INJ_CNT 15) = 255)) = true) ∧
    after (exec (.laneClearCounters 15) (put s [(Reg.LANEn_MARK_CNT 15, 9)])) (fun t => decide (t.getR (Reg.LANEn_MARK_CNT 15) = 0)) = true ∧
    after (exec (.laneClearPrbs 15) (withLane live 15 2 { lane0 with prbsErrs := 7 })) (fun t => decide ((t.lane 15).prbsErrs = 0)) = true := by
  decide +kernel

/-! ## Rings, trains and cells -/

/-- A train of one slot, FORMAT 1, APPLY_PHASE 200, PCNT 0, with HCRC; the Imperative part holds VALID and generation 0, with the check byte `c`. -/
def train0 (c crc : Nat) : List Byte :=
  let head := [1, 0, 1, 200] ++ List.replicate 26 (0 : Byte)
  head ++ leBytes 2 (crc16 head) ++ [0x80] ++ List.replicate 10 0 ++ [BitVec.ofNat 8 c] ++ List.replicate 276 0 ++ leBytes 4 crc

/-- The check byte of that part at position 0. -/
def impCheck : Nat := crc8 ((0 : Byte) :: 0x80 :: List.replicate 10 0)

/-- A trained Cell at position 0 whose lane 0 receives. -/
def trained : State :=
  put (withLane { cellRole with clk := { cellRole.clk with tlPort := some false } } 0 1 { lane0 with cdr := true, sync := true }) [(Reg.CELL_POSITION, 0x8000)]

/-- CellTakesItsPartFromTheTrain: a good part, and one whose check byte is off by one. -/
theorem witness_train_pass :
    let s := trained
    let bs := train0 impCheck 0
    let bad := train0 (impCheck ^^^ 1) 0
    (s.pw.role = .cell ∧ s.laneUsed 0 = true ∧ (s.lane 0).sync = true ∧ trainShape bs = true ∧ 0 = b2n (fromB bs) ∧ hcrcOk bs = true ∧
      (bs.getD 1 0).getLsbD 5 = false ∧ (bs.getD 0x18 0).getLsbD 0 = false ∧ s.cellTrained = true ∧ (trainAside bs).getD 0 0 = 0 ∧
      s.getF Reg.CELL_POSITION 0 7 = 0 ∧ 0 < (bs.getD 2 0).toNat ∧ (bs.getD 0x1A 0).toNat = 0 ∧
      s.impOk 0 ((trainSlot bs 0).take 12) = true) ∧
    (trainShape bad = true ∧ hcrcOk bad = true ∧ s.impOk 0 ((trainSlot bad 0).take 12) = false ∧ s.getR Reg.CELL_IMP_BAD_CNT ≠ 0xFFFFFFFF) := by
  decide +kernel

/-- A plan in force that enables ring 7 with one slot and a tail to the peer. -/
def planned : State :=
  put ({ live with plan := { inForce := true, body := [(1, 0x80), (64, 1), (65, 2), (66, 200)], staged := false, next := [] } })
    [(Reg.RINGn_CFG 7, 1)]

theorem crc32Ok_forced (bs : List Byte) :
    crc32Ok bs = decide (leNat (bs.drop (bs.length - 4)) = (crcForced 0xFFFFFFFF (bs.take (bs.length - 4)) ^^^ 0xFFFFFFFF).toNat) := by
  rw [crcForced_eq]
  rfl

/-- returnedTrainsAreKeptAndCounted: a train whose checks pass, and one whose CRC-32 does not. -/
theorem witness_train_return :
    planned.pw.mode ≠ .dormant ∧ planned.ringOn 7 = true ∧ planned.serves 7 = true ∧ trainShape (train0 0 0xBB7542AF) = true ∧
    ((train0 0 0xBB7542AF).getD 2 0).toNat = planned.slots 7 ∧ hcrcOk (train0 0 0xBB7542AF) = true ∧
    planned.getR (Reg.RINGn_RX_OK_CNT 7) ≠ 0xFFFFFFFF ∧ planned.getR (Reg.RINGn_CRC32_ERR_CNT 7) ≠ 0xFFFFFFFF ∧
    crc32Ok (train0 0 0xBB7542AF) = true ∧ crc32Ok (train0 0 0xBB7542AE) = false := by
  rw [crc32Ok_forced, crc32Ok_forced]
  decide +kernel

/-- Ring 7 as given. -/
def withRing (s : State) (f : Ring → Ring) : State := s.modRing 7 f

/-- RingsLinkAndTrain: enabling in CONFIGURE and in RUN; training that passes with a hop at the limit, one hop beyond, and one that fails; rejoining. -/
theorem witness_rings :
    let off := { planned with regs := [] }
    let e := put off [(Reg.TIME_PERIOD, 80000)]
    let l := withRing planned (fun r => { r with st := 1 })
    let k := withRing planned (fun r => { r with st := 2 })
    let g := withRing planned (fun r => { r with st := 2, training := true })
    let p := withRing planned (fun r => { r with st := 4 })
    let j := withRing planned (fun r => { r with st := 4, rejoining := true })
    (ready e (Pg.RINGn 7) = true ∧ e.pw.mode = .configure ∧ e.getB (Reg.RINGn_CFG 7) 0 = false ∧ (List.range 7).all (fun m => !e.ringOn m) = true ∧
      after (exec (.ringEnable 7 3) e) (fun t => decide ((t.ring 7).st = 1 ∧ t.getR (Reg.RINGn_CFG 7) = 3) && (t.lane 14).owned && (t.lane 15).owned) = true) ∧
    (running.pw.mode = .run ∧ bit (1 : Word) 0 ≠ running.getB (Reg.RINGn_CFG 7) 0 ∧ ready running (Pg.RINGn 7) = true ∧
      after (exec (.ringEnable 7 1) running) (fun t => decide (t.getR (Reg.RINGn_CFG 7) = 0)) = true) ∧
    (l.getB (Reg.RINGn_CFG 7) 0 = true ∧ (l.ring 7).st = 1 ∧ after (exec (.ringLinked 7) l) (fun t => decide ((t.ring 7).st = 2)) = true ∧
      ready l (Pg.RINGn 7) = true ∧ (l.ring 7).st < 2) ∧
    (k.ringOn 7 = true ∧ k.serves 7 = true ∧ 2 ≤ (k.ring 7).st ∧ (k.ring 7).training = false ∧ (k.ring 7).rejoining = false ∧
      after (exec (.ringTrain 7) k) (fun t => (t.ring 7).training) = true) ∧
    ((g.ring 7).training = true ∧ (g.trainVerdict 7 [⟨1, 81920, 5, 5⟩] 81920 none).1 = 1 ∧ (g.trainVerdict 7 [⟨1, 81920, 5, 5⟩] 81921 none).1 ≠ 1 ∧
      after (exec (.trainingDone 7 [⟨1, 81920, 5, 5⟩] 81920 none) g) (fun t => decide ((t.ring 7).st = 3 ∧ t.getR (Reg.RINGn_TRAIN_RESULT 7) = 1)) = true ∧
      after (exec (.trainingDone 7 [] 0 (some (.noSync, 96))) g) (fun t => decide ((t.ring 7).st = 5 ∧ t.getR (Reg.RINGn_TRAIN_RESULT 7) = 0x6004)) = true) ∧
    ((p.ring 7).st = 4 ∧ p.serves 7 = true ∧ p.pw.role ≠ .standby ∧ ready p (Pg.RINGn 7) = true ∧
      after (exec (.ringRejoin 7) p) (fun t => (t.ring 7).rejoining) = true) ∧
    ((j.ring 7).rejoining = true ∧ hopAbove 81920 (planHop j.body 7) = false ∧
      after (exec (.rejoinDone 7 81920 [] none) j) (fun t => (t.ring 7).rejoined && decide (t.getR (Reg.RINGn_TRAIN_RESULT 7) = 1)) = true ∧
      after (exec (.rejoinDone 7 0 [] (some (.timeout, 0))) j) (fun t => !(t.ring 7).rejoined && decide (t.getF (Reg.RINGn_TRAIN_RESULT 7) 0 8 = 5)) = true) := by
  decide +kernel

/-- interrogativeRequestsWait: targets 95, known and not, and 96; a request under way. -/
theorem witness_interrogative :
    let s := put (planned.modDir (96 * 7 + 95) (fun e => { e with st := 2 })) [(Reg.RINGn_IQ_ADDR 7, 0x24040)]
    let b := put s [(Reg.RINGn_IQ_STAT 7, 1)]
    (ready s (Pg.RINGn 7) = true ∧ s.getB (Reg.RINGn_IQ_STAT 7) 0 = false ∧ 2 ≤ (s.dir (96 * 7 + (95 : BitVec 8).toNat)).st ∧
      (s.dir (96 * 7 + (94 : BitVec 8).toNat)).st < 2 ∧
      after (exec (.iqRequest 7 95 1) s) (fun t => decide ((t.ring 7).iqWait.map (fun q => (q.target, q.op, q.addr)) = some (95, 1, 0x24040))) = true ∧
      after (exec (.iqRequest 7 96 2) s) (fun t => (t.ring 7).iqWait.isSome) = true ∧
      after (exec (.iqRequest 7 94 1) s) (fun t => decide (t.getR (Reg.RINGn_IQ_STAT 7) = 0x402)) = true) ∧
    (b.getB (Reg.RINGn_IQ_STAT 7) 0 = true ∧ after (exec (.iqRequest 7 95 1) b) (fun t => (t.ring 7).iqWait.isNone) = true ∧
      after (exec (.iqAbort 7) b) (fun t => decide (t.getR (Reg.RINGn_IQ_STAT 7) = 0)) = true) ∧
    after (exec (.ringClear 7) (put s [(Reg.RINGn_RET_MAX 7, 4)])) (fun t => decide (t.getR (Reg.RINGn_RET_MAX 7) = 0)) = true := by decide +kernel

/-- directoryCommandsTakeEffect: entry 767 FOUND, READY, and one STALE_AGE + 1 unheard. -/
theorem witness_directory :
    let d (st : Nat) : State := put (planned.modDir 767 (fun e => { e with st := st, gen := 255, age := 9 })) [(Reg.CELLS_CELL_SEL, mkHandle 4 255 767),
      (Reg.CELLS_STALE_AGE, 8)]
    (ready (d 2) Pg.CELLS = true ∧ sel (d 2) Reg.CELLS_CELL_SEL 4 767 = true ∧ ((d 2).dir 767).st = 2 ∧
      after (exec .cellAdmit (d 2)) (fun t => decide ((t.dir 767).st = 3 ∧ (t.ring 7).own.map (fun q => (q.target, q.data)) = [(95, 255)])) = true) ∧
    (sel (d 3) Reg.CELLS_CELL_SEL 4 767 = true ∧ ((d 3).dir 767).st ≠ 2 ∧
      after (exec .cellAdmit (d 3)) (fun t => decide (t.getF (Hdr.EVENT_CNT Pg.CELLS) 0 16 = 1)) = true ∧
      after (exec .cellRetire (d 3)) (fun t => decide ((t.dir 767).st = 1 ∧ (t.dir 767).gen = 0)) = true ∧
      after (exec .cellBypass (d 3)) (fun t => (t.dir ((d 3).bypassTarget 767)).bypassed) = true) ∧
    (2 ≤ ((d 4).dir 767).st ∧ ((d 4).dir 767).st ≤ 4 ∧ (d 4).getF Reg.CELLS_STALE_AGE 0 8 < ((d 4).dir 767).age ∧
      after (exec (.cellLost 767) (d 4)) (fun t => decide ((t.dir 767).st = 5 ∧ t.getR Reg.CELLS_LOST_CNT = 1)) = true) := by decide +kernel

/-- CellCommandsTakeEffect. -/
theorem witness_cell :
    let c (x : CellState) : State := { cellRole with cell := x }
    let r := { put (c { cell0 with c := 9 }) [(Reg.CELL_SAFE_AGE, 9)] with pw := { cellRole.pw with mode := .run } }
    let ph := put ((c { cell0 with phasor := true }).setGen 3 { gen0 with running := true }) [(Reg.CELL_GEN_CFG 3, 1)]
    let fc := put { cellRole with clk := { cellRole.clk with tlPort := some false } } [(Reg.CELL_SAFE_AGE, 1), (Reg.CELL_FAULT_CODE, 0x80)]
    (cellRole.pw.role = .cell ∧ cellRole.pw.mode ≠ .dormant) ∧
    ((c { cell0 with bypWait := true }).gatesOff = true ∧
      after (exec .bypassAssert (c { cell0 with bypWait := true })) (fun t => t.cell.bypOn && t.getB (Hdr.IRQ_RAW Pg.CELL) 2) = true) ∧
    ((c { cell0 with bypOn := true }).cell.bypClosed = false ∧ (c { cell0 with bypOn := true }).getF Reg.CELL_FAULT_CODE 0 8 = 0 ∧
      after (exec .bypassTimeout (c { cell0 with bypOn := true })) (fun t => decide (t.getR Reg.CELL_FAULT_CODE = 0x80)) = true) ∧
    ((false != cellRole.getB Reg.CELL_BYP_CFG 1) ≠ (c { cell0 with bypOn := true, bypClosed := true }).cell.bypClosed ∧
      after (exec (.bypassFeedback false) (c { cell0 with bypOn := true, bypClosed := true })) (fun t => decide (t.getR Reg.CELL_FAULT_CODE = 0x81)) = true) ∧
    (r.pw.mode = .run ∧ r.getF Reg.CELL_SAFE_AGE 0 8 ≤ r.cell.c ∧
      after (exec .safeAgeReached r) (fun t => decide (t.pw.mode = .safe ∧ t.getR Reg.CELL_FAULT_CODE = 0x82)) = true) ∧
    (ph.cell.phasor = true ∧ ph.cell.coastBlock = false ∧ ph.srcOn 3 = true ∧ (ph.gen 3).running = true) ∧
    (ready fc Pg.CELL = true ∧ fc.pw.mode = .configure ∧ fc.faultCausePresent = false ∧
      after (exec .cellFaultClr fc) (fun t => decide (t.getR Reg.CELL_FAULT_CODE = 0)) = true) ∧
    ((put cellRole [(Reg.CELL_SAFE_AGE, 1)]).faultCausePresent = true ∧
      after (exec .bypClr (c { cell0 with autoHeld := true })) (fun t => !t.cell.autoHeld) = true) ∧
    after (exec .cellClear (put cellRole [(Reg.CELL_COAST_CNT, 4)])) (fun t => decide (t.getR Reg.CELL_COAST_CNT = 0)) = true := by decide +kernel

/-! ## Metering and power quality -/

/-- Enabled modulator channel 23 of a single-range layout, points 0 to 2 enabled. -/
def metering : State :=
  put live [(Reg.METC_CFG, 1), (Reg.METC_MDAT_CFG 5, 0x01000000), (Reg.METn_CFG 2, 1), (Reg.METn_CFG 0, 0x21), (Reg.PQ_CFG, 1)]

/-- A cycle in which nothing was measured. -/
def cycle0 : CycleIn :=
  let c : ChanSum := ⟨0, 0, 0⟩
  { at_ := 0, len := 160000000, freq := 0x42480000, lock := true, vpos := 0, v := List.replicate 4 c,
    i := List.replicate 4 ⟨0, 0, 0, c, 0, c, 0⟩ }

/-- stuckChannelsAreMarked: the last channel, enabled and not; its first mark and a second one. -/
theorem witness_stuck :
    let u := put metering [(Reg.METC_STUCK_SEEN, 0x800000), (Reg.METC_STUCK_NOW, 0x800001)]
    (metering.logq = [] ∧ metering.pw.mode ≠ .dormant ∧ metering.mdatEn 23 = true ∧ metering.mdatEn 22 = false ∧ metering.mdatPoint 23 = 2 ∧
      metering.idle (Pg.METn 2) = false ∧ metering.getB Reg.METC_STUCK_SEEN 23 = false ∧
      after (exec (.stuckDetect 23) metering) (fun t => t.getB Reg.METC_STUCK_NOW 23 && t.getB (Reg.METn_STAT 2) 2 &&
        decide (t.getR Reg.METC_STUCK_CNT = 1)) = true) ∧
    (u.getB Reg.METC_STUCK_SEEN 23 = true ∧ after (exec (.stuckDetect 23) u) (fun t => decide (t.getR Reg.METC_STUCK_CNT = 0)) = true ∧
      after (exec (.stuckClear 23) u) (fun t => decide (t.getR Reg.METC_STUCK_NOW = 1)) = true) ∧
    same (exec (.stuckDetect 22) metering) metering = true := by decide +kernel

/-- The two points of a dual-range layout, point 1 in its low ranges with ratios 8.0 and 1.0. -/
def dualRange : State :=
  put live [(Reg.METn_CFG 1, 9), (Reg.METn_STAT 1, 0xF00), (Reg.METn_I_RATIO 1 6, 0x41000000), (Reg.METn_I_RATIO 1 7, 0x3F800000)]

/-- pointsMeasureAndAccumulate: points on and off; a sample just above 0.8 of the full scale of the low range, and one at it; accumulators in
CONFIGURE and in RUN. -/
theorem witness_points :
    (metering.metOn 2 = true ∧ metering.metOn 1 = false ∧ live.metOn 2 = false) ∧
    (dualRange.metOn 1 = true ∧ dualRange.autoRange 1 3 = true ∧ dualRange.inLow 1 3 = true ∧ dualRange.inLow 1 2 = true ∧ metering.autoRange 1 3 = false ∧
      decide (8 * qW (dualRange.getR (Reg.METn_I_RATIO 1 7)) < 10 * ((qW 0xBF4CCCCD).natAbs : Int)) = true ∧
      decide (8 * qW (dualRange.getR (Reg.METn_I_RATIO 1 7)) < 10 * ((qW 0x3F4CCCCC).natAbs : Int)) = false ∧
      after (exec (.rangeSwitchHigh 1 3 0xBF4CCCCD false) dualRange) (fun t => !t.inLow 1 3 && decide (t.getR (Reg.METn_RANGE_SW_CNT 1) = 1)) = true ∧
      same (exec (.rangeSwitchHigh 1 3 0x3F4CCCCC false) dualRange) dualRange = true) ∧
    (ready metering (Pg.METn 2) = true ∧ metering.pw.mode = .configure ∧ ready running (Pg.METn 2) = true ∧ running.pw.mode ≠ .configure ∧
      after (exec (.energyClr 2 0xE5) (put metering [(Reg.METn_EIMP_LO 2, 9)])) (fun t => decide (t.getR (Reg.METn_EIMP_LO 2) = 0)) = true ∧
      after (exec (.energyClr 2 0xE4) (put metering [(Reg.METn_EIMP_LO 2, 9)])) (fun t => decide (t.getR (Reg.METn_EIMP_LO 2) = 9)) = true ∧
      after (exec (.energyLoad 2) { metering with mem := [(sramBase, 7)] }) (fun t => decide (t.getR (Reg.METn_EIMP_LO 2) = 7)) = true) := by
  decide +kernel

/-- harmonicsAndPhasorsAreReported: a window whose ten cycles have just passed, and the last of fifty reports. -/
theorem witness_reports :
    let s := { metering with mets := [(0, { (metering.met 0) with winCycles := 10 })] }
    let p := put metering [(Reg.METn_PH_RATE 0, 50)]
    (s.logq = [] ∧ s.metOn 0 = true ∧ s.getB (Reg.METn_CFG 0) 5 = true ∧ s.harmOff 0 = false ∧ s.metW 0 ≤ (s.met 0).winCycles) ∧
    (p.metOn 0 = true ∧ (49 : BitVec 7).toNat < p.getF (Reg.METn_PH_RATE 0) 0 8 ∧ ¬ (50 : BitVec 7).toNat < p.getF (Reg.METn_PH_RATE 0) 0 8) := by
  decide +kernel

/-- PowerQualityEventsAreKept: no dip and a dip in progress; the queue of events with sixteen held. -/
theorem witness_power_quality :
    let s := metering
    let d := { s with pq := { s.pq with dip := some ⟨5, 0, 0⟩ } }
    let e := put s [(Reg.PQ_EV_WR, 8), (Reg.PQ_EV_RD, 248)]
    (s.pqOn = true ∧ s.pq.dip = none ∧ d.pqOn = true ∧ d.pq.dip = some ⟨5, 0, 0⟩) ∧
    after (exec (.pqAggregate 0 0 0) { s with pq := { s.pq with flag := true } }) (fun t => !t.pq.flag && decide (t.getR Reg.PQ_AGG_FLAG = 1)) = true ∧
    (ready e Pg.PQ = true ∧ (e.getF Reg.PQ_EV_WR 0 8 + 256 - e.getF Reg.PQ_EV_RD 0 8) % 256 = 16 ∧
      after (exec (.evRdWrite 8) e) (fun t => decide (t.getF Reg.PQ_EV_RD 0 8 = 8)) = true ∧
      after (exec (.evRdWrite 9) e) (fun t => decide (t.getF Reg.PQ_EV_RD 0 8 = 248)) = true ∧
      after (exec (.evRdWrite 247) e) (fun t => decide (t.getF Reg.PQ_EV_RD 0 8 = 248)) = true) := by decide +kernel

/-! ## The Guard -/

/-- An awake device whose Guard runs a verified profile with the words given at their offsets, with the mode reported RUN. -/
def guarded (l : List (Nat × Word)) : State :=
  l.foldl (fun s e => s.setNvBytes (0x100 + e.1) (leBytes 4 e.2.toNat))
    { live with grd := { guard0 with inReset := false, profileOk := true, modeRep := .run } }

/-- The Guard decided on `f`. -/
def trippedOn (f : Nat) (t : State) : Bool :=
  t.getB Reg.GRD_TRIP_LATCH f && t.getB Reg.GRD_TRIP_ACTIVE f && t.gblock && !t.gwdo && decide (t.getF Reg.GRD_FIRST_FN 0 8 = f) &&
    decide (t.getR Reg.GRD_TRIP_CNT = 1) && decide (t.pw.mode = .safe) && t.getB Reg.PWR_SAFE_CAUSE 0

/-- The curve words of one point: stage 15, point 7, of LEVEL 1 and TIME 0xFFFE. -/
def lastPoint : State := guarded [(0xA0 + 60, 0xF106), (0xE0 + 4 * 127, 0x0001FFFE)]

/-- Request 2 is held since tick 5 with a delay of 255 ms. -/
def requested : State := let s := put (guarded [(0x7C, 0x8004), (0x88, 255), (0x90, 0x200)]) [(Reg.GRD_GOOSE_IN, 0x80)]
  { s with grd := { s.grd with reqTt := some 5 } }

/-- GuardFunctionsDecide: the last point of the last stage, live and armed, with LEVEL 0, with TIME 0xFFFF and not armed; the last request;
the heartbeat; the last measured channel; the last output, its readback judged and stuck. -/
theorem witness_guard_functions :
    let l := lastPoint
    let d := { l with grd := { l.grd with modeRep := .configure } }
    let h := guarded [(0x8C, 0x10000)]
    let m := put (guarded []) [(Reg.METC_MDAT_CFG 0, 0x01000000)]
    let g := guarded [(0x98, 0x800)]
    (l.logq = [] ∧ l.grd.inReset = false ∧ l.pointLive 15 7 = true ∧ fnArmed 15 l.grd.modeRep = true ∧
      after (exec (.gcurvePointFire 15 7) l) (fun t => trippedOn 15 t && decide (t.grd.released = 0xF) && t.getB (Reg.GCURVE_STG_STAT 15) 15) = true) ∧
    ((guarded [(0xA0 + 60, 0xF106), (0xE0 + 4 * 127, 0xFFFE)]).pointLive 15 7 = false ∧
      (guarded [(0xA0 + 60, 0xF106), (0xE0 + 4 * 127, 0x0001FFFF)]).pointLive 15 7 = false ∧ fnArmed 15 d.grd.modeRep = false ∧
      same (exec (.gcurvePointFire 15 7) d) d = true) ∧
    (requested.guardOk = true ∧ requested.guardReq 2 = true ∧ fnArmed 18 requested.grd.modeRep = true ∧ requested.guardReqSince 2 = some 5 ∧
      after (exec (.guardRequestFire 2) requested) (fun t => trippedOn 18 t && decide (t.clk.tick = 5 + 255 * 1600000 ∧ t.grd.released = 2)) = true ∧
      requested.guardReq 0 = false) ∧
    (h.guardOk = true ∧ h.pw.role ≠ .cell ∧ bit (h.profW 0x8C) 16 = true ∧ fnArmed 19 h.grd.modeRep = true ∧
      after (exec .heartbeatTimeout h) (fun t => trippedOn 19 t) = true) ∧
    (m.guardOk = true ∧ m.getB (Reg.METC_MDAT_CFG 0) 24 = true ∧ fnArmed 20 m.grd.modeRep = true ∧
      after (exec (.guardMeasLost 3) m) (fun t => trippedOn 20 t) = true) ∧
    (g.guardOk = true ∧ bit (g.profW 0x98) 11 = true ∧ g.grd.stuckBalls.getLsbD 3 = false ∧ bit (g.profW 0x98) 10 = false ∧
      after (exec (.gtripReadbackFault 3) g) (fun t => trippedOn 25 t && t.grd.stuckBalls.getLsbD 3 && decide (t.getR Reg.GRD_GTRIP_FLT_CNT = 1)) = true) := by
  decide +kernel

/-- The fault, the second time: the ball is stuck already. -/
def stuckBall : State := let g := guarded [(0x98, 0x800)]; { g with grd := { g.grd with stuckBalls := 8 } }

/-- GuardFunctionsDecide, tripResetClearsTheLatches: a stuck ball; TRIP_RESET where it may clear, with a wrong key, with a cause active, in RUN
and while the Guard is in reset. -/
theorem witness_trip_reset :
    let s := put (guarded []) [(Reg.GRD_TRIP_LATCH, 4), (Reg.GRD_FIRST_FN, 0x8002)]
    let a := put s [(Reg.GRD_TRIP_ACTIVE, 4)]
    let r := { s with pw := { s.pw with mode := .run } }
    (stuckBall.grd.stuckBalls.getLsbD 3 = true ∧ same (exec (.gtripReadbackFault 3) stuckBall) stuckBall = true) ∧
    (s.logq = [] ∧ s.grd.inReset = false ∧ ready s Pg.GRD = true ∧ s.pw.mode = .configure ∧ s.getR Reg.GRD_TRIP_ACTIVE = 0 ∧
      s.getR Reg.GSAFE_FAULT = 0 ∧
      after (exec (.tripReset 0x47) s) (fun t => decide (t.getR Reg.GRD_TRIP_LATCH = 0 ∧ t.getR Reg.GRD_FIRST_FN = 0 ∧ t.gblock = false)) = true) ∧
    (after (exec (.tripReset 0x46) s) (fun t => decide (t.getR Reg.GRD_TRIP_LATCH = 4 ∧ t.getF (Hdr.EVENT_CNT Pg.GRD) 0 16 = 1)) = true ∧
      a.getR Reg.GRD_TRIP_ACTIVE ≠ 0 ∧ after (exec (.tripReset 0x47) a) (fun t => decide (t.getR Reg.GRD_TRIP_LATCH = 4)) = true ∧
      r.pw.mode ≠ .safe ∧ after (exec (.tripReset 0x47) r) (fun t => decide (t.getR Reg.GRD_TRIP_LATCH = 4)) = true) ∧
    (live.grd.inReset = true ∧ same (exec (.tripReset 0x47) live) live = true) := by decide +kernel

/-- The safety inputs 0 to 2 enabled, test pulses on, both channels of all inputs closed. -/
def inputs : State := put (guarded [(0x2E0, 0xF), (0x2E8, 0xF), (0x90, 0x00100000)]) [(Reg.GSAFE_STAT, 0x70707)]

/-- safetyInputsDemandAndFault, TestPulseReadbackFires24: the pulses; a readback that disagrees; an input that opens in its source's pulse's
window, and outside it; a channel high in its own pulse; ESTOP after its delay; channels that differ; a fault cleared and not. -/
theorem witness_safety_inputs :
    let s := inputs
    let w := { s with grd := { s.grd with gtpRise0 := some 1 } }
    let p := { s with grd := { s.grd with gtpLow1 := true } }
    let e := { s with grd := { s.grd with estop := some 9 } }
    let dx := put s [(Reg.GSAFE_STAT, 0x30707)]
    let f := put { s with grd := { s.grd with provedClosed := 4 } } [(Reg.GSAFE_FAULT, 0x01040404), (Reg.GRD_TRIP_ACTIVE, 0x01000000)]
    (s.logq = [] ∧ s.grd.inReset = false ∧ s.guardOk = true ∧ s.pw.role ≠ .cell ∧ bit (s.profW 0x2E0) 3 = true ∧
      after (exec (.testPulse true false) s) (fun t => t.pulseLow true && !t.pulseLow false) = true) ∧
    after (exec .tpReadbackFault s) (fun t => trippedOn 24 t && t.getB Reg.GSAFE_FAULT 24 && t.grd.tpBad) = true ∧
    (s.safetyEn 0 = true ∧ s.inputHealthy 0 = true ∧ s.pulseWindow false = false ∧ fnArmed 21 s.grd.modeRep = true ∧
      after (exec (.safetyInputChange 0 false false) s) (fun t => trippedOn 21 t && decide (t.grd.released = 0 ∧ t.grd.estop = some 80000 ∧
        t.getR Reg.GSAFE_DEMAND_CNT = 1)) = true ∧
      after (exec (.safetyInputChange 2 true false) s) (fun t => trippedOn 23 t && !t.getB Reg.GSAFE_STAT 18) = true) ∧
    (w.pulseWindow false = true ∧ same (exec (.safetyInputChange 0 false false) w) w = true) ∧
    (p.pulseLow true = true ∧ after (exec (.safetyInputChange 2 true true) p) (fun t => trippedOn 24 t && t.getB Reg.GSAFE_FAULT 18) = true) ∧
    (e.grd.estop = some 9 ∧ after (exec .estopDelayExpire e) (fun t => decide (t.grd.estop = none ∧ t.grd.released = 1 ∧
      t.clk.tick = 9 + 15 * 1600000)) = true) ∧
    (dx.safetyEn 2 = true ∧ dx.getB Reg.GSAFE_STAT 10 ≠ dx.getB Reg.GSAFE_STAT 18 ∧
      after (exec (.discrepancy 2) dx) (fun t => trippedOn 24 t && t.getB Reg.GSAFE_FAULT 2 && decide (t.getR Reg.GSAFE_FAULT_CNT = 1)) = true) ∧
    (ready f Pg.GSAFE = true ∧ f.faultClrOk 0x01000004 = true ∧ f.faultClrOk 1 = false ∧
      after (exec (.safetyFaultClr 0x01000004) f) (fun t => decide (t.getR Reg.GSAFE_FAULT = 0) && !t.getB Reg.GRD_TRIP_ACTIVE 24) = true ∧
      after (exec (.safetyFaultClr 1) f) (fun t => decide (t.getF (Hdr.EVENT_CNT Pg.GSAFE) 0 16 = 1)) = true) := by decide +kernel

/-- In CONFIGURE with no slot written, the profile verified. -/
def unsealed : State := guarded []

/-- With slot 0 active and its digest 0; the switches and the profile's pattern agree. -/
def sealed0 : State := { unsealed with grd := { unsealed.grd with slots := [(0, ⟨true, 0, 7⟩)] } }

/-- sealSessionsOpenAndClose: sessions of each kind, from a device with all slots free and one with its slot 0 burned; wrong keys, wrong modes,
nothing open; 600 s. -/
theorem witness_seal :
    let s := unsealed
    let r := { s with pw := { s.pw with mode := .run } }
    let o := { s with grd := { s.grd with session := 2, sessionAt := 3 } }
    (s.logq = [] ∧ ready s Pg.GSEAL = true ∧ s.pw.role ≠ .cell ∧ s.grd.inReset = false ∧ (0x5F : BitVec 8) ≠ 0x5E ∧
      after (exec (.burn 0x5F) s) (fun t => decide (t.getR Reg.GSEAL_REFUSE = 8)) = true) ∧
    (s.grd.session = 0 ∧ s.pw.mode = .configure ∧ s.getR Reg.GSEAL_AUTH_FAIL_CNT < 8 ∧ s.freeSlots 48 = 48 ∧ s.activeSlot 48 = none ∧
      after (exec (.openRestore 0x5E) s) (fun t => decide (t.getR Reg.GSEAL_REFUSE = 9)) = true) ∧
    (sealed0.freeSlots 48 = 47 ∧ sealed0.activeSlot 48 = some 0 ∧ sealed0.newDigest = (sealed0.slot 0).digest ∧
      sealed0.sealNow = fld (sealed0.profW 0x68) 16 16 ∧ sealed0.grd.profileOk = true) ∧
    (r.pw.mode ≠ .configure ∧ after (exec (.openChange 0x5E) r) (fun t => decide (t.getR Reg.GSEAL_REFUSE = 1)) = true) ∧
    (s.grd.session ≠ 1 ∧ s.grd.session ≠ 2 ∧ after (exec (.burn 0x5E) s) (fun t => decide (t.getR Reg.GSEAL_REFUSE = 5)) = true ∧
      after (exec (.sealAbort 0x5E) s) (fun t => decide (t.getR Reg.GSEAL_REFUSE = 5)) = true) ∧
    (o.grd.session = 2 ∧ same (exec (.sealAbort 0x5E) o) o.sealClose = true ∧
      after (exec .sealSessionTimeout o) (fun t => decide (t.grd.session = 0 ∧ t.clk.tick = 3 + 600 * 1600000000)) = true) := by decide +kernel

theorem leNat_cons (b : Byte) (l : List Byte) : leNat (b :: l) = b.toNat + 256 * leNat l := rfl

/-- Four bytes are the bytes of the word they spell. -/
theorem leBytes_w32 (a b c d : Byte) : leBytes 4 (w32 (leNat [a, b, c, d])).toNat = [a, b, c, d] := by
  have ha := a.isLt
  have hb := b.isLt
  have hc := c.isLt
  have hd := d.isLt
  have hn : (w32 (leNat [a, b, c, d])).toNat = a.toNat + 256 * (b.toNat + 256 * (c.toNat + 256 * d.toNat)) := by
    simp only [w32, BitVec.toNat_ofNat, leNat]
    omega
  rw [hn]
  simp only [leBytes, List.cons.injEq, and_true]
  refine ⟨?_, ?_, ?_, ?_⟩ <;> apply BitVec.eq_of_toNat_eq <;> simp only [BitVec.toNat_ofNat] <;> omega

/-- Four bytes of a list, as a word. -/
def wordAt (m : List Byte) (k : Nat) : Word := w32 (leNat ((m.drop (4 * k)).take 4))

/-- `s` with the 32 bytes `m` written to AUTH. -/
def withAuth (s : State) (m : List Byte) : State := put s ((List.range 8).map (fun k => (Reg.GSEAL_AUTH k, wordAt m k)))

theorem wordAt_bytes {m : List Byte} {k : Nat} (h : 4 * k + 4 ≤ m.length) : leBytes 4 (wordAt m k).toNat = (m.drop (4 * k)).take 4 := by
  have hl : ((m.drop (4 * k)).take 4).length = 4 := by rw [List.length_take, List.length_drop]; omega
  unfold wordAt
  match hm : (m.drop (4 * k)).take 4, hl with
  | [a, b, c, d], _ => exact leBytes_w32 a b c d

theorem withAuth_getR {s : State} {m : List Byte} {a : Nat} (h : a < Reg.GSEAL_AUTH 0 ∨ Reg.GSEAL_AUTH 8 ≤ a) :
    (withAuth s m).getR a = s.getR a := by
  have hk : ∀ k, k < 8 → a ≠ Reg.GSEAL_AUTH k := by intro k hk; simp only [Reg.GSEAL_AUTH] at h ⊢; omega
  simp only [withAuth, put, List.range, List.range.loop, List.map, List.foldl]
  rw [State.getR_setR_ne _ _ (hk 7 (by decide)), State.getR_setR_ne _ _ (hk 6 (by decide)), State.getR_setR_ne _ _ (hk 5 (by decide)),
    State.getR_setR_ne _ _ (hk 4 (by decide)), State.getR_setR_ne _ _ (hk 3 (by decide)), State.getR_setR_ne _ _ (hk 2 (by decide)),
    State.getR_setR_ne _ _ (hk 1 (by decide)), State.getR_setR_ne _ _ (hk 0 (by decide))]

/-- Writing registers changes nothing else. -/
theorem put_regs (s : State) (l : List (Nat × Word)) : put s l = { s with regs := (put s l).regs } := by
  induction l generalizing s with
  | nil => rfl
  | cons e l ih => exact ih (s.setR e.1 e.2)

theorem withAuth_grd (s : State) (m : List Byte) : (withAuth s m).grd = s.grd := by rw [withAuth, put_regs]
theorem withAuth_pw (s : State) (m : List Byte) : (withAuth s m).pw = s.pw := by rw [withAuth, put_regs]
theorem withAuth_logq (s : State) (m : List Byte) : (withAuth s m).logq = s.logq := by rw [withAuth, put_regs]

theorem withAuth_bytes {s : State} {m : List Byte} (h : m.length = 32) : (withAuth s m).authBytes = m := by
  have hg : ∀ k, k < 8 → leBytes 4 ((withAuth s m).getR (Reg.GSEAL_AUTH k)).toNat = (m.drop (4 * k)).take 4 := by
    intro k hk
    rw [← wordAt_bytes (by omega)]
    congr 2
    simp only [withAuth, put, List.range, List.range.loop, List.map, List.foldl]
    rcases (by omega : k = 0 ∨ k = 1 ∨ k = 2 ∨ k = 3 ∨ k = 4 ∨ k = 5 ∨ k = 6 ∨ k = 7) with rfl | rfl | rfl | rfl | rfl | rfl | rfl | rfl <;>
      simp [Reg.GSEAL_AUTH]
  have : (withAuth s m).authBytes = (List.range 8).flatMap (fun k => (m.drop (4 * k)).take 4) := by
    unfold State.authBytes
    simp only [List.range, List.range.loop, List.flatMap_cons, List.flatMap_nil]
    rw [hg 0 (by decide), hg 1 (by decide), hg 2 (by decide), hg 3 (by decide), hg 4 (by decide), hg 5 (by decide), hg 6 (by decide),
      hg 7 (by decide)]
  rw [this]
  apply List.ext_getElem?
  intro i
  match m, h with
  | [_, _, _, _, _, _, _, _, _, _, _, _, _, _, _, _, _, _, _, _, _, _, _, _, _, _, _, _, _, _, _, _], _ => rfl

theorem sha256_length (l : List Byte) : (sha256 l).length = 32 := by
  have : ∀ n v, (beBytes n v).length = n := by
    intro n v
    rw [beBytes, List.length_reverse]
    induction n generalizing v with
    | zero => rfl
    | succ n ih => rw [leBytes, List.length_cons, ih]
  simp only [sha256, List.flatMap_cons, List.flatMap_nil, List.length_append, this, List.length_nil]

/-- `s` with the right authorisation for a session of slot `k`. -/
def authorised (s : State) (change : Bool) (k : Nat) : State := withAuth s (hmacSha256 Config.deviceKey (s.authMessage change k))

theorem withAuth_digest (s : State) (m : List Byte) : (withAuth s m).newDigest = s.newDigest := by
  have h : ∀ k, (withAuth s m).getR (Reg.GSEAL_NEW_DIGEST k) = s.getR (Reg.GSEAL_NEW_DIGEST k) := fun k =>
    withAuth_getR (Or.inr (by simp only [Reg.GSEAL_NEW_DIGEST, Reg.GSEAL_AUTH]; omega))
  simp only [State.newDigest, h]

theorem withAuth_message (s : State) (m : List Byte) (change : Bool) (k : Nat) : (withAuth s m).authMessage change k = s.authMessage change k := by
  simp only [State.authMessage, State.nonce, withAuth_digest, withAuth_grd]

/-- sealSessionsOpenAndClose: every state has a right authorisation. -/
theorem authorised_valid (s : State) (change : Bool) (k : Nat) : (authorised s change k).authValid change k = true := by
  have h := withAuth_bytes (s := s) (m := hmacSha256 Config.deviceKey (s.authMessage change k)) (sha256_length _)
  simp only [State.authValid, authorised, withAuth_message, h, decide_true]

/-- And one of two AUTH contents is wrong. -/
theorem witness_seal_wrong (s : State) (change : Bool) (k : Nat) :
    (withAuth s (List.replicate 32 0)).authValid change k = false ∨ (withAuth s (List.replicate 32 1)).authValid change k = false := by
  simp only [State.authValid, withAuth_message, withAuth_bytes (List.length_replicate ..), decide_eq_false_iff_not]
  by_cases h : List.replicate 32 (0 : Byte) = hmacSha256 Config.deviceKey (s.authMessage change k)
  · right; rw [← h]; decide
  · exact Or.inl h

theorem withAuth_slot (s : State) (m : List Byte) (n : Nat) : (withAuth s m).slot n = s.slot n := by rw [State.slot, State.slot, withAuth_grd]

theorem withAuth_freeSlots (s : State) (m : List Byte) (n : Nat) : (withAuth s m).freeSlots n = s.freeSlots n := by
  induction n with
  | zero => rw [State.freeSlots, State.freeSlots]
  | succ n ih => rw [State.freeSlots, State.freeSlots, ih, State.slotFree, State.slotFree, withAuth_slot]

theorem withAuth_activeSlot (s : State) (m : List Byte) (n : Nat) : (withAuth s m).activeSlot n = s.activeSlot n := by
  induction n with
  | zero => rw [State.activeSlot, State.activeSlot]
  | succ n ih => rw [State.activeSlot, State.activeSlot, ih, withAuth_slot]

/-- sealSessionsOpenAndClose: the hypotheses of a right authorisation meet in CONFIGURE, for a change and for a restore; with
`witness_seal_wrong`, those of a wrong one. -/
theorem witness_seal_authorised (m : List Byte) :
    let a := authorised unsealed true 0
    let b := authorised sealed0 false 0
    let w := withAuth sealed0 m
    (a.freeSlots 48 = 48 ∧ a.activeSlot 48 = none ∧ a.authValid true (48 - a.freeSlots 48) = true) ∧
    (b.activeSlot 48 = some 0 ∧ b.newDigest = (b.slot 0).digest ∧ b.authValid false 0 = true) ∧
    (w.logq = [] ∧ w.pw = live.pw ∧ w.locked Pg.GSEAL = false ∧ w.grd.inReset = false ∧ w.grd.session = 0 ∧
      w.getR Reg.GSEAL_AUTH_FAIL_CNT < 8) := by
  have h1 : unsealed.freeSlots 48 = 48 := by decide +kernel
  have h2 : unsealed.activeSlot 48 = none := by decide +kernel
  have h3 : sealed0.activeSlot 48 = some 0 := by decide +kernel
  have h4 : sealed0.newDigest = (sealed0.slot 0).digest := by decide +kernel
  have h5 : sealed0.logq = [] ∧ sealed0.locked Pg.GSEAL = false ∧ sealed0.getR Reg.GSEAL_AUTH_FAIL_CNT < 8 := by decide +kernel
  have h6 : sealed0.pw = live.pw ∧ sealed0.grd.inReset = false ∧ sealed0.grd.session = 0 := by decide +kernel
  have hl : (withAuth sealed0 m).locked Pg.GSEAL = sealed0.locked Pg.GSEAL := by
    simp only [State.locked, State.getB, withAuth_getR (s := sealed0) (m := m) (a := Hdr.LOCK Pg.GSEAL) (.inl (by decide))]
  have hc : (withAuth sealed0 m).getR Reg.GSEAL_AUTH_FAIL_CNT = sealed0.getR Reg.GSEAL_AUTH_FAIL_CNT := withAuth_getR (by decide)
  have hq := withAuth_logq sealed0 m
  have ha := authorised_valid unsealed true 0
  have hb := authorised_valid sealed0 false 0
  simp only [authorised, withAuth_freeSlots, withAuth_activeSlot, withAuth_digest, State.slot, withAuth_grd, withAuth_pw, h1, h2, h3, hl, hc, hq] at ha hb ⊢
  exact ⟨⟨trivial, trivial, ha⟩, ⟨trivial, h4, hb⟩, h5.1, h6.1, h5.2.1, h6.2.1, h6.2.2, h5.2.2⟩

/-- A change session with an image staged beside the active profile; `d` is the digest authorised. -/
def staged0 (d : BitVec 256) : State :=
  { unsealed with kp := { unsealed.kp with headerOk := true, vkeepOk := true },
                  grd := { unsealed.grd with session := 1, staged := true, sessionDigest := d } }

/-- sealSessionsOpenAndClose: BURN with everything in order: the digest authorised is the staged image's. -/
theorem witness_burn : ∃ d, (staged0 d).grd.session = 1 ∧ (staged0 d).grd.staged = true ∧ (staged0 d).kp.headerOk = true ∧
    (staged0 d).kp.vkeepOk = true ∧ digestBV (sha256 ((staged0 d).nvBytes 0x600 0x4F0)) = (staged0 d).grd.sessionDigest ∧
    (staged0 d).sealNow = fld ((staged0 d).nvW 0x668) 0 16 := by
  have h : ∀ d a n, (staged0 d).nvBytes a n = (staged0 0).nvBytes a n := by
    intro d a n
    induction n generalizing a with
    | zero => rfl
    | succ n ih =>
      have hb : (staged0 d).nvB a = (staged0 0).nvB a := rfl
      rw [State.nvBytes, State.nvBytes, ih, hb]
  have hs : ∀ d, (staged0 d).sealNow = fld ((staged0 d).nvW 0x668) 0 16 := by
    intro d
    have h0 : (staged0 0).sealNow = fld ((staged0 0).nvW 0x668) 0 16 := by decide +kernel
    have h1 : (staged0 d).nvW 0x668 = (staged0 0).nvW 0x668 := by simp only [State.nvW, h]
    have h2 : (staged0 d).sealNow = (staged0 0).sealNow := by
      simp only [State.sealNow, State.getF, State.getR, staged0]
    rw [h1, h2, h0]
  exact ⟨digestBV (sha256 ((staged0 0).nvBytes 0x600 0x4F0)), rfl, rfl, rfl, rfl, by simp only [h]; rfl, hs _⟩

/-- burnsAndSealSwitchesAreKept: a burn under way, and none; the switches move, awake and in DORMANT. -/
theorem witness_burn_done :
    let b := { unsealed with grd := { unsealed.grd with session := 3, slots := [(0, ⟨false, 9, 7⟩)] } }
    let d := { unsealed with pw := { unsealed.pw with mode := .dormant } }
    (b.logq = [] ∧ b.grd.session = 3 ∧
      after (exec (.burnDone false) b) (fun t => decide (t.getR Reg.GSEAL_REFUSE = 11 ∧ t.grd.session = 0 ∧ t.slotSpoiled 0 = true)) = true) ∧
    (unsealed.grd.session ≠ 3 ∧ same (exec (.burnDone true) unsealed) unsealed = true) ∧
    (unsealed.pw.role ≠ .cell ∧ unsealed.sealNow ≠ (0xFFFF : BitVec 16).toNat ∧
      after (exec (.sealSwitchChange 0xFFFF) unsealed) (fun t => decide (t.sealNow = 65535 ∧ t.getR Reg.GSEAL_SW_CHG_CNT = 1) &&
        t.getB (Hdr.IRQ_RAW Pg.GSEAL) 1) = true) ∧
    (d.pw.mode = .dormant ∧ after (exec (.sealSwitchChange 3) d) (fun t => decide (t.kp.sealLater = some (0, 3))) = true) := by decide +kernel

/-- GuardResetReleasesEverything. -/
theorem witness_guard_reset :
    (live.grd.inReset = true ∧ live.gblock = true ∧ live.relEff = 0xF) ∧
    (running.pw.mode = .run ∧ after (exec .guardLost running) (fun t => decide (t.pw.mode = .safe) && t.getB Reg.PWR_SAFE_CAUSE 5) = true) ∧
    (unsealed.logq = [] ∧ unsealed.grd.inReset = false ∧ unsealed.gblock = false ∧
      after (exec .guardReset (put unsealed [(Reg.GSAFE_DEMAND_CNT, 5)])) (fun t => t.gblock && t.grd.inReset &&
        decide (t.relEff = 0xF ∧ t.getR Reg.GSAFE_DEMAND_CNT = 0)) = true ∧
      same (exec .guardResetRelease unsealed) unsealed = true) ∧
    (live.logq = [] ∧ after (exec .guardResetRelease live) (fun t => !t.grd.inReset && !t.grd.profileOk) = true) := by decide +kernel

/-! ## The Keeper -/

/-- A Keeper in SERVICE with its cell connected, 4,000 mV in store, measuring from 3,000 mV, and 3,500 mV for a burst of 3 frames. -/
def keeping : State :=
  let s := put live [(Reg.KEEP_STORE_V, 4000), (Reg.KEEP_STORE_MEASURE, 3000), (Reg.KEEP_STORE_TRANSMIT, 3500), (Reg.KEEP_STORE_BROWN, 3200),
    (Reg.KEEP_BEACON_CFG, 0x31), (Reg.KEEP_BURST_DV, 100), (Reg.KEEP_GR_CFG, 0x201), (Reg.KEEP_CTRL, 2), (Reg.TIME_SERVO_STAT, 2)]
  { s with kp := { s.kp with st := 1, kpg := true, cistConn := true, headerOk := true } }

/-- With a burst pending, and with one under way. -/
def pendingBurst : State := { keeping with kp := { keeping.kp with burstPend := some 2 } }
def bursting : State := { keeping with kp := { keeping.kp with burstRun := some (2, 3, 4000) } }

/-- KeeperFollowsTheStore: KPG at its two thresholds and just below them, from each of the Keeper's states; a burst that just fits and one that
just does not; the charger; the RTC. -/
theorem witness_keeper :
    let wake (v : BitVec 13) (s : State) := exec (.keeperWake v 25 7 true) s
    let st (n : Nat) (k : Bool) : State := { keeping with kp := { keeping.kp with st := n, kpg := k } }
    let free := put keeping [(Reg.TIME_SERVO_STAT, 0x100)]
    (keeping.logq = [] ∧
      after (wake 3600 (st 0 false)) (fun t => t.kp.kpg && decide (t.kp.st = 1 ∧ t.store = 3600)) = true ∧
      after (wake 3599 (st 0 false)) (fun t => !t.kp.kpg && decide (t.kp.st = 0)) = true ∧
      after (wake 3000 (st 1 true)) (fun t => t.kp.kpg && decide (t.kp.st = 1)) = true ∧
      after (wake 2999 (st 1 true)) (fun t => !t.kp.kpg && decide (t.kp.st = 2)) = true ∧
      after (wake 3600 (st 2 false)) (fun t => decide (t.kp.st = 1)) = true ∧
      after (wake 2999 (st 3 true)) (fun t => decide (t.kp.st = 3)) = true ∧
      after (wake 2000 keeping) (fun t => t.kp.vkeepOk) = true ∧ after (wake 1999 keeping) (fun t => !t.kp.vkeepOk) = true) ∧
    (pendingBurst.kp.burstPend = some 2 ∧ pendingBurst.kp.burstRun = none ∧ pendingBurst.kp.burstRetry = none ∧ pendingBurst.dvEst = 100 ∧
      after (wake 3301 pendingBurst) (fun t => decide (t.kp.burstPend = none ∧ t.kp.burstRun = some (2, 3, 3301))) = true ∧
      after (wake 3300 pendingBurst) (fun t => decide (t.kp.burstPend = some 2 ∧ t.kp.burstRun = none ∧ t.getR Reg.KEEP_DENY_CNT = 1)) = true) ∧
    (keeping.kp.cistConn = true ∧ after (exec (.chargerStageChange .trickle) keeping) (fun t => decide (t.getR Reg.KEEP_CHG_STAT = 16)) = true ∧
      live.kp.cistConn = false ∧ same (exec (.chargerStageChange .trickle) live) live = true) ∧
    after (exec .cisternCutoff keeping) (fun t => !t.kp.cistConn && t.getB Reg.KEEP_CHG_STAT 5) = true ∧
    (keeping.pw.mode ≠ .dormant ∧ keeping.getB Reg.KEEP_CTRL 1 = true ∧ keeping.getB Reg.TIME_SERVO_STAT 8 = false ∧
      after (exec .rtcSecond keeping) (fun t => t.kp.rtcValid && decide (t.kp.rtcSec = 0)) = true ∧
      free.getB Reg.TIME_SERVO_STAT 8 = true ∧ after (exec .rtcSecond free) (fun t => !t.kp.rtcValid && decide (t.kp.rtcSec = 1)) = true) ∧
    after (exec .keeperReset keeping) (fun t => decide (t.kp.st = 0 ∧ t.pw.causePending = keeping.pw.causePending ||| 16)) = true := by
  decide +kernel

/-- gridReturnIsConfirmed: off; not admitted; the present state; the first sample of a new state, and the one that confirms it. -/
theorem witness_grid_return :
    let off := put keeping [(Reg.KEEP_GR_CFG, 0)]
    let low := put keeping [(Reg.KEEP_STORE_V, 2999)]
    let one := { put keeping [(Reg.KEEP_GR_STAT, 0x10)] with kp := { keeping.kp with grCand := true } }
    (keeping.getB Reg.KEEP_GR_CFG 0 = true ∧ keeping.measOk = true ∧ keeping.getB Reg.KEEP_GR_STAT 0 = false ∧ keeping.kp.grCand = false ∧
      grCombine 0 true false = true ∧ (1 : Nat) < keeping.getF Reg.KEEP_GR_CFG 8 4 ∧
      after (exec (.gridReturnSample true false) keeping) (fun t => decide (t.getF Reg.KEEP_GR_STAT 4 4 = 1) && !t.getB Reg.KEEP_GR_STAT 0) = true ∧
      after (exec (.gridReturnSample false true) keeping) (fun t => decide (t.getF Reg.KEEP_GR_STAT 4 4 = 0)) = true) ∧
    (keeping.getF Reg.KEEP_GR_CFG 8 4 ≤ satInc 4 (one.getF Reg.KEEP_GR_STAT 4 4) ∧
      after (exec (.gridReturnSample true true) one) (fun t => t.getB Reg.KEEP_GR_STAT 0 && t.getB Reg.KEEP_GR_STAT 8 &&
        t.getB (Hdr.IRQ_RAW Pg.KEEP) 1 && decide (t.getR Reg.KEEP_GR_CNT = 1)) = true) ∧
    (off.getB Reg.KEEP_GR_CFG 0 = false ∧ same (exec (.gridReturnSample true true) off) off = true) ∧
    (low.measOk = false ∧ after (exec (.gridReturnSample true true) low) (fun t => decide (t.getR Reg.KEEP_SKIP_CNT = 1)) = true) := by
  decide +kernel

/-- beaconsAreSentWithinTheStore: the store at STORE_TRANSMIT and just below; the brown-out threshold and just below; a burst of three frames
that completes and one cut after its second. -/
theorem witness_beacons :
    let at_ := put keeping [(Reg.KEEP_STORE_V, 3500)]
    let low := put keeping [(Reg.KEEP_STORE_V, 3499)]
    let cut := { bursting with kp := { bursting.kp with burstCut := some 2 } }
    (at_.logq = [] ∧ at_.getB Reg.KEEP_BEACON_CFG 0 = true ∧ at_.txOk = true ∧ low.txOk = false ∧ same (exec .beaconPeriodExpire low) low = true ∧
      after (exec .beaconPeriodExpire at_) (fun t => decide (t.kp.burstPend = some 1)) = true) ∧
    (ready at_ Pg.KEEP = true ∧ after (exec .beaconSend at_) (fun t => decide (t.kp.burstPend = some 2)) = true ∧
      after (exec .wakeClr (put at_ [(Reg.KEEP_GR_STAT, 0x101)])) (fun t => decide (t.getR Reg.KEEP_GR_STAT = 1)) = true ∧
      after (exec .keepClear (put at_ [(Reg.KEEP_SKIP_CNT, 4)])) (fun t => decide (t.getR Reg.KEEP_SKIP_CNT = 0)) = true) ∧
    (bursting.kp.burstRun = some (2, 3, 4000) ∧ bursting.kp.burstCut = none ∧
      after (exec (.burstBrownoutCheck 3199 1) bursting) (fun t => decide (t.kp.burstCut = some 2 ∧ t.kp.burstRetry = some 2)) = true ∧
      after (exec (.burstBrownoutCheck 3200 1) bursting) (fun t => decide (t.kp.burstCut = none ∧ t.store = 3200)) = true ∧
      after (exec (.burstEnd 3900) bursting) (fun t => decide (t.getF Reg.KEEP_BURST_STAT 0 4 = 3 ∧ t.getF Reg.KEEP_BURST_STAT 16 16 = 34 ∧
        t.getR Reg.KEEP_BURST_CNT = 1)) = true ∧
      after (exec (.burstEnd 3900) cut) (fun t => decide (t.getF Reg.KEEP_BURST_STAT 0 4 = 2 ∧ t.getF Reg.KEEP_BURST_STAT 16 16 = 50 ∧
        t.getR Reg.KEEP_BURST_CNT = 0)) = true) := by decide +kernel

/-! ## Station ports -/

/-- Both ports up and independent, rings of 16 descriptors, MAX_LEN 1,518: port 0's receive ring at word 0, its transmit ring at word 64. -/
def station : State :=
  put live [(Reg.STNn_CFG 0, 1), (Reg.STNn_STAT 0, 1), (Reg.STNn_CFG 1, 1), (Reg.STNn_STAT 1, 1), (Reg.STNn_MAX_LEN 0, 1518),
    (Reg.STNn_RX_CFG 0, 4), (Reg.STNn_TX_CFG 0, 4), (Reg.STNn_TX_BASE 0, 64), (Reg.STNn_RX_BASE 0, 0), (Reg.PRP_CFG, 0)]

/-- A frame of `n` bytes without FCS: broadcast, EtherType 0x0800. -/
def frame (n : Nat) : RxFrame :=
  ⟨false, List.replicate 12 0xFF ++ [8, 0] ++ List.replicate (n - 14) 0, true, 5000000000⟩

/-- receivedFramesReachTheRing: 64 bytes with the FCS and 63, MAX_LEN and one more; the ring empty and full; a bad FCS; a port down. -/
theorem witness_receive :
    let full := put station [(Reg.STNn_RX_HEAD 0, 17), (Reg.STNn_RX_TAIL 0, 1)]
    let bad : RxFrame := { frame 60 with fcsOk := false }
    (station.logq = [] ∧ station.stnUp false = true ∧ (frame 60).bytes.length = 60 ∧ (frame 59).bytes.length + 4 < 64 ∧
      station.getF (Reg.STNn_MAX_LEN 0) 0 11 = 1518 ∧ ethType (frame 60).bytes ≠ 0x8808 ∧ station.redMode = 0 ∧
      station.hostCopy (frame 60).bytes = true ∧ station.getF (Reg.STNn_RX_CFG 0) 0 4 = 4 ∧ station.ringCount (Reg.STNn_RX_CFG 0) = 16 ∧
      ringHeld 17 1 16 = 16) ∧
    after (exec (.stationFrameReceive (frame 60)) station) (fun t => decide (t.getF (Reg.STNn_RX_HEAD 0) 0 11 = 1 ∧
      t.getR (Reg.STNn_RX_FRAMES 0) = 1 ∧ t.memBytes (sramBase + 6) 4 = [60, 0, 0, 0])) = true ∧
    after (exec (.stationFrameReceive (frame 1514)) station) (fun t => decide (t.getR (Reg.STNn_RX_FRAMES 0) = 1)) = true ∧
    after (exec (.stationFrameReceive (frame 59)) station) (fun t => decide (t.getR (Reg.STNn_LEN_ERR_CNT 0) = 1)) = true ∧
    after (exec (.stationFrameReceive (frame 1515)) station) (fun t => decide (t.getR (Reg.STNn_LEN_ERR_CNT 0) = 1)) = true ∧
    after (exec (.stationFrameReceive bad) station) (fun t => decide (t.getR (Reg.STNn_FCS_ERR_CNT 0) = 1)) = true ∧
    after (exec (.stationFrameReceive (frame 60)) full) (fun t => decide (t.getR (Reg.STNn_RX_DROP_CNT 0) = 1 ∧
      t.getF (Reg.STNn_RX_HEAD 0) 0 11 = 17)) = true ∧
    (live.stnUp false = false ∧ same (exec (.stationFrameReceive (frame 60)) live) live = true) := by decide +kernel

/-- stationCommandsTakeEffect: TX_HEAD at COUNT and one beyond, and beyond 2 × COUNT; RX_TAIL at RX_HEAD and past it; a descriptor of 60 bytes
and one of 59; supervision; the discard table; the links. -/
theorem witness_station_commands :
    let r := put station [(Reg.STNn_RX_HEAD 0, 3), (Reg.STNn_RX_TAIL 0, 2)]
    let d (n : Nat) : State := (put station [(Reg.STNn_TX_HEAD 0, 1)]).setMemBytes (sramBase + 256) [0, 4, 0, 0, BitVec.ofNat 8 n, 0]
    let p := put station [(Reg.PRP_CFG, 1), (Reg.PRP_TX_SEQ, 65535)]
    let e := { station with stn := { station.stn with dd := [(5, 6, 7)] } }
    let l := put station [(Reg.STNn_STAT 1, 0)]
    (ready station (Pg.STNn 0) = true ∧ ringHeld 16 0 16 ≤ 16 ∧ (16 : Nat) < ringHeld 17 0 16 ∧
      after (exec (.txHeadWrite false 16) station) (fun t => decide (t.getF (Reg.STNn_TX_HEAD 0) 0 11 = 16)) = true ∧
      after (exec (.txHeadWrite false 17) station) (fun t => decide (t.getF (Hdr.EVENT_CNT (Pg.STNn 0)) 0 16 = 1)) = true ∧
      after (exec (.txHeadWrite false 32) station) (fun t => decide (t.getF (Hdr.EVENT_CNT (Pg.STNn 0)) 0 16 = 1)) = true) ∧
    (after (exec (.rxTailWrite false 3) r) (fun t => decide (t.getF (Reg.STNn_RX_TAIL 0) 0 11 = 3)) = true ∧
      after (exec (.rxTailWrite false 4) r) (fun t => decide (t.getF (Reg.STNn_RX_TAIL 0) 0 11 = 2 ∧
        t.getF (Hdr.EVENT_CNT (Pg.STNn 0)) 0 16 = 1)) = true) ∧
    ((d 60).redMode = 0 ∧ (d 60).stnUp false = true ∧ ringHeld 1 0 16 ≠ 0 ∧ fld ((d 60).memW (sramBase + 256 + 4)) 0 16 = 60 ∧
      after (exec (.txFrameDone false) (d 60)) (fun t => decide (t.getF (Reg.STNn_TX_TAIL 0) 0 11 = 1 ∧
        (t.stnP false).last = some ⟨.host (List.replicate 60 0), none⟩)) = true ∧
      after (exec (.txFrameDone false) (d 59)) (fun t => decide (t.getF (Reg.STNn_TX_TAIL 0) 0 11 = 1 ∧ (t.stnP false).last = none)) = true) ∧
    (p.redMode = 1 ∧ p.stnUp true = true ∧ after (exec .prpSupervisionTx p) (fun t => decide (t.getF Reg.PRP_TX_SEQ 0 16 = 0 ∧
      (t.stnP true).last = some ⟨.supervision, some 65535⟩)) = true) ∧
    after (exec .ddEntryExpire (put e [(Reg.PRP_DD_TIME, 10)])) (fun t => decide (t.stn.dd = [] ∧ t.clk.tick = 7 + 16000000)) = true ∧
    (l.pw.role ≠ .cell ∧ l.getB (Reg.STNn_CFG 1) 0 = true ∧ l.getB (Reg.STNn_STAT 1) 0 = false ∧
      after (exec (.stationLinkChange true .up) l) (fun t => t.getB (Reg.STNn_STAT 1) 0 && t.getB (Hdr.IRQ_RAW (Pg.STNn 1)) 2) = true ∧
      after (exec (.stationLinkChange true .down) station) (fun t => decide (t.getR (Reg.STNn_STAT 1) = 0)) = true ∧
      after (exec (.stationLinkChange true .refused) l) (fun t => t.getB (Reg.STNn_STAT 1) 2) = true) ∧
    (ready station Pg.PRP = true ∧ after (exec .prpClear (put station [(Reg.PRP_DUP_CNT, 4)])) (fun t => decide (t.getR Reg.PRP_DUP_CNT = 0)) = true ∧
      after (exec (.stnClear true) (put station [(Reg.STNn_FCS_ERR_CNT 1, 4)])) (fun t => decide (t.getR (Reg.STNn_FCS_ERR_CNT 1) = 0)) = true) := by
  decide +kernel

/-- An Announce of sender 9 in domain 0. -/
def announce : AnnounceIn :=
  { src := 9, domain := 0, gm := 0x1122334455667788, prio1 := 128, prio2 := 128, cls := 6, acc := 0x21, var := 0, steps := 0, utc := 37,
    utcValid := true, interval := 1000, tlv := none }

/-- PTP enabled; and following sender 9 on port 0, with a peer delay of 300 ns known. -/
def ptpRuns : State := put station [(Reg.PTP_CFG, 0x10001)]
def ptpSlave : State :=
  let s := ptpRuns.modStnP false (fun p => { p with ann := some (announce, 100), delays := [600], pdOut := some (4, 1000) })
  { s with stn := { s.stn with master := some (false, 9) } }

/-- PtpFollowsItsMaster: requests with none and one unanswered; an answer to the request that waits; Announces, from the sender heard, a better
and a worse one; a Sync of each kind and its Follow_Up; silence. -/
theorem witness_ptp :
    let f := frame 60
    let m : PtpIn := { src := 9, domain := 0, seq := 3, twoStep := false, origin := 4999999000, corr := 0 }
    let two : PtpIn := { m with twoStep := true }
    let y := { ptpSlave with stn := { ptpSlave.stn with sync := some (3, 5000000000, 0) } }
    (ptpRuns.logq = [] ∧ ptpRuns.ptpOn = true ∧ ptpRuns.stnUp true = true ∧
      after (exec (.pdelayReqTx true) ptpRuns) (fun t => decide ((t.stnP true).pdSeq = 1 ∧ (t.stnP true).last = some ⟨.pdelayReq 0, none⟩)) = true ∧
      after (exec (.pdelayReqTx false) ptpSlave) (fun t => decide (t.getR Reg.PTP_PD_FAIL_CNT = 1)) = true) ∧
    (ptpSlave.ptpOn = true ∧ ptpSlave.stnUp f.port = true ∧ (ptpSlave.stnAccept f false).2.isSome = true ∧
      after (exec (.pdelayReqReceive f 8) ptpSlave) (fun t => decide ((t.stnP false).last = some ⟨.pdelayFollow 8, none⟩)) = true ∧
      after (exec (.pdelayRespReceive f { seq := 4, t2 := 10, t3 := 30, corr := 0 }) ptpSlave) (fun t =>
        decide ((t.stnP false).pdOut = none ∧ (t.stnP false).delays = [4999998980, 600])) = true) ∧
    (announce.domain.toNat = ptpRuns.getF Reg.PTP_CFG 8 8 ∧ ptpRuns.getB Reg.PTP_CFG 1 = false ∧ (ptpRuns.stnP false).ann = none ∧
      after (exec (.announceReceive f announce) ptpRuns) (fun t => decide (t.stn.master = some (false, 9) ∧ t.getR Reg.PTP_GM_ID_LO = 0x55667788 ∧
        t.getR Reg.PTP_MASTER_CHG_CNT = 1)) = true ∧
      annBetter { announce with src := 8, prio1 := 127, gm := 5 } announce false false = true ∧
      annBetter { announce with src := 8, prio1 := 129, gm := 5 } announce false false = false) ∧
    ((ptpSlave.stnP false).ann = some (announce, 100) ∧ after (exec (.announceTimeout false) ptpSlave) (fun t => decide (t.stn.master = none ∧
      t.clk.tick = 100 + 3 * 1600000000)) = true) ∧
    (ptpSlave.fromMaster f m = true ∧ (ptpSlave.peerMean false).2 ≠ 0 ∧ (ptpSlave.stnAccept f true).2.isSome = true ∧
      after (exec (.ptpSyncReceive f m) ptpSlave) (fun t => decide (t.getR Reg.PTP_OFFSET = 700 ∧ t.getF Reg.PTP_STAT 0 2 = 3)) = true ∧
      after (exec (.ptpSyncReceive f two) ptpSlave) (fun t => decide (t.stn.sync = some (3, 5000000000, 0))) = true ∧
      y.stn.sync = some (two.seq, 5000000000, 0) ∧
      after (exec (.ptpFollowUpReceive f m) y) (fun t => decide (t.getR Reg.PTP_OFFSET = 700 ∧ t.stn.sync = none)) = true) ∧
    (ready ptpRuns Pg.PTP = true ∧ after (exec .ptpClear (put ptpRuns [(Reg.PTP_PD_FAIL_CNT, 4)])) (fun t => decide (t.getR Reg.PTP_PD_FAIL_CNT = 0)) =
      true) := by decide +kernel

/-- GOOSE enabled, TAL_MAX 5,000 ms; subscription 63 to APPID 7, its item 0, with the fail value 1. -/
def gooseOn : State :=
  let s := put station [(Reg.GOOSE_CFG, 1), (Reg.GOOSE_TAL_MAX, 5000), (Reg.GOOSE_SUB_CFG 63, 9), (Reg.GOOSE_SUB_APPID 63, 7)]
  s.setSub 63 { freeSub 2 with alloc := true, seen := true, stNum := 4, sqNum := 6 }

/-- subscriptionsTakeTheirFrames: the next sqNum and the one held; an item of the dataset and none; a timer that expires; slots. -/
theorem witness_goose :
    let g : GooseIn := { appid := 7, gocbRef := [0x61], confRev := 1, sim := false, stNum := 4, sqNum := 7, tal := 2000, data := [.boolean true] }
    let e := gooseOn.setSub 63 { gooseOn.sub 63 with expire := some 160000000 }
    let x := put gooseOn [(Reg.GOOSE_SUB_SEL, mkHandle 5 2 63)]
    (gooseOn.logq = [] ∧ gooseOn.stnUp (frame 60).port = true ∧ (gooseOn.stnAccept (frame 60) false).2.isSome = true ∧
      gooseOn.subMatches 63 g = true ∧ gooseOn.subMatches 62 g = false ∧
      after (exec (.gooseReceive (frame 60) g) gooseOn) (fun t => (t.sub 63).value && decide ((t.sub 63).sqNum = 7 ∧
        (t.sub 63).expire = some (80000 + 2000 * 1600000))) = true ∧
      after (exec (.gooseReceive (frame 60) { g with sqNum := 6 }) gooseOn) (fun t => !(t.sub 63).value && decide ((t.sub 63).sqNum = 6)) = true ∧
      after (exec (.gooseReceive (frame 60) { g with data := [] }) gooseOn) (fun t => (t.sub 63).value && (t.sub 63).typeErr) = true) ∧
    ((e.sub 63).expire = some 160000000 ∧ e.stnAwake = true ∧ e.subActive 63 = true ∧
      after (exec (.gooseStale 63) e) (fun t => (t.sub 63).stale && (t.sub 63).value && decide (t.clk.tick = 160000000) &&
        t.getB (Hdr.IRQ_RAW Pg.GOOSE) 1) = true) ∧
    (ready gooseOn Pg.GOOSE = true ∧ pickSlot (fun k => !(gooseOn.sub k).alloc) 64 none = some 0 ∧
      pickSlot (fun k => !(gooseOn.sub k).alloc) 64 (some 63) = none ∧
      after (exec (.subCreate none) gooseOn) (fun t => (t.sub 0).alloc && decide (t.getR Reg.GOOSE_SUB_SEL = mkHandle 5 0 0)) = true ∧
      after (exec (.subCreate (some 63)) gooseOn) (fun t => decide (t.getR Reg.GOOSE_NEW_HANDLE = 0 ∧ t.getF (Hdr.EVENT_CNT Pg.GOOSE) 0 16 = 1)) = true) ∧
    (sel x Reg.GOOSE_SUB_SEL 5 63 = true ∧ x.notRunModes = true ∧ { x with pw := running.pw }.notRunModes = false ∧
      after (exec .subDestroy x) (fun t => !(t.sub 63).alloc && decide ((t.sub 63).gen = 3)) = true ∧
      after (exec .gooseClear (put x [(Reg.GOOSE_RX_OK_CNT, 4)])) (fun t => decide (t.getR Reg.GOOSE_RX_OK_CNT = 0)) = true) := by decide +kernel

/-- Publisher 7 of one bit, MIN_T 4 ms and MAX_T 1,000 ms, at rest at stNum and sqNum 0xFFFFFFFF. -/
def publishing : State :=
  let s := put station [(Reg.GOOSE_CFG, 1), (Reg.GOOSE_PUB_CFG 7, 1), (Reg.GOOSE_PUB_DATA 7, 1), (Reg.GOOSE_PUB_MIN_T 7, 4), (Reg.GOOSE_PUB_MAX_T 7, 1000)]
  s.setPub 7 { active := true, tmpl := [], stNum := 0xFFFFFFFF, sqNum := 0xFFFFFFFF, data := 0, t := 0, interval := 501, due := 160000 }

/-- publishersSendTheirStates: the bits changed and not; a repetition whose interval reaches MAX_T; a publisher off; frames 0 and 2,399. -/
theorem witness_publishers :
    let quiet := put publishing [(Reg.GOOSE_PUB_DATA 7, 2)]
    let v := put metering [(Reg.SV_CFG, 1), (Reg.METn_CFG 0, 1)]
    (publishing.logq = [] ∧ publishing.pubWanted 7 = true ∧ (publishing.pub 7).active = true ∧ publishing.pubBits 7 ≠ (publishing.pub 7).data ∧
      after (exec (.goosePublish 7) publishing) (fun t => decide ((t.pub 7).stNum = 1 ∧ (t.pub 7).sqNum = 0 ∧ (t.pub 7).data = 1 ∧
        (t.pub 7).due = 80000 + 4 * 1600000)) = true) ∧
    (quiet.pubBits 7 = (quiet.pub 7).data ∧ same (exec (.goosePublish 7) quiet) quiet = true ∧
      after (exec (.gooseRetransmit 7) quiet) (fun t => decide ((t.pub 7).sqNum = 1 ∧ (t.pub 7).interval = 1000 ∧
        t.getR (Reg.GOOSE_PUB_TX_CNT 7) = 1)) = true) ∧
    (live.pubWanted 7 = false ∧ same (exec (.gooseRetransmit 7) live) live = true) ∧
    (v.svOn = true ∧ after (exec (.svFrame 2399 [] []) v) (fun t => decide (t.getR Reg.SV_SMP_CNT = 4799 ∧ t.getR Reg.SV_TX_CNT = 1)) = true ∧
      live.svOn = false ∧ same (exec (.svFrame 0 [] []) live) live = true) ∧
    (ready live Pg.SV = true ∧ after (exec .svClear (put live [(Reg.SV_OVF_CNT, 4)])) (fun t => decide (t.getR Reg.SV_OVF_CNT = 0)) = true) := by
  decide +kernel

/-! ## Identity buses, auxiliary pumps, the line -/

/-- Bus 7 with modules 14 and 15 present, record slot 15 on it, read now; the copies at Main SRAM bytes 0 and 8,192. -/
def identities : State :=
  let s := put live [(Reg.IDM_CFG, 0x100), (Reg.IDM_REC_CFG 15, 0x01000007), (Reg.IDM_REC_BASE, 1024), (Reg.IDM_MOD_STAT 15, 1)]
  { s with idm := { s.idm with todo := [15, 31] } }

/-- A record whose first word and version are right and whose check is not. -/
def badRecord : List Byte := leBytes 4 0x44524E48 ++ [1, 1] ++ List.replicate 90 0

/-- identitiesAreRead: a scan; a poll in which module 0 appears; a module read and one silent; records that do not acknowledge, without the magic,
with a bad check; a stuck bus. -/
theorem witness_identities :
    (identities.logq = [] ∧ ready identities Pg.IDM = true ∧
      after (exec .idmScan identities) (fun t => decide (t.idm.todo = List.range 16 ++ [31]) && t.idm.scan) = true) ∧
    (identities.pw.mode ≠ .dormant ∧ identities.clk.gen = true ∧ identities.getF Reg.IDM_CFG 8 8 ≠ 0 ∧ identities.idmBus 0 = true ∧
      identities.getB Reg.IDM_STAT 8 = false ∧
      after (exec (.idmPoll [some []] 0x8000) identities) (fun t => t.getB (Reg.IDM_MOD_STAT 0) 0 && !t.getB (Reg.IDM_MOD_STAT 15) 0 &&
        decide (t.idm.todo = [15, 31, 0])) = true) ∧
    ((15 : Fin 16).val ∈ identities.idm.todo ∧
      after (exec (.idmReadDone (.module 15 (some ([3, 4], [])))) identities) (fun t => decide (t.memBytes (sramBase + 1920) 3 = [3, 4, 0] ∧
        t.idm.todo = [31])) = true ∧
      after (exec (.idmReadDone (.module 15 none)) identities) (fun t => !t.getB (Reg.IDM_MOD_STAT 15) 0) = true) ∧
    (16 + (15 : Fin 16).val ∈ identities.idm.todo ∧
      after (exec (.idmReadDone (.record 15 none)) identities) (fun t => decide (t.getR (Reg.IDM_REC_STAT 15) = 0x104 ∧ t.idm.todo = [15])) = true ∧
      recWord (padTo 96 []) 0 ≠ 0x44524E48 ∧
      after (exec (.idmReadDone (.record 15 (some []))) identities) (fun t => decide (t.getF (Reg.IDM_REC_STAT 15) 0 8 = 5)) = true ∧
      recWord (padTo 96 badRecord) 0 = 0x44524E48 ∧ (padTo 96 badRecord).getD 4 0 = 1) ∧
    (identities.idmBus 7 = true ∧ after (exec (.idmReadDone (.stuck 7)) identities) (fun t => t.getB Reg.IDM_STAT 15 &&
      !t.getB (Reg.IDM_MOD_STAT 15) 0 && decide (t.idm.todo = [])) = true) := by decide +kernel

theorem witness_bad_check : recWord (padTo 96 badRecord) 0x5C ≠ crc32 ((padTo 96 badRecord).take 0x5C) := by
  rw [crc32, ← crcForced_eq]
  decide +kernel

/-- Port 1 running with Hall state 1 known, POS 0; it stands for 10 ms. -/
def turning : State :=
  (put live [(Reg.AUXP_P_CFG 1, 0x11), (Reg.AUXP_P_STALL_T 1, 10)]).modAux 1 (fun x => { x with known := true, hall := 1, edgeAt := 70 })

/-- HallStatesMoveThePosition: forward, backward through 0, a skip, an invalid state, no change; the stall; a port off. -/
theorem witness_hall :
    (turning.logq = [] ∧ turning.auxOn 1 = true ∧ (turning.aux 1).known = true ∧ (turning.aux 1).hall = 1 ∧ hallPlace 3 = some 1 ∧
      hallPlace 1 = some 0 ∧ hallPlace 5 = some 5 ∧ hallPlace 6 = some 3 ∧ hallPlace 7 = none ∧ hallPlace 0 = none ∧
      after (exec (.hallEdge 1 3) turning) (fun t => decide (t.getF (Reg.AUXP_P_POS 1) 0 16 = 1) && !t.getB (Reg.AUXP_P_STAT 1) 5) = true ∧
      after (exec (.hallEdge 1 5) turning) (fun t => decide (t.getF (Reg.AUXP_P_POS 1) 0 16 = 65535) && t.getB (Reg.AUXP_P_STAT 1) 5) = true ∧
      after (exec (.hallEdge 1 6) turning) (fun t => decide (t.getF (Reg.AUXP_P_POS 1) 0 16 = 0 ∧ t.getR (Reg.AUXP_P_SKIP_CNT 1) = 1)) = true ∧
      after (exec (.hallEdge 1 7) turning) (fun t => decide (t.getR (Reg.AUXP_P_HALL_ERR_CNT 1) = 1) && t.getB (Hdr.IRQ_RAW Pg.AUXP) 2) = true ∧
      same (exec (.hallEdge 1 1) turning) turning = true) ∧
    (turning.getB (Reg.AUXP_P_STAT 1) 6 = false ∧ after (exec (.hallStall 1) turning) (fun t => t.getB (Reg.AUXP_P_STAT 1) 6 &&
      t.getB (Hdr.IRQ_RAW Pg.AUXP) 1 && decide (t.clk.tick = 70 + 16000000)) = true) ∧
    (live.auxOn 0 = false ∧ same (exec (.hallEdge 0 3) live) live = true ∧ ready live Pg.AUXP = true ∧
      after (exec (.auxpClear 1) (put turning [(Reg.AUXP_P_SKIP_CNT 1, 4)])) (fun t => decide (t.getR (Reg.AUXP_P_SKIP_CNT 1) = 0)) = true) := by
  decide +kernel

/-- lineCodingIsUndone: the longest run before which its hypothesis still holds, and ten zeros and their stuff bit. -/
theorem witness_line :
    (9 : Nat) < 10 ∧ stuff false 9 [false, false] = [false, true, false] ∧ destuff false 9 [false, true, false] = [false, false] ∧
      longestRun false 9 [false, true, false] = 10 ∧
      (descramble 0 (scramble 7 (List.replicate 60 true))).drop 58 = [true, true] := by decide +kernel

end Sys2Proof.Tests
end

section
/-! SUPPORT. What a host access does to the block: the frame of a register write, the bus-error record, the retirements that precede an
access, and a write by address as the map (R32), the header (R34) and the lock (R35) direct it. -/
namespace Sys2Proof.Machine
open Sys2Proof

/-! ## Only these registers change -/

theorem State.onlyRegs_trans {rs : List Nat} {s t u : State} (hst : s.onlyRegs rs t) (htu : t.onlyRegs rs u) : s.onlyRegs rs u := by
  obtain ⟨hst_same, hst_regs⟩ := hst
  obtain ⟨htu_same, htu_regs⟩ := htu
  refine ⟨?_, fun a ha => (htu_regs a ha).trans (hst_regs a ha)⟩
  rw [hst_same] at htu_same
  exact htu_same

theorem State.onlyRegs_setR {rs : List Nat} {a : Nat} (s : State) (v : Word) (ha : a ∈ rs) : s.onlyRegs rs (s.setR a v) :=
  ⟨rfl, fun _ hk => State.getR_setR_ne s v (fun e => hk (e ▸ ha))⟩

theorem State.onlyRegs_setB {rs : List Nat} {a : Nat} (s : State) (i : Nat) (b : Bool) (ha : a ∈ rs) : s.onlyRegs rs (s.setB a i b) :=
  State.onlyRegs_setR s _ ha

theorem State.onlyRegs.mem_eq {rs : List Nat} {s t : State} (h : s.onlyRegs rs t) : t.mem = s.mem := by
  obtain ⟨hsame, -⟩ := h
  rw [hsame]

theorem State.onlyRegs.logq_eq {rs : List Nat} {s t : State} (h : s.onlyRegs rs t) : t.logq = s.logq := by
  obtain ⟨hsame, -⟩ := h
  rw [hsame]

/-! ## Retirements note nothing for the log -/

@[simp] theorem State.modR_logq (s : State) (a : Nat) (f : Word → Word) : (s.modR a f).logq = s.logq := rfl
@[simp] theorem State.refuse_logq (s : State) (p : Nat) : (s.refuse p).logq = s.logq := rfl

theorem State.setMemBytes_logq (s : State) (a : Nat) (bs : List Byte) : (s.setMemBytes a bs).logq = s.logq := by
  rw [State.setMemBytes_same]

theorem State.countArith_logq (s : State) (nan ofl : Bool) : (s.countArith nan ofl).logq = s.logq := by
  cases nan <;> cases ofl <;> rfl

theorem State.retire_logq (s : State) (c : Nat) (r : Retire) (main : Bool) : (s.retire c r main).logq = s.logq := by
  cases r with
  | sump i w => simp only [State.retire]; split <;> rfl
  | pred i b => rfl
  | res i w => exact s.setMemBytes_logq _ _
  | out i w =>
    simp only [State.retire]
    split
    · split <;> rfl
    · rfl
  | count nan ofl => exact s.countArith_logq nan ofl
  | fin => simp only [State.retire]; split <;> rfl

theorem State.retireUpTo_logq (s : State) (c : Nat) (l : List (Nat × Retire × Bool)) : (s.retireUpTo c l).logq = s.logq := by
  induction l generalizing s with
  | nil => rfl
  | cons e l ih =>
    obtain ⟨r, a, m⟩ := e
    simp only [State.retireUpTo]
    split
    · rw [ih, State.retire_logq]
    · rfl

/-- What retires before a host access (R437) leaves no note for the log. -/
@[simp] theorem State.settleNow_logq (s : State) : s.settleNow.logq = s.logq := by
  unfold State.settleNow
  split
  · exact s.retireUpTo_logq _ _
  · rfl

/-! ## The bus-error record (R33) -/

/-- The registers of the bus-error record, with the interrupt bits of the HOST page. -/
def busErrRegs : List Nat := [Reg.HOST_BUS_ERR_CNT, Reg.HOST_BUS_ERR_ADDR, Reg.HOST_BUS_ERR_CAUSE, Hdr.IRQ_RAW Pg.HOST]

/-- The first bus error since the last clear keeps its address and cause, then counts. -/
theorem State.busErr_first {s : State} (cause ad : Nat) (h : s.getR Reg.HOST_BUS_ERR_CNT = 0) :
    s.busErr cause ad = ((((s.setR Reg.HOST_BUS_ERR_ADDR (w32 (ad % 2 ^ 24))).setR Reg.HOST_BUS_ERR_CAUSE (w32 cause)).incSat
      Reg.HOST_BUS_ERR_CNT).irq Pg.HOST 1) := by
  unfold State.busErr
  rw [if_pos h]

/-- A later one only counts. -/
theorem State.busErr_later {s : State} (cause ad : Nat) (h : s.getR Reg.HOST_BUS_ERR_CNT ≠ 0) :
    s.busErr cause ad = (s.incSat Reg.HOST_BUS_ERR_CNT).irq Pg.HOST 1 := by
  unfold State.busErr
  rw [if_neg h]

theorem State.busErr_onlyRegs (s : State) (cause ad : Nat) : s.onlyRegs busErrRegs (s.busErr cause ad) := by
  have counted (t : State) : t.onlyRegs busErrRegs ((t.incSat Reg.HOST_BUS_ERR_CNT).irq Pg.HOST 1) :=
    State.onlyRegs_trans (State.onlyRegs_setR t _ (by decide)) (State.onlyRegs_setR _ _ (by decide))
  by_cases h : s.getR Reg.HOST_BUS_ERR_CNT = 0
  · rw [State.busErr_first cause ad h]
    exact State.onlyRegs_trans (State.onlyRegs_trans (State.onlyRegs_setR s _ (by decide)) (State.onlyRegs_setR _ _ (by decide)))
      (counted _)
  · rw [State.busErr_later cause ad h]
    exact counted s

theorem State.busErr_recorded (s : State) (cause ad : Nat) : busErrorRecorded s (s.busErr cause ad) cause ad := by
  by_cases h : s.getR Reg.HOST_BUS_ERR_CNT = 0
  · rw [State.busErr_first cause ad h]
    refine ⟨State.getB_irq_eq _ (by decide), fun _ => ?_, fun _ => ⟨?_, ?_⟩, fun hn => absurd h hn⟩
    · simp (disch := decide) [State.getR_incSat_eq, h]
    · simp (disch := decide)
    · simp (disch := decide)
  · rw [State.busErr_later cause ad h]
    refine ⟨State.getB_irq_eq _ (by decide), fun hmax => ?_, fun h0 => absurd h0 h, fun _ => ⟨?_, ?_⟩⟩
    · rw [State.getR_irq_ne _ (by decide), State.getR_incSat_eq, if_neg hmax]
    · simp (disch := decide)
    · simp (disch := decide)

/-! ## A write by its address (R23, R32) -/

/-- The active window of Table RAM is read-only (R134). -/
theorem State.tableWrite_active {s : State} {ad : Nat} (data : Word) (be : BitVec 4) (put : State → Nat → Word → BitVec 4 → State)
    (h : 0x428000 ≤ ad) : s.tableWrite ad data be put = s.busErr 3 ad := by
  unfold State.tableWrite
  exact if_pos (Nat.le_sub_of_add_le' h)

/-- A write whose address alone has a cause of R23 or R32 is recorded with it and does nothing else. -/
theorem State.hostWrite_badAddress {s : State} {adw : Word} (data : Word) (be : BitVec 4) (h : addressCause adw.toNat ≠ 0) :
    s.hostWrite adw data be = s.busErr (addressCause adw.toNat) adw.toNat := by
  unfold State.hostWrite
  unfold addressCause at h ⊢
  generalize adw.toNat = ad at h ⊢
  by_cases hout : 0x1000000 ≤ ad
  · simp only [if_pos hout]
  by_cases hunaligned : ad % 4 ≠ 0
  · simp only [if_neg hout, if_pos hunaligned]
  by_cases hhole : (0x58000 ≤ ad ∧ ad < 0x100000) ∨ (0x230000 ≤ ad ∧ ad < 0x400000) ∨ (0x431000 ≤ ad ∧ ad < 0x440000) ∨ 0x450000 ≤ ad
  · simp only [if_neg hout, if_neg hunaligned, if_pos hhole]
    rcases hhole with hpages | hmirror | hsump | hend <;> simp (disch := omega) only [if_pos, if_neg]
  by_cases hro : (0x200000 ≤ ad ∧ ad < 0x230000) ∨ (0x428000 ≤ ad ∧ ad < 0x431000)
  · simp only [if_neg hout, if_neg hunaligned, if_neg hhole, if_pos hro]
    rcases hro with hmirror | htable
    · simp (disch := omega) only [if_pos, if_neg]
    · by_cases hlow : ad < 0x430000
      · simp (disch := omega) only [if_pos, if_neg, State.tableWrite_active]
      · simp (disch := omega) only [if_pos, if_neg]
  · simp only [if_neg hout, if_neg hunaligned, if_neg hhole, if_neg hro] at h
    exact absurd rfl h

/-- A whole-word write to a register page that is not the Guard's is a write to the register. -/
theorem State.hostWrite_page {s : State} {adw : Word} (data : Word) (hal : adw.toNat % 4 = 0) (hp : adw.toNat / 4096 < 88)
    (hg : ¬ (Pg.GRD ≤ adw.toNat / 4096 ∧ adw.toNat / 4096 ≤ Pg.GSAFE)) :
    s.hostWrite adw data 0xF = s.writeReg adw.toNat data := by
  have hpage : s.hostWrite adw data 0xF = s.pageWrite adw.toNat data 0xF := by
    unfold State.hostWrite
    simp (disch := omega) only [if_pos, if_neg]
  have hguard : guardPage (adw.toNat / 4096) = false := decide_eq_false hg
  rw [hpage]
  unfold State.pageWrite
  simp [hguard]

/-! ## A register of a page that is not idle (R34, R35) -/

section
variable {s : State} {a : Nat} (data : Word) (hi : s.idle (a / 4096) = false)
include hi

theorem State.writeReg_header (ho : a % 4096 < 0x40) : s.writeReg a data = s.writeHeader (a / 4096) (a % 4096) data := by
  unfold State.writeReg
  simp [hi, ho]

/-- PAGE_CTRL, SHADOW_CTRL and the block's registers of a locked page refuse and count. -/
theorem State.writeReg_locked (hl : s.locked (a / 4096) = true) (ho : a % 4096 = 0x04 ∨ a % 4096 = 0x1C ∨ 0x40 ≤ a % 4096) :
    s.writeReg a data = s.refuse (a / 4096) := by
  rcases ho with hctrl | hshadow | hblock
  · rw [State.writeReg_header data hi (by omega), hctrl]
    exact if_pos hl
  · rw [State.writeReg_header data hi (by omega), hshadow]
    exact if_pos hl
  · unfold State.writeReg
    simp [hi, hl, Nat.not_lt.mpr hblock]

/-- IRQ_RAW clears where ones are written, locked or not. -/
theorem State.writeReg_irqRaw (ho : a % 4096 = 0x0C) : s.writeReg a data =
    (if a / 4096 = Pg.PUMP then s.settleNow else s).modR (Hdr.IRQ_RAW (a / 4096)) (fun w => w &&& ~~~data) := by
  rw [State.writeReg_header data hi (by omega), ho]
  rfl

/-- IRQ_EN takes the page's defined bits, locked or not. -/
theorem State.writeReg_irqEn (ho : a % 4096 = 0x10) :
    s.writeReg a data = s.setR (Hdr.IRQ_EN (a / 4096)) (data &&& irqDefined (a / 4096)) := by
  rw [State.writeReg_header data hi (by omega), ho]
  rfl

theorem State.writeReg_lock (ho : a % 4096 = 0x18) : s.writeReg a data = s.lockOp (a / 4096) data := by
  rw [State.writeReg_header data hi (by omega), ho]
  rfl

end

/-- The unlocking word gives a lock back that is not sticky. -/
theorem State.lockOp_unlock {s : State} {p : Nat} (h : s.getB (Hdr.LOCK p) 1 = false) :
    s.lockOp p 0xA500 = s.setB (Hdr.LOCK p) 0 false := by
  unfold State.lockOp
  exact (if_neg (by decide)).trans ((if_neg (by decide)).trans (if_pos ⟨by decide, by decide, by decide, h⟩))

/-! ## The commands -/

/-- A command that `lockPage` puts on page `p` is by its definition a `hostCmd` there: one arm of `exec` for each constructor it lists. -/
theorem exec_of_lockPage {c : Instr} {p : Nat} (h : lockPage c = some p) (s : State) : ∃ f, exec c s = hostCmd s p f := by
  cases c <;> cases h <;> exact ⟨_, rfl⟩

/-- A write by address is the host write of its operands. -/
theorem exec_registerWrite {s : State} (ad data : Word) (be : BitVec 4) (ha : s.pw.mode ≠ .dormant) (hb : s.pw.busChange = none) :
    exec (.registerWrite ad data be) s = .next (s.hostWrite ad data be).flushLog :=
  hostRaw_ready (fun t => t.hostWrite ad data be) ha hb

theorem exec_hostMemoryWrite {s : State} (ad data : Word) (be : BitVec 4) (ha : s.pw.mode ≠ .dormant) (hb : s.pw.busChange = none) :
    exec (.hostMemoryWrite ad data be) s = .next (s.hostWrite ad data be).flushLog :=
  hostRaw_ready (fun t => t.hostWrite ad data be) ha hb

/-- The oldest posted write to a register page takes effect once the Guard is out of reset (R28). -/
theorem exec_guardWriteApply_register {s : State} {a b : Nat} {w : Word} {rest : List (Nat × Word × Nat)}
    (ha : s.pw.mode ≠ .dormant) (hg : s.pw.gpost = (a, w, b) :: rest) (hr : s.grd.inReset = false) (hp : a < 0x58000) :
    exec .guardWriteApply s = .next (({ s with pw.gpost := rest }).writeReg a w).flushLog := by
  show execGuardWriteApply s = _
  unfold execGuardWriteApply State.awake
  simp [hg, ha, hr, State.guardApply, hp, done]

end Sys2Proof.Machine
end

section
/-! CLAIMS. The lock of a register page, and a write to a bad address. -/
namespace Sys2Proof.Machine
open Sys2Proof

/-- Settles O28: every write whose address has a cause of its own ends in the bus-error record alone. -/
theorem badAddressesAreRecorded : Obligations.BadAddressesAreRecorded := by
  intro s ad data be ha hb hq hc
  have hframe := s.busErr_onlyRegs (addressCause ad.toNat) ad.toNat
  refine ⟨s.busErr (addressCause ad.toNat) ad.toNat, ?_, s.busErr_recorded _ _, hframe.mem_eq, hframe⟩
  rw [exec_hostMemoryWrite ad data be ha hb, State.hostWrite_badAddress data be hc, State.flushLog_nil (hframe.logq_eq.trans hq)]

/-- Settles O8: the lock stops each way to a lockable register, the command, the access by address and the posted write, at the same
test, and IRQ_RAW, IRQ_EN and LOCK are written past it. -/
theorem lockedPagesRefuse : Obligations.LockedPagesRefuse := by
  intro s p ha hb hq hi hl
  refine ⟨fun c hc => ?_, fun ad data hal hap hp hng => ?_, fun a w b rest hpost hr hlo hhi hap => ?_⟩
  · obtain ⟨f, hf⟩ := exec_of_lockPage hc s
    rw [hf, hostCmd_locked f ha hb hi hl, State.flushLog_nil (s.refuse_logq p |>.trans hq)]
  · subst hap
    intro off
    rw [exec_registerWrite ad data 0xF ha hb, State.hostWrite_page data hal hp hng]
    refine ⟨fun ho => ?_, fun ho => ?_, fun ho => ?_, fun ho hkey hsticky => ?_⟩
    · rw [State.writeReg_locked data hi hl ho, State.flushLog_nil (by simp [hq])]
    · rw [State.writeReg_irqRaw data hi ho, State.flushLog_nil]
      split <;> simp [hq]
    · rw [State.writeReg_irqEn data hi ho, State.flushLog_nil (by simp [hq])]
    · have hframe := s.onlyRegs_setB 0 false (List.mem_singleton_self (Hdr.LOCK (ad.toNat / 4096)))
      refine ⟨s.setB (Hdr.LOCK (ad.toNat / 4096)) 0 false, ?_, State.getB_setB_eq _ false (by decide), hframe⟩
      rw [State.writeReg_lock data hi ho, hkey, State.lockOp_unlock hsticky, State.flushLog_nil (hframe.logq_eq.trans hq)]
  · subst hap
    have hpage : a / 4096 ≤ 0x54 := hhi
    have hit : ({ s with pw.gpost := rest } : State).idle (a / 4096) = false := hi
    have hlt : ({ s with pw.gpost := rest } : State).locked (a / 4096) = true := hl
    rw [exec_guardWriteApply_register ha hpost hr (by omega)]
    refine ⟨fun ho => ?_, fun ho => ?_⟩
    · rw [State.writeReg_locked w hit hlt ho, State.flushLog_nil (by simp [hq])]
    · have hpump : a / 4096 ≠ Pg.PUMP := fun e => absurd (e ▸ hlo) (by decide)
      rw [State.writeReg_irqRaw w hit ho, if_neg hpump, State.flushLog_nil (by simp [hq])]
      rfl

end Sys2Proof.Machine
end

section
/-! SUPPORT. What turning the outputs off changes: the generators with their on-time registers, the islands and the lanes, and nothing
else. `pwmBlocks`, `softAll` and `tripAllRings` do no more than that, so entry to SAFE is read off from what it writes before them. -/
namespace Sys2Proof.Machine
open Sys2Proof

/-- `t` is `s` but for generators, islands, lanes and the registers of the generators' pages. -/
structure OutputsOnly (s t : State) : Prop where
  same : t = { s with regs := t.regs, pwm := t.pwm, isls := t.isls, lanes := t.lanes }
  regs : ∀ a, ¬ (Pg.PWMn 0 ≤ a / 4096 ∧ a / 4096 ≤ Pg.PWMn 11) → t.getR a = s.getR a

theorem OutputsOnly.refl (s : State) : OutputsOnly s s := ⟨rfl, fun _ _ => rfl⟩

theorem OutputsOnly.trans {s t u : State} (hst : OutputsOnly s t) (htu : OutputsOnly t u) : OutputsOnly s u where
  same := by
    have e := htu.same
    rw [hst.same] at e
    exact e
  regs a ha := (htu.regs a ha).trans (hst.regs a ha)

theorem OutputsOnly.ite {s t u : State} {c : Prop} [Decidable c] (ht : OutputsOnly s t) (hu : OutputsOnly s u) :
    OutputsOnly s (if c then t else u) := by
  split
  · exact ht
  · exact hu

theorem OutputsOnly.foldl {s t : State} {f : State → Nat → State} {l : List Nat} (h : OutputsOnly s t)
    (hf : ∀ u, ∀ n ∈ l, OutputsOnly s u → OutputsOnly s (f u n)) : OutputsOnly s (l.foldl f t) :=
  List.foldlRecOn l f h fun u hu n hn => hf u n hn hu

section
variable {s t : State} (h : OutputsOnly s t)
include h

theorem OutputsOnly.pw_eq : t.pw = s.pw := by rw [h.same]
theorem OutputsOnly.grd_eq : t.grd = s.grd := by rw [h.same]
theorem OutputsOnly.kp_eq : t.kp = s.kp := by rw [h.same]
theorem OutputsOnly.logq_eq : t.logq = s.logq := by rw [h.same]
theorem OutputsOnly.memB_eq (a : Nat) : t.memB a = s.memB a := by
  rw [h.same]
  rfl

/-! ## Generators -/

theorem OutputsOnly.modGen {g : Nat} {f : PwmGen → PwmGen} : OutputsOnly s (t.modGen g f) := h.trans ⟨rfl, fun _ _ => rfl⟩

theorem OutputsOnly.planRise {g : Nat} {b : Bool} {now : Int} : OutputsOnly s (t.planRise g b now) :=
  .ite h (.ite h.modGen h.modGen)

/-- The on-time registers of generator `g` lie in its own page. -/
theorem OutputsOnly.setOnTime {g : Nat} {b : Bool} {v : Word} (hg : g < 12) :
    OutputsOnly s (t.setR (if b then Reg.PWMn_ONTIME_B g else Reg.PWMn_ONTIME_A g) v) := by
  have hpage : (if b then Reg.PWMn_ONTIME_B g else Reg.PWMn_ONTIME_A g) / 4096 = Pg.PWMn g := by
    cases b with
    | false =>
      show (0x120A0 + g * 4096) / 4096 = 0x12 + g
      omega
    | true =>
      show (0x120A4 + g * 4096) / 4096 = 0x12 + g
      omega
  refine h.trans ⟨rfl, fun a ha => State.getR_setR_ne t v fun e => ha ?_⟩
  rw [e, hpage]
  exact ⟨Nat.add_le_add_left (Nat.zero_le g) _, Nat.add_le_add_left (Nat.le_of_lt_succ hg) _⟩

theorem OutputsOnly.pwmFall {g : Nat} {b : Bool} {now : Int} (hg : g < 12) : OutputsOnly s (t.pwmFall g b now) :=
  .ite h (.ite (h.modGen.setOnTime hg).modGen.planRise (h.modGen.setOnTime hg))

theorem OutputsOnly.pwmDrop {g : Nat} (hg : g < 12) : OutputsOnly s (t.pwmDrop g) := (h.modGen.pwmFall hg).pwmFall hg

theorem OutputsOnly.pwmBlocks : OutputsOnly s t.pwmBlocks :=
  h.foldl fun _ _ hg hu => .ite (hu.pwmDrop (List.mem_range.mp hg)) hu

/-! ## Islands and lanes -/

theorem OutputsOnly.modIsl {n : Nat} {f : Island → Island} : OutputsOnly s (t.modIsl n f) := h.trans ⟨rfl, fun _ _ => rfl⟩

theorem OutputsOnly.softAll : OutputsOnly s t.softAll := h.foldl fun _ _ _ hu => .ite hu.modIsl hu

theorem OutputsOnly.modLane {n : Nat} {f : Lane → Lane} : OutputsOnly s (t.modLane n f) := h.trans ⟨rfl, fun _ _ => rfl⟩

theorem OutputsOnly.lineTrip {n : Nat} : OutputsOnly s (t.lineTrip n) :=
  .ite (OutputsOnly.modLane (.ite h.modLane h.modLane)) h

theorem OutputsOnly.tripAllRings : OutputsOnly s t.tripAllRings :=
  h.foldl fun _ _ _ hu => .ite (hu.foldl fun _ _ _ hv => hv.lineTrip) hu

end

/-! ## Entry to SAFE (R48, R49) -/

/-- The seal session that closes with CONFIGURE touches no register. -/
@[simp] theorem State.getR_sealLeave (s : State) (a : Nat) : s.sealLeave.getR a = s.getR a := by
  unfold State.sealLeave
  split <;> rfl

theorem State.getR_enterMode (s : State) (m : Mode) {a : Nat} (hs : a ≠ Reg.PWR_MODE_SINCE) (hi : a ≠ Hdr.IRQ_RAW Pg.PWR)
    (he : a ≠ Hdr.EVENT_CNT Pg.PWR) : (s.enterMode m).getR a = s.getR a := by
  unfold State.enterMode
  rw [State.getR_blockEv_ne _ he, State.getR_irq_ne _ hi, State.getR_setR_ne _ _ hs]
  show (if s.pw.mode = .configure then s.sealLeave else s).getR a = _
  split
  · exact s.getR_sealLeave a
  · rfl

/-- What entry to SAFE writes before the outputs go off. -/
def State.safeEntry (s : State) (cause : Nat) : State :=
  let s1 := (s.setB Reg.PWR_SAFE_CAUSE cause true).setR Reg.PWR_MODE_CMD 7
  let s2 := { (s1.enterMode .safe) with pw.cblock := true, pw.softOff := false, pw.safeNew := true, pw.safeAt := s.clk.tick,
                                        cell.reqWord := false }
  s2.irqLog 3 2 Pg.PWR 0 [(1, modeCode s.pw.mode), (1, 5), (2, s2.getF Reg.PWR_SAFE_CAUSE 0 9)]

theorem State.safeEntry_mode (s : State) (cause : Nat) : (s.safeEntry cause).pw.mode = .safe := rfl

theorem State.getR_safeEntry_cause (s : State) (cause : Nat) :
    (s.safeEntry cause).getR Reg.PWR_SAFE_CAUSE = (s.setB Reg.PWR_SAFE_CAUSE cause true).getR Reg.PWR_SAFE_CAUSE := by
  have hirq : Reg.PWR_SAFE_CAUSE ≠ Hdr.IRQ_RAW Pg.PWR := by decide
  have hcmd : Reg.PWR_SAFE_CAUSE ≠ Reg.PWR_MODE_CMD := by decide
  simp only [State.safeEntry, State.irqLog, State.getR_logE, State.getR_irq_ne _ hirq, State.getR_mk, State.getR_fold]
  rw [State.getR_enterMode _ _ (by decide) hirq (by decide), State.getR_setR_ne _ _ hcmd]

section
variable {s : State} (cause : Nat) (hm : s.pw.mode ≠ .dormant) (hs : s.pw.mode ≠ .safe)
include hm hs

theorem State.enterSafe_outputsOnly : OutputsOnly (s.safeEntry cause) (s.enterSafe cause) := by
  have houtputs := (OutputsOnly.refl (s.safeEntry cause)).softAll.pwmBlocks.tripAllRings
  unfold State.enterSafe
  split
  case h_1 hdormant => exact absurd hdormant hm
  case h_2 hsafe => exact absurd hsafe hs
  all_goals exact houtputs

theorem State.enterSafe_mode : (s.enterSafe cause).pw.mode = .safe := by
  rw [(State.enterSafe_outputsOnly cause hm hs).pw_eq, State.safeEntry_mode]

/-- The cause of the entry is latched in SAFE_CAUSE. -/
theorem State.enterSafe_cause (hc : cause < 32) : (s.enterSafe cause).getB Reg.PWR_SAFE_CAUSE cause = true := by
  unfold State.getB
  rw [(State.enterSafe_outputsOnly cause hm hs).regs _ (by decide), State.getR_safeEntry_cause]
  exact State.getB_setB_eq Reg.PWR_SAFE_CAUSE true hc

end

end Sys2Proof.Machine
end

section
/-! SUPPORT. The Guard in reset: the block line and the outputs it holds, the registers that its reset clears, and the verification of the
profile at its release. -/
namespace Sys2Proof.Machine
open Sys2Proof

/-! ## While the reset stands (R55) -/

theorem State.guardOk_of_inReset {s : State} (h : s.grd.inReset = true) : s.guardOk = false := by
  unfold State.guardOk
  simp [h]

theorem State.gblock_of_inReset {s : State} (h : s.grd.inReset = true) : s.gblock = true := by
  unfold State.gblock
  simp [State.guardOk_of_inReset h]

theorem State.relEff_of_inReset {s : State} (h : s.grd.inReset = true) : s.relEff = 0xF := by
  unfold State.relEff
  simp [State.guardOk_of_inReset h]

/-! ## The registers that the reset clears (R56) -/

theorem SMap.find_filter_none {α : Type} {k : Nat} {p : Nat × α → Bool} (hp : ∀ v, p (k, v) = false) (m : SMap α) :
    SMap.find k (m.filter p) = none := by
  induction m with
  | nil => rfl
  | cons e m ih =>
    obtain ⟨j, w⟩ := e
    rw [List.filter_cons]
    split
    · next hkept =>
      have hne : j ≠ k := by
        rintro rfl
        exact absurd hkept (by simp [hp])
      exact (if_neg hne).trans ih
    · exact ih

theorem State.getR_guardRegsReset {s : State} {a : Nat} (hlo : Pg.GRD ≤ a / 4096) (hhi : a / 4096 ≤ Pg.GSAFE) (hblock : 0x40 ≤ a % 4096)
    (hseal : a ≠ Reg.GSEAL_SW_NOW) : s.guardRegsReset.getR a = resetWord a := by
  unfold State.getR SMap.get State.guardRegsReset
  rw [SMap.find_filter_none]
  · rfl
  · intro _
    simp [hlo, hhi, hblock, hseal]

/-- What a reset of the Guard writes before it blocks the generators: of its own state the slots, the run of
nonces and the reported mode stay. -/
def State.guardCleared (s : State) : State :=
  { s.guardRegsReset with
    cell.digestOk := false
    grd := { State.reset.grd with inReset := true, slots := s.grd.slots, nonceIx := s.grd.nonceIx + 1, modeRep := s.grd.modeRep } }

/-! ## The verification at the release (R51 step 4; the newest burned slot: log entry 117, the model's choice) -/

theorem State.nvBytes_congr {s t : State} (h : t.kp = s.kp) (a n : Nat) : t.nvBytes a n = s.nvBytes a n := by
  induction n generalizing a with
  | zero => rfl
  | succ n ih => rw [State.nvBytes, State.nvBytes, ih, State.nvB, State.nvB, h]

theorem State.profileDigest_congr {s t : State} (h : t.kp = s.kp) : t.profileDigest = s.profileDigest := by
  unfold State.profileDigest
  rw [State.nvBytes_congr h]

theorem State.slot_congr {s t : State} (h : t.grd.slots = s.grd.slots) (k : Nat) : t.slot k = s.slot k := by
  unfold State.slot
  rw [h]

theorem State.activeSlot_congr {s t : State} (h : t.grd.slots = s.grd.slots) (n : Nat) : t.activeSlot n = s.activeSlot n := by
  induction n with
  | zero => rfl
  | succ n ih => rw [State.activeSlot, State.activeSlot, ih, State.slot_congr h]

/-- The image in the Keeper has the digest of the newest burned slot. -/
def State.profileMatches (s : State) : Bool :=
  match s.activeSlot 48 with
  | none => false
  | some k => decide (s.profileDigest = (s.slot k).digest)

theorem State.profileMatches_iff (s : State) :
    s.profileMatches = true ↔ ∃ k, s.activeSlot 48 = some k ∧ s.profileDigest = (s.slot k).digest := by
  unfold State.profileMatches
  cases s.activeSlot 48 with
  | none => simp
  | some k => simp

theorem State.profileMatches_congr {s t : State} (hslots : t.grd.slots = s.grd.slots) (hkp : t.kp = s.kp) :
    t.profileMatches = s.profileMatches := by
  simp only [State.profileMatches, State.activeSlot_congr hslots, State.profileDigest_congr hkp, State.slot_congr hslots]

/-- The Guard out of reset, before it has verified the profile. -/
def State.guardReleased (s : State) : State := { s with grd.inReset := false, pw.guardLost := false }

/-- PROFILE_OK takes the value `ok`; a change of it sets the interrupt bit. -/
def State.setProfileOk (s : State) (ok : Bool) : State :=
  { s with grd.profileOk := ok, regs := if ok = s.grd.profileOk then s.regs else (s.irq Pg.GRD 3).regs }

theorem State.setProfileOk_eq (s : State) (ok : Bool) :
    (let t : State := { s with grd.profileOk := ok }
     if ok = s.grd.profileOk then t else t.irq Pg.GRD 3) = s.setProfileOk ok := by
  unfold State.setProfileOk
  dsimp only
  split <;> rfl

/-- The verification does no more than give PROFILE_OK what the digests say. -/
theorem State.verifyProfile_eq (s : State) : s.verifyProfile = s.setProfileOk s.profileMatches := s.setProfileOk_eq s.profileMatches

theorem State.getR_setProfileOk (s : State) (ok : Bool) {a : Nat} (h : a ≠ Hdr.IRQ_RAW Pg.GRD) :
    (s.setProfileOk ok).getR a = s.getR a := by
  show SMap.get _ _ (if ok = s.grd.profileOk then s.regs else (s.irq Pg.GRD 3).regs) = _
  split
  · rfl
  · exact s.getR_irq_ne h

/-! ## The commands -/

/-- Loss of the handshake enters SAFE from each mode at work (R55). -/
theorem exec_guardLost {s : State} (hm : s.pw.mode = .configure ∨ s.pw.mode = .armed ∨ s.pw.mode = .run) :
    exec .guardLost s = .next (({ s with pw.guardLost := true } : State).enterSafe SafeCause.guardLost).flushLog := by
  show execGuardLost s = _
  unfold execGuardLost done
  rcases hm with hm | hm | hm <;> rw [hm]

theorem exec_guardReset (s : State) : exec .guardReset s = .next s.guardCleared.pwmBlocks.flushLog := rfl

theorem exec_guardResetRelease {s : State} (hr : s.grd.inReset = true) :
    exec .guardResetRelease s = .next (s.guardReleased.setProfileOk s.profileMatches).flushLog := by
  have hverify : s.guardReleased.verifyProfile = s.guardReleased.setProfileOk s.profileMatches := by
    rw [State.verifyProfile_eq, State.profileMatches_congr (s := s) (t := s.guardReleased) rfl rfl]
  show execGuardResetRelease s = _
  unfold execGuardResetRelease
  rw [← hverify, hr]
  rfl

theorem exec_guardResetRelease_idle {s : State} (hr : s.grd.inReset = false) : exec .guardResetRelease s = .next s.flushLog := by
  show execGuardResetRelease s = _
  unfold execGuardResetRelease
  rw [hr]
  rfl

end Sys2Proof.Machine
end

section
/-! CLAIMS. The Guard in reset, and the loss of its handshake. -/
namespace Sys2Proof.Machine
open Sys2Proof

/-- Settles O52: a Guard in reset verifies nothing, which holds the block line and the outputs; its reset leaves only outputs to turn off
after the registers of its pages are gone, and its release is the verification of the profile. -/
theorem guardResetReleasesEverything : Obligations.GuardResetReleasesEverything := by
  refine ⟨fun s hr => ⟨State.gblock_of_inReset hr, State.relEff_of_inReset hr⟩, fun s hm => ?_,
    fun s hq => ⟨?_, fun hr => ?_, fun hr => ?_⟩⟩
  · have hawake : s.pw.mode ≠ .dormant := by rcases hm with hm | hm | hm <;> simp [hm]
    have hwork : s.pw.mode ≠ .safe := by rcases hm with hm | hm | hm <;> simp [hm]
    refine ⟨_, exec_guardLost hm, ?_, ?_⟩
    · rw [State.flushLog_pw]
      exact State.enterSafe_mode _ hawake hwork
    · unfold State.getB
      rw [State.getR_flushLog _ (by decide)]
      exact State.enterSafe_cause _ hawake hwork (by decide)
  · have hblocks := (OutputsOnly.refl s.guardCleared).pwmBlocks
    have hgrd := hblocks.grd_eq
    have hr : s.guardCleared.pwmBlocks.grd.inReset = true := congrArg GuardState.inReset hgrd
    have hslots : s.guardCleared.pwmBlocks.grd.slots = s.guardCleared.grd.slots := congrArg GuardState.slots hgrd
    refine ⟨s.guardCleared.pwmBlocks, ?_, State.gblock_of_inReset hr, State.relEff_of_inReset hr, hr, congrArg GuardState.session hgrd,
      congrArg GuardState.ram hgrd, hslots, hblocks.kp_eq, fun a hlo hhi hblock hseal => ?_, hblocks.memB_eq,
      hblocks.pw_eq⟩
    · rw [exec_guardReset, State.flushLog_nil (hblocks.logq_eq.trans hq)]
    · have hpage : ¬ (Pg.PWMn 0 ≤ a / 4096 ∧ a / 4096 ≤ Pg.PWMn 11) := by
        rintro ⟨-, hpwm⟩
        exact absurd (Nat.le_trans hlo hpwm) (by decide : ¬ Pg.GRD ≤ Pg.PWMn 11)
      rw [hblocks.regs a hpage]
      exact State.getR_guardRegsReset hlo hhi hblock hseal
  · refine ⟨s.guardReleased.setProfileOk s.profileMatches, ?_, rfl, rfl, s.profileMatches_iff, rfl, fun a ha => ?_⟩
    · rw [exec_guardResetRelease hr, State.flushLog_nil (s := s.guardReleased.setProfileOk _) hq]
    · exact s.guardReleased.getR_setProfileOk _ (by simpa using ha)
  · rw [exec_guardResetRelease_idle hr, State.flushLog_nil hq]

end Sys2Proof.Machine
end

section
/-! SUPPORT. A decision of the Guard on one function (R337): what it records, that the entry of the log and the entry to SAFE which follow
leave the record as it is, and that it is then the decision `guardTripped` speaks of. Decisions of one Guard tick share an entry of the log
(log entry 153, the model's choice); both ways of logging are covered. -/
namespace Sys2Proof.Machine
open Sys2Proof

/-! ## What follows a decision leaves its record -/

/-- From `s` to `t` the time, the released outputs and the registers of the Guard's pages stand. -/
structure GuardFrame (s t : State) : Prop where
  clk : t.clk = s.clk
  released : t.grd.released = s.grd.released
  regs : ∀ a, Pg.GRD ≤ a / 4096 → a / 4096 ≤ Pg.GSAFE → t.getR a = s.getR a

theorem GuardFrame.refl (s : State) : GuardFrame s s := ⟨rfl, rfl, fun _ _ _ => rfl⟩

/-- Where only other fields change, all three stand. -/
theorem GuardFrame.of_regs {s t : State} (hclk : t.clk = s.clk) (hreleased : t.grd.released = s.grd.released) (hregs : t.regs = s.regs) :
    GuardFrame s t :=
  ⟨hclk, hreleased, fun a _ _ => congrArg (SMap.get (resetWord a) a) hregs⟩

theorem GuardFrame.trans {s t u : State} (hst : GuardFrame s t) (htu : GuardFrame t u) : GuardFrame s u :=
  ⟨htu.clk.trans hst.clk, htu.released.trans hst.released, fun a hlo hhi => (htu.regs a hlo hhi).trans (hst.regs a hlo hhi)⟩

/-- A register of the Guard's pages is not one of a page outside them. -/
theorem ne_of_guardPage {a b : Nat} (hlo : Pg.GRD ≤ a / 4096) (hhi : a / 4096 ≤ Pg.GSAFE)
    (hb : ¬ (Pg.GRD ≤ b / 4096 ∧ b / 4096 ≤ Pg.GSAFE)) : a ≠ b := fun e => hb (e ▸ ⟨hlo, hhi⟩)

theorem GuardFrame.setR {s : State} {b : Nat} (v : Word) (hb : ¬ (Pg.GRD ≤ b / 4096 ∧ b / 4096 ≤ Pg.GSAFE)) :
    GuardFrame s (s.setR b v) :=
  ⟨rfl, rfl, fun _ hlo hhi => State.getR_setR_ne s v (ne_of_guardPage hlo hhi hb)⟩

/-- The generators' pages lie outside the Guard's. -/
theorem OutputsOnly.guardFrame {s t : State} (h : OutputsOnly s t) : GuardFrame s t where
  clk := by rw [h.same]
  released := by rw [h.grd_eq]
  regs a hlo _ := h.regs a fun ⟨_, hpwm⟩ => absurd (Nat.le_trans hlo hpwm) (by decide : ¬ Pg.GRD ≤ Pg.PWMn 11)

theorem State.flushLog_guardFrame (s : State) : GuardFrame s s.flushLog where
  clk := s.flushLog_clk
  released := by rw [State.flushLog_grd]
  regs a hlo hhi := s.getR_flushLog fun hlog =>
    ne_of_guardPage hlo hhi ((by decide : ∀ b ∈ logRegs, ¬ (Pg.GRD ≤ b / 4096 ∧ b / 4096 ≤ Pg.GSAFE)) a hlog) rfl

/-- The seal session that closes with CONFIGURE holds no output. -/
@[simp] theorem State.sealLeave_released (s : State) : s.sealLeave.grd.released = s.grd.released := by
  unfold State.sealLeave
  split <;> rfl

@[simp] theorem State.sealLeave_clk (s : State) : s.sealLeave.clk = s.clk := by
  unfold State.sealLeave
  split <;> rfl

theorem State.enterMode_guardFrame (s : State) (m : Mode) : GuardFrame s (s.enterMode m) where
  clk := by
    show (if s.pw.mode = .configure then s.sealLeave else s).clk = s.clk
    split <;> simp
  released := by
    show (if s.pw.mode = .configure then s.sealLeave else s).grd.released = s.grd.released
    split <;> simp
  regs _ hlo hhi := s.getR_enterMode m (ne_of_guardPage hlo hhi (by decide)) (ne_of_guardPage hlo hhi (by decide))
    (ne_of_guardPage hlo hhi (by decide))

theorem State.irqLog_guardFrame (s : State) (cls b p : Nat) (handle : Word) (data : List (Nat × Nat)) :
    GuardFrame (s.irq p b) (s.irqLog cls b p handle data) := .of_regs rfl rfl rfl

/-- `s` with the controller's block asserted at tick `now`, as entry to SAFE leaves it (R48, R49). -/
def State.blockOnEntry (s : State) (now : Nat) : State :=
  { s with pw.cblock := true, pw.softOff := false, pw.safeNew := true, pw.safeAt := now, cell.reqWord := false }

theorem State.safeEntry_eq (s : State) (cause : Nat) :
    let u := (((s.setB Reg.PWR_SAFE_CAUSE cause true).setR Reg.PWR_MODE_CMD 7).enterMode .safe).blockOnEntry s.clk.tick
    s.safeEntry cause = u.irqLog 3 2 Pg.PWR 0 [(1, modeCode s.pw.mode), (1, 5), (2, u.getF Reg.PWR_SAFE_CAUSE 0 9)] := rfl

theorem State.safeEntry_guardFrame (s : State) (cause : Nat) : GuardFrame s (s.safeEntry cause) := by
  have hcause : GuardFrame s (s.setB Reg.PWR_SAFE_CAUSE cause true) := .setR _ (by decide)
  have hcmd := hcause.trans (.setR (b := Reg.PWR_MODE_CMD) 7 (by decide))
  have hmode := hcmd.trans (State.enterMode_guardFrame _ .safe)
  have hblock (u : State) (now : Nat) : GuardFrame u (u.blockOnEntry now) := .of_regs rfl rfl rfl
  have hirq (u : State) : GuardFrame u (u.irq Pg.PWR 2) := .setR _ (by decide)
  rw [State.safeEntry_eq]
  exact ((hmode.trans (hblock _ _)).trans (hirq _)).trans (State.irqLog_guardFrame _ _ _ _ _ _)

theorem State.enterSafe_guardFrame (s : State) (cause : Nat) : GuardFrame s (s.enterSafe cause) := by
  by_cases hdormant : s.pw.mode = .dormant
  · rw [State.enterSafe, hdormant]
    exact GuardFrame.refl s
  by_cases hsafe : s.pw.mode = .safe
  · rw [State.enterSafe, hsafe]
    exact GuardFrame.setR _ (by decide)
  · exact (s.safeEntry_guardFrame cause).trans (State.enterSafe_outputsOnly cause hdormant hsafe).guardFrame

/-- A device that is awake is in SAFE afterwards, with the cause latched (R48); one that was in SAFE stays there. -/
theorem State.enterSafe_reaches {s : State} {cause : Nat} (hm : s.pw.mode ≠ .dormant) (hc : cause < 32) :
    (s.enterSafe cause).pw.mode = .safe ∧ (s.enterSafe cause).getB Reg.PWR_SAFE_CAUSE cause = true := by
  by_cases hsafe : s.pw.mode = .safe
  · rw [State.enterSafe, hsafe]
    exact ⟨hsafe, State.getB_setB_eq _ true hc⟩
  · exact ⟨State.enterSafe_mode cause hm hsafe, State.enterSafe_cause cause hm hsafe hc⟩

/-! ## The entry of the log -/

/-- A decision is logged under interrupt bit 0 of GRD, by an entry of its own or in that of its tick (log entry 153). -/
theorem State.logDecision_guardFrame (s : State) (mask : Word) : GuardFrame (s.irq Pg.GRD 0) (s.logDecision mask) := by
  unfold State.logDecision
  split
  case h_1 => exact s.irqLog_guardFrame _ _ _ _ _
  case h_2 =>
    dsimp only
    rw [State.setMemBytes_same]
    exact .of_regs rfl rfl rfl

@[simp] theorem State.logDecision_pw (s : State) (mask : Word) : (s.logDecision mask).pw = s.pw := by
  unfold State.logDecision
  split
  case h_1 => rfl
  case h_2 =>
    dsimp only
    rw [State.setMemBytes_same]
    rfl

/-! ## The record of one function -/

theorem bit_two_pow {f g : Nat} (hg : g < 32) : bit (w32 (2 ^ f)) g = decide (f = g) := by
  rw [bit, w32, BitVec.getLsbD_ofNat, decide_eq_true hg, Bool.true_and, Nat.testBit_two_pow]

theorem find?_bit_two_pow {f n : Nat} (hf : f < n) (hn : n ≤ 32) : (List.range n).find? (fun g => bit (w32 (2 ^ f)) g) = some f := by
  rw [List.find?_range_eq_some]
  refine ⟨?_, List.mem_range.mpr hf, fun g hg => ?_⟩
  · simp [bit_two_pow (Nat.lt_of_lt_of_le hf hn)]
  · have hne : f ≠ g := Nat.ne_of_gt hg
    simp [bit_two_pow (Nat.lt_of_lt_of_le (Nat.lt_trans hg hf) hn), hne]

/-- A fold that joins the masks of the chosen functions, where only `f` may be chosen. -/
theorem foldl_or_only {p : Nat → Bool} {m : Nat → BitVec 4} {f n : Nat} (acc : BitVec 4) (hp : ∀ g, g < n → g ≠ f → p g = false) :
    (List.range n).foldl (fun acc g => if p g then acc ||| m g else acc) acc = if f < n ∧ p f then acc ||| m f else acc := by
  induction n with
  | zero => rfl
  | succ n ih =>
    rw [List.range_succ, List.foldl_append, ih fun g hg => hp g (Nat.lt_succ_of_lt hg), List.foldl_cons, List.foldl_nil]
    by_cases hfn : n = f
    · subst hfn
      simp
    · have hlt : f < n + 1 ↔ f < n := by omega
      simp [hp n (Nat.lt_succ_self n) hfn, hlt]

/-- The outputs that function `f` releases at its decision: those of an ESTOP wait (R337). -/
def State.fnReleases (s : State) (f : Nat) : BitVec 4 := if f = 21 then 0 else BitVec.ofNat 4 (s.fnMask f)

/-- `s` with the outputs of function `f` released and its latches set. -/
def State.latchFn (s : State) (f : Nat) : State :=
  ((s.guardChange fun s => { s with grd.released := s.grd.released ||| s.fnReleases f }).modR Reg.GRD_TRIP_LATCH
    (· ||| w32 (2 ^ f))).modR Reg.GRD_TRIP_ACTIVE (· ||| w32 (2 ^ f))

/-- The first record is full, and not by a higher code of this Guard tick. -/
def State.firstKept (s : State) (f : Nat) : Bool :=
  s.getB Reg.GRD_FIRST_FN 15 && !(s.firstThisTick && decide (f < s.getF Reg.GRD_FIRST_FN 0 5))

/-- `s` with function `f` and its point in the first record, where they belong there. -/
def State.recordFirst (s : State) (f point : Nat) : State :=
  if s.firstKept f then s
  else ((s.setR Reg.GRD_FIRST_FN (w32 (f + point * 256 + 0x8000))).setR Reg.GRD_FIRST_NS (w32 s.ns)).setR Reg.GRD_FIRST_SEC_LO (w32 s.sec)

/-- `s` with a decision on function `f` recorded, before it is logged and SAFE entered. -/
def State.recordFn (s : State) (f point : Nat) : State := (((s.latchFn f).recordFirst f point).incSat Reg.GRD_TRIP_CNT).blockEv Pg.GRD

theorem State.guardDecide_single (s : State) {f : Nat} (point : Nat) (hf : f < 26) :
    s.guardDecide (w32 (2 ^ f)) point = ((s.recordFn f point).logDecision (w32 (2 ^ f))).enterSafe SafeCause.guard := by
  have hfirst := find?_bit_two_pow hf (by decide)
  have hreleased : (List.range 26).foldl
      (fun acc g => if bit (w32 (2 ^ f)) g && decide (g ≠ 21) then acc ||| BitVec.ofNat 4 (s.fnMask g) else acc) s.grd.released =
      s.grd.released ||| s.fnReleases f := by
    rw [foldl_or_only (f := f) _ fun g hg hne => by simp [bit_two_pow (Nat.lt_trans hg (by decide)), hne.symm]]
    by_cases hestop : f = 21 <;> simp [State.fnReleases, bit_two_pow (Nat.lt_trans hf (by decide)), hf, hestop]
  unfold State.guardDecide
  simp only [hfirst, hreleased]
  rfl

/-- A function that the mode reported arms fires by the decision on it alone. -/
theorem State.guardFire_armed {s : State} {f : Nat} (point : Nat) (hr : s.grd.inReset = false) (ha : fnArmed f s.grd.modeRep = true)
    (hf : f < 26) :
    s.guardFire f point = ((s.recordFn f point).logDecision (w32 (2 ^ f))).enterSafe SafeCause.guard := by
  rw [← s.guardDecide_single point hf]
  unfold State.guardFire
  simp [hr, ha]

/-! ## What the record reads -/

/-- The registers of the first record. -/
def firstRegs : List Nat := [Reg.GRD_FIRST_FN, Reg.GRD_FIRST_NS, Reg.GRD_FIRST_SEC_LO]

theorem State.recordFirst_onlyRegs (s : State) (f point : Nat) : s.onlyRegs firstRegs (s.recordFirst f point) := by
  unfold State.recordFirst
  split
  · exact ⟨rfl, fun _ _ => rfl⟩
  · exact State.onlyRegs_trans (State.onlyRegs_trans (State.onlyRegs_setR s _ (by decide)) (State.onlyRegs_setR _ _ (by decide)))
      (State.onlyRegs_setR _ _ (by decide))

section
variable (s : State) (f point : Nat)

theorem State.recordFn_eq : s.recordFn f point = { s.latchFn f with regs := (s.recordFn f point).regs } := by
  have hfirst := ((s.latchFn f).recordFirst_onlyRegs f point).1
  unfold State.recordFn
  rw [hfirst]
  rfl

@[simp] theorem State.recordFn_clk : (s.recordFn f point).clk = s.clk := by
  rw [State.recordFn_eq]
  rfl

@[simp] theorem State.recordFn_pw : (s.recordFn f point).pw = s.pw := by
  rw [State.recordFn_eq]
  rfl

theorem State.recordFn_released : (s.recordFn f point).grd.released = s.grd.released ||| s.fnReleases f := by
  rw [State.recordFn_eq]
  rfl

theorem State.getR_latchFn {a : Nat} (hl : a ≠ Reg.GRD_TRIP_LATCH) (ha : a ≠ Reg.GRD_TRIP_ACTIVE) :
    (s.latchFn f).getR a = s.getR a := by
  unfold State.latchFn
  rw [State.getR_modR_ne _ _ ha, State.getR_modR_ne _ _ hl]
  rfl

theorem State.getR_recordFn {a : Nat} (hfirst : a ∉ firstRegs) (hcnt : a ≠ Reg.GRD_TRIP_CNT) (hev : a ≠ Hdr.EVENT_CNT Pg.GRD) :
    (s.recordFn f point).getR a = (s.latchFn f).getR a := by
  unfold State.recordFn
  rw [State.getR_blockEv_ne _ hev, State.getR_incSat_ne _ hcnt, ((s.latchFn f).recordFirst_onlyRegs f point).2 a hfirst]

theorem State.recordFn_latch : (s.recordFn f point).getR Reg.GRD_TRIP_LATCH = s.getR Reg.GRD_TRIP_LATCH ||| w32 (2 ^ f) := by
  rw [State.getR_recordFn _ _ _ (by decide) (by decide) (by decide)]
  unfold State.latchFn
  rw [State.getR_modR_ne _ _ (by decide), State.getR_modR_eq]
  rfl

theorem State.recordFn_active : (s.recordFn f point).getR Reg.GRD_TRIP_ACTIVE = s.getR Reg.GRD_TRIP_ACTIVE ||| w32 (2 ^ f) := by
  rw [State.getR_recordFn _ _ _ (by decide) (by decide) (by decide)]
  unfold State.latchFn
  rw [State.getR_modR_eq, State.getR_modR_ne _ _ (by decide)]
  rfl

theorem State.recordFn_count (h : s.getR Reg.GRD_TRIP_CNT ≠ 0xFFFFFFFF) :
    (s.recordFn f point).getR Reg.GRD_TRIP_CNT = s.getR Reg.GRD_TRIP_CNT + 1 := by
  have hbefore : ((s.latchFn f).recordFirst f point).getR Reg.GRD_TRIP_CNT = s.getR Reg.GRD_TRIP_CNT := by
    rw [((s.latchFn f).recordFirst_onlyRegs f point).2 _ (by decide), State.getR_latchFn _ _ (by decide) (by decide)]
  unfold State.recordFn
  rw [State.getR_blockEv_ne _ (by decide), State.getR_incSat_eq, hbefore, if_neg h]

/-- Outside the page GRD a decision records nothing. -/
theorem State.getR_recordFn_other {a : Nat} (ha : a / 4096 ≠ Pg.GRD) : (s.recordFn f point).getR a = s.getR a := by
  have hne {b : Nat} (hb : b / 4096 = Pg.GRD) : a ≠ b := fun e => ha (e ▸ hb)
  rw [State.getR_recordFn _ _ _ (fun hm => ha ((by decide : ∀ b ∈ firstRegs, b / 4096 = Pg.GRD) a hm)) (hne (by decide)) (hne (by decide)),
    State.getR_latchFn _ _ (hne (by decide)) (hne (by decide))]

/-! ## The first record -/

theorem State.getR_recordFn_first {a : Nat} (ha : a ∈ firstRegs) :
    (s.recordFn f point).getR a = ((s.latchFn f).recordFirst f point).getR a := by
  unfold State.recordFn
  rw [State.getR_blockEv_ne _ ((by decide : ∀ b ∈ firstRegs, b ≠ Hdr.EVENT_CNT Pg.GRD) a ha),
    State.getR_incSat_ne _ ((by decide : ∀ b ∈ firstRegs, b ≠ Reg.GRD_TRIP_CNT) a ha)]

theorem State.getR_latchFn_first {a : Nat} (ha : a ∈ firstRegs) : (s.latchFn f).getR a = s.getR a :=
  s.getR_latchFn f ((by decide : ∀ b ∈ firstRegs, b ≠ Reg.GRD_TRIP_LATCH) a ha)
    ((by decide : ∀ b ∈ firstRegs, b ≠ Reg.GRD_TRIP_ACTIVE) a ha)

/-- The Guard keeps the first record in the two cases of R337. -/
theorem State.latchFn_firstKept {t : State} (ht : t.clk = s.clk) :
    (s.latchFn f).firstKept f = true ↔ s.getB Reg.GRD_FIRST_FN 15 = true ∧ ¬ firstOfTick s t f := by
  have hns : (s.latchFn f).ns = t.ns := by
    unfold State.ns
    rw [ht]
    rfl
  have hsec : (s.latchFn f).sec = t.sec := by
    unfold State.sec
    rw [ht]
    rfl
  simp only [State.firstKept, State.firstThisTick, firstOfTick, State.getB, State.getF, hns, hsec,
    State.getR_latchFn_first s f (a := Reg.GRD_FIRST_FN) (by decide), State.getR_latchFn_first s f (a := Reg.GRD_FIRST_NS) (by decide),
    State.getR_latchFn_first s f (a := Reg.GRD_FIRST_SEC_LO) (by decide), Bool.and_eq_true, Bool.not_eq_true', Bool.and_eq_false_iff,
    decide_eq_false_iff_not, Classical.not_and_iff_not_or_not, or_assoc]

theorem State.recordFn_firstKept {a : Nat} (ha : a ∈ firstRegs) (h : (s.latchFn f).firstKept f = true) :
    (s.recordFn f point).getR a = s.getR a := by
  rw [State.getR_recordFn_first _ _ _ ha, State.recordFirst, if_pos h, State.getR_latchFn_first _ _ ha]

theorem State.recordFn_firstTaken (h : (s.latchFn f).firstKept f = false) :
    (s.recordFn f point).getR Reg.GRD_FIRST_FN = w32 (f + point * 256 + 0x8000) ∧
    (s.recordFn f point).getR Reg.GRD_FIRST_NS = w32 s.ns ∧ (s.recordFn f point).getR Reg.GRD_FIRST_SEC_LO = w32 s.sec := by
  have hns : (s.latchFn f).ns = s.ns := rfl
  have hsec : (s.latchFn f).sec = s.sec := rfl
  refine ⟨?_, ?_, ?_⟩ <;> rw [State.getR_recordFn_first _ _ _ (by decide), State.recordFirst, if_neg (by simp [h])] <;>
    simp (disch := decide) [hns, hsec]

end

/-! ## A function that fires -/

theorem or_two_pow_ne_zero (w : Word) {f : Nat} (hf : f < 32) : w ||| w32 (2 ^ f) ≠ 0 := by
  intro h
  have hbit : (w ||| w32 (2 ^ f)).getLsbD f = true := by
    rw [BitVec.getLsbD_or, show (w32 (2 ^ f)).getLsbD f = true from (bit_two_pow hf).trans (decide_eq_true rfl), Bool.or_true]
  rw [h] at hbit
  simp at hbit

/-- A trip latched asserts the block line (R337), and GWDO is low (R331). -/
theorem State.gblock_of_latch {s : State} (h : s.getR Reg.GRD_TRIP_LATCH ≠ 0) : s.gblock = true := by
  rw [State.gblock, decide_eq_true h, Bool.or_true, Bool.true_or]

theorem State.gwdo_of_latch {s : State} (h : s.getR Reg.GRD_TRIP_LATCH ≠ 0) : s.gwdo = false := by
  rw [State.gwdo, decide_eq_false h, Bool.and_false]

section
variable {s : State} {f : Nat} (point : Nat) (hr : s.grd.inReset = false) (ha : fnArmed f s.grd.modeRep = true) (hf : f < 26)
include hr ha hf

theorem State.guardFire_guardFrame : GuardFrame ((s.recordFn f point).irq Pg.GRD 0) (s.guardFire f point).flushLog := by
  rw [State.guardFire_armed point hr ha hf]
  exact ((State.logDecision_guardFrame _ _).trans (State.enterSafe_guardFrame _ _)).trans (State.flushLog_guardFrame _)

/-- A Guard page other than GRD reads after the command as before the decision. -/
theorem State.getR_guardFire_other {a : Nat} (hlo : Pg.GRD < a / 4096) (hhi : a / 4096 ≤ Pg.GSAFE) :
    (s.guardFire f point).flushLog.getR a = s.getR a := by
  have hirq : a ≠ Hdr.IRQ_RAW Pg.GRD := fun e => absurd (e ▸ hlo) (by decide)
  rw [(State.guardFire_guardFrame point hr ha hf).regs a (Nat.le_of_lt hlo) hhi, State.getR_irq_ne _ hirq,
    State.getR_recordFn_other _ _ _ (Nat.ne_of_gt hlo)]

theorem State.guardFire_safe (hm : s.pw.mode ≠ .dormant) :
    (s.guardFire f point).flushLog.pw.mode = .safe ∧ (s.guardFire f point).flushLog.getB Reg.PWR_SAFE_CAUSE 0 = true := by
  have hawake : ((s.recordFn f point).logDecision (w32 (2 ^ f))).pw.mode ≠ .dormant := by simpa using hm
  rw [State.flushLog_pw, State.getB, State.getR_flushLog _ (by decide), State.guardFire_armed point hr ha hf]
  exact State.enterSafe_reaches hawake (by decide)

/-- A function that fires is a decision on it and on no other. -/
theorem State.guardFire_tripped : guardTripped s (s.guardFire f point).flushLog f point := by
  have hframe := State.guardFire_guardFrame point hr ha hf
  have hsafe := State.guardFire_safe point hr ha hf
  generalize (s.guardFire f point).flushLog = t at hframe hsafe ⊢
  have hclk : t.clk = s.clk := by rw [hframe.clk, State.irq_eq, State.setR_clk, State.recordFn_clk]
  have hreleased : t.grd.released = s.grd.released ||| s.fnReleases f := by
    rw [hframe.released, State.irq_eq, State.setR_grd, State.recordFn_released]
  have hns : t.ns = s.ns := by rw [State.ns, State.ns, hclk]
  have hsec : t.sec = s.sec := by rw [State.sec, State.sec, hclk]
  have hreg {a : Nat} (hp : a / 4096 = Pg.GRD) (hirq : a ≠ Hdr.IRQ_RAW Pg.GRD) : t.getR a = (s.recordFn f point).getR a :=
    (hframe.regs a (Nat.le_of_eq hp.symm) (hp ▸ by decide)).trans (State.getR_irq_ne _ hirq)
  have hlatch : t.getR Reg.GRD_TRIP_LATCH = s.getR Reg.GRD_TRIP_LATCH ||| w32 (2 ^ f) :=
    (hreg (by decide) (by decide)).trans (s.recordFn_latch f point)
  have hset : t.getR Reg.GRD_TRIP_LATCH ≠ 0 := hlatch ▸ or_two_pow_ne_zero _ (Nat.lt_trans hf (by decide))
  have hkept := s.latchFn_firstKept f hclk
  refine ⟨hlatch, (hreg (by decide) (by decide)).trans (s.recordFn_active f point), hreleased,
    State.gblock_of_latch hset, State.gwdo_of_latch hset, ?_, fun htake => ?_, fun hfull hlater => ?_, fun hcnt => ?_, hsafe⟩
  · rw [State.getB, hframe.regs _ (by decide) (by decide)]
    exact State.getB_irq_eq _ (by decide)
  · have hnot : (s.latchFn f).firstKept f = false := Bool.eq_false_iff.mpr fun hstands => by
      obtain ⟨hfull, hlater⟩ := hkept.mp hstands
      rcases htake with hempty | htick
      · exact Bool.false_ne_true (hempty.symm.trans hfull)
      · exact hlater htick
    rw [hreg (by decide) (by decide), hreg (by decide) (by decide), hreg (by decide) (by decide), hns, hsec]
    exact s.recordFn_firstTaken f point hnot
  · rw [hreg (by decide) (by decide)]
    exact s.recordFn_firstKept f point (by decide) (hkept.mpr ⟨hfull, hlater⟩)
  · rw [hreg (by decide) (by decide)]
    exact s.recordFn_count f point hcnt

end

/-! ## A fault of the safety inputs (R343, R344) -/

/-- The registers that a decision speaks of as they were before it. -/
def decisionRegs : List Nat := [Reg.GRD_TRIP_LATCH, Reg.GRD_TRIP_ACTIVE, Reg.GRD_TRIP_CNT] ++ firstRegs

/-- A decision counts from any earlier state with the same latches, count, first record, outputs and mode. -/
theorem guardTripped_of_before {s u t : State} {f point : Nat} (h : guardTripped u t f point)
    (hregs : ∀ a ∈ decisionRegs, u.getR a = s.getR a) (hreleased : u.grd.released = s.grd.released) (hmask : u.fnMask f = s.fnMask f)
    (hmode : u.pw.mode = s.pw.mode) : guardTripped s t f point := by
  simpa only [guardTripped, firstOfTick, State.getB, State.getF, hregs Reg.GRD_TRIP_LATCH (by decide), hregs Reg.GRD_TRIP_ACTIVE (by decide),
    hregs Reg.GRD_TRIP_CNT (by decide), hregs Reg.GRD_FIRST_FN (by decide), hregs Reg.GRD_FIRST_NS (by decide),
    hregs Reg.GRD_FIRST_SEC_LO (by decide), hreleased, hmask, hmode] using h

/-- The function of the safety inputs' faults is armed in every mode (R333). -/
theorem fnArmed_inputFault (m : Mode) : fnArmed 24 m = true := rfl

/-- `s` with fault `b` of the safety inputs set and counted, and its interrupt. -/
def State.noteSafetyFault (s : State) (b : Nat) : State :=
  ((s.setB Reg.GSAFE_FAULT b true).incSat Reg.GSAFE_FAULT_CNT).irq Pg.GSAFE 1

theorem State.safetyFault_eq (s : State) (b : Nat) : s.safetyFault b = (s.noteSafetyFault b).guardFire 24 0 := rfl

theorem State.fnMask_setR (s : State) (a : Nat) (v : Word) (f : Nat) : (s.setR a v).fnMask f = s.fnMask f := rfl

theorem State.fnMask_noteSafetyFault (s : State) (b f : Nat) : (s.noteSafetyFault b).fnMask f = s.fnMask f := by
  unfold State.noteSafetyFault
  rw [State.irq_eq, State.fnMask_setR, State.incSat_eq, State.fnMask_setR, State.setB_eq, State.fnMask_setR]

theorem State.getR_noteSafetyFault (s : State) (b : Nat) {a : Nat} (ha : a / 4096 ≠ Pg.GSAFE) :
    (s.noteSafetyFault b).getR a = s.getR a := by
  have hne {c : Nat} (hc : c / 4096 = Pg.GSAFE) : a ≠ c := fun e => ha (e ▸ hc)
  unfold State.noteSafetyFault
  rw [State.getR_irq_ne _ (hne (by decide)), State.getR_incSat_ne _ (hne (by decide)), State.getR_setB_ne _ _ _ (hne (by decide))]

theorem State.noteSafetyFault_fault (s : State) {b : Nat} (hb : b < 32) : (s.noteSafetyFault b).getB Reg.GSAFE_FAULT b = true := by
  unfold State.noteSafetyFault
  rw [State.getB, State.getR_irq_ne _ (by decide), State.getR_incSat_ne _ (by decide)]
  exact State.getB_setB_eq _ true hb

section
variable {s : State} (hr : s.grd.inReset = false) (b : Nat)
include hr

theorem State.safetyFault_tripped : guardTripped s (s.safetyFault b).flushLog 24 0 := by
  have hfired := State.guardFire_tripped (s := s.noteSafetyFault b) 0 hr (fnArmed_inputFault _) (by decide)
  rw [← s.safetyFault_eq b] at hfired
  have hregs : ∀ a ∈ decisionRegs, (s.noteSafetyFault b).getR a = s.getR a :=
    fun a ha => s.getR_noteSafetyFault b ((by decide : ∀ c ∈ decisionRegs, c / 4096 ≠ Pg.GSAFE) a ha)
  exact guardTripped_of_before hfired hregs rfl (s.fnMask_noteSafetyFault b 24) rfl

theorem State.safetyFault_fault (hb : b < 32) : (s.safetyFault b).flushLog.getB Reg.GSAFE_FAULT b = true := by
  have hafter : (s.safetyFault b).flushLog.getR Reg.GSAFE_FAULT = (s.noteSafetyFault b).getR Reg.GSAFE_FAULT :=
    State.getR_guardFire_other (s := s.noteSafetyFault b) 0 hr (fnArmed_inputFault _) (by decide) (by decide) (by decide)
  rw [State.getB, hafter]
  exact s.noteSafetyFault_fault hb

end

/-! ## The command -/

theorem State.inReset_of_guardOk {s : State} (h : s.guardOk = true) : s.grd.inReset = false := by
  cases hr : s.grd.inReset with
  | false => rfl
  | true => exact absurd h (by simp [State.guardOk_of_inReset hr])

/-- `s` with the mismatch of a test pulse noted, which FAULT_CLR judges (log entry 143, the model's choice). -/
def State.noteTpBad (s : State) : State := { s with grd.tpBad := true }

@[simp] theorem State.getR_noteTpBad (s : State) (a : Nat) : s.noteTpBad.getR a = s.getR a := rfl

theorem exec_tpReadbackFault {s : State} (hok : s.guardOk = true) (hrole : s.pw.role ≠ .cell) :
    exec .tpReadbackFault s = .next (s.noteTpBad.safetyFault 24).flushLog := by
  show execTpReadbackFault s = _
  unfold execTpReadbackFault
  rw [hok, decide_eq_false hrole]
  rfl

end Sys2Proof.Machine
end

section
/-! CLAIMS. The readback of the test pulses. -/
namespace Sys2Proof.Machine
open Sys2Proof

/-- Settles O50: a readback that disagrees is noted, which no decision reads, and is then a fault of the safety inputs with bit
TP (R344), whose function 24 is decided on alone (R337; the entry it shares with its tick is log entry 153, the model's choice). -/
theorem testPulseReadbackFires24 : Obligations.TestPulseReadbackFires24 := by
  intro s hok hrole
  have hr : s.noteTpBad.grd.inReset = false := State.inReset_of_guardOk hok
  have htripped := guardTripped_of_before (State.safetyFault_tripped hr 24) (fun a _ => s.getR_noteTpBad a) rfl rfl rfl
  exact ⟨_, exec_tpReadbackFault hok hrole, State.safetyFault_fault hr 24 (by decide), htripped⟩

end Sys2Proof.Machine
end

section
/-! SUPPORT. An auxiliary pump port: the commutation that ends an edge, what a change of the Hall state writes before it, the stall and the
clear. -/
namespace Sys2Proof.Machine
open Sys2Proof

/-! ## The commutation that ends an edge (R400) -/

/-- `t` is `s` but for shadow values and registers of the generators' pages. -/
structure CommutesOnly (s t : State) : Prop where
  same : t = { s with regs := t.regs, shadow := t.shadow }
  regs : ∀ a, ¬ (Pg.PWMn 0 ≤ a / 4096 ∧ a / 4096 ≤ Pg.PWMn 11) → t.getR a = s.getR a

theorem CommutesOnly.refl (s : State) : CommutesOnly s s := ⟨rfl, fun _ _ => rfl⟩

section
variable {s t : State} (h : CommutesOnly s t)
include h

theorem CommutesOnly.auxs_eq : t.auxs = s.auxs := by rw [h.same]

theorem CommutesOnly.setShadowCtrl {p i : Nat} {b : Bool} (hp : Pg.PWMn 0 ≤ p ∧ p ≤ Pg.PWMn 11) :
    CommutesOnly s (t.setB (Hdr.SHADOW_CTRL p) i b) where
  same := by
    rw [h.same]
    rfl
  regs a ha := by
    have hpage : Hdr.SHADOW_CTRL p / 4096 = p := by
      show (p * 4096 + 0x01C) / 4096 = p
      omega
    have hne : a ≠ Hdr.SHADOW_CTRL p := fun e => ha (by rw [e, hpage]; exact hp)
    rw [State.getR_setB_ne t i b hne, h.regs a ha]

theorem CommutesOnly.writeShadow {a : Nat} {v : Word} (hp : Pg.PWMn 0 ≤ a / 4096 ∧ a / 4096 ≤ Pg.PWMn 11) :
    CommutesOnly s (t.writeShadow a v) := by
  have hstored : CommutesOnly s { t with shadow := SMap.insert a v t.shadow } :=
    ⟨by rw [h.same], h.regs⟩
  exact hstored.setShadowCtrl hp

theorem CommutesOnly.auxDrive {g x y : Nat} (hg : g < 12) : CommutesOnly s (t.auxDrive g x y) := by
  have hpage : Pg.PWMn 0 ≤ Pg.PWMn g ∧ Pg.PWMn g ≤ Pg.PWMn 11 :=
    ⟨Nat.add_le_add_left (Nat.zero_le g) _, Nat.add_le_add_left (Nat.le_of_lt_succ hg) _⟩
  have hcmpA : Reg.PWMn_CMPA g / 4096 = Pg.PWMn g := by
    simp only [Reg.PWMn_CMPA, Pg.PWMn]
    omega
  have hcmpB : Reg.PWMn_CMPB g / 4096 = Pg.PWMn g := by
    simp only [Reg.PWMn_CMPB, Pg.PWMn]
    omega
  exact ((h.writeShadow (hcmpA ▸ hpage)).writeShadow (hcmpB ▸ hpage)).setShadowCtrl hpage

end

theorem State.auxCommutate_commutesOnly (s : State) (q : Fin 2) : CommutesOnly s (s.auxCommutate q) := by
  unfold State.auxCommutate
  split
  · refine List.foldlRecOn _ _ (CommutesOnly.refl s) fun u hu ph hph => ?_
    have hg : 6 + 3 * q.val + ph < 12 := by
      have := q.isLt
      have := List.mem_range.mp hph
      omega
    dsimp only
    split
    · exact hu.auxDrive hg
    · split
      · exact hu.auxDrive hg
      · split <;> exact hu.auxDrive hg
  · exact CommutesOnly.refl s

/-- The state in which a change of the Hall state ends, `s` being what the change itself wrote. -/
def State.endEdge (s : State) (q : Fin 2) : State := (s.auxCommutate q).flushLog

theorem State.aux_endEdge (s : State) (q : Fin 2) (n : Nat) : (s.endEdge q).aux n = s.aux n := by
  unfold State.endEdge State.aux
  rw [State.flushLog_auxs, (s.auxCommutate_commutesOnly q).auxs_eq]

theorem State.getR_endEdge (s : State) (q : Fin 2) {a : Nat} (ha : a / 4096 = Pg.AUXP) : (s.endEdge q).getR a = s.getR a := by
  have hlog : a ∉ logRegs := fun hm => (by decide : ∀ b ∈ logRegs, b / 4096 ≠ Pg.AUXP) a hm ha
  have hpwm : ¬ (Pg.PWMn 0 ≤ a / 4096 ∧ a / 4096 ≤ Pg.PWMn 11) := by
    rw [ha]
    decide
  unfold State.endEdge
  rw [State.getR_flushLog _ hlog, (s.auxCommutate_commutesOnly q).regs a hpwm]

/-- The registers that a change of the Hall state moves lie in the page AUXP. -/
theorem auxpPort_pages (q : Fin 2) : Reg.AUXP_P_STAT q / 4096 = Pg.AUXP ∧ Reg.AUXP_P_POS q / 4096 = Pg.AUXP ∧
    Reg.AUXP_P_SKIP_CNT q / 4096 = Pg.AUXP ∧ Reg.AUXP_P_HALL_ERR_CNT q / 4096 = Pg.AUXP := by
  revert q
  decide

/-! ## A valid edge (R401, R402) -/

/-- What a valid edge writes before it is timed: position, direction and the end of a stall. -/
def State.auxMove (s : State) (q : Nat) (rev : Bool) : State :=
  ((s.setF (Reg.AUXP_P_POS q) 0 16 (if rev then s.getF (Reg.AUXP_P_POS q) 0 16 + 65535 else s.getF (Reg.AUXP_P_POS q) 0 16 + 1)).setB
    (Reg.AUXP_P_STAT q) 5 rev).setB (Reg.AUXP_P_STAT q) 6 false

/-- The registers that the timing of an edge may change. -/
def edgeTimeRegs (q : Nat) : List Nat := [Hdr.EVENT_CNT Pg.AUXP, Reg.AUXP_P_INTERVAL q, Reg.AUXP_P_SPEED q]

/-- From `s` to `t` the ports stand, and so do the registers other than those an edge's timing changes. -/
structure EdgeTimed (q : Nat) (s t : State) : Prop where
  auxs : t.auxs = s.auxs
  regs : ∀ a, a ∉ edgeTimeRegs q → t.getR a = s.getR a

theorem EdgeTimed.refl (q : Nat) (s : State) : EdgeTimed q s s := ⟨rfl, fun _ _ => rfl⟩

section
variable {q : Nat} {s t : State} (h : EdgeTimed q s t)
include h

theorem EdgeTimed.setR {a : Nat} (v : Word) (ha : a ∈ edgeTimeRegs q) : EdgeTimed q s (t.setR a v) where
  auxs := h.auxs
  regs b hb := by
    have hne : b ≠ a := fun e => hb (e ▸ ha)
    rw [State.getR_setR_ne t v hne, h.regs b hb]

theorem EdgeTimed.freeCtr {n : Nat} : EdgeTimed q s { t with freeCtr := n } := ⟨h.auxs, h.regs⟩

theorem EdgeTimed.setNear {a : Nat} (v : Int) (ha : a ∈ edgeTimeRegs q) : EdgeTimed q s (t.setNear a v) := by
  have hvalue : EdgeTimed q s (t.nearQ v).2 := by
    unfold State.nearQ
    split
    · exact h
    · exact h.freeCtr
  exact hvalue.setR _ ha

theorem EdgeTimed.auxSpeed {iv : Nat} {rev : Bool} : EdgeTimed q s (t.auxSpeed q iv rev) := by
  have hspeed : Reg.AUXP_P_SPEED q ∈ edgeTimeRegs q := by simp [edgeTimeRegs]
  unfold State.auxSpeed State.takeFree
  dsimp only
  split
  · exact h.freeCtr.setR _ hspeed
  · exact h.setNear _ hspeed

theorem EdgeTimed.blockEv : EdgeTimed q s (t.blockEv Pg.AUXP) := h.setR _ (by simp [edgeTimeRegs])

theorem EdgeTimed.setInterval (v : Word) : EdgeTimed q s (t.setR (Reg.AUXP_P_INTERVAL q) v) := h.setR v (by simp [edgeTimeRegs])

end

/-- A valid edge moves the port, is timed, and is noted as the last one. -/
theorem State.auxEdge_timed (s : State) (q : Nat) (rev : Bool) :
    ∃ u, EdgeTimed q (s.auxMove q rev) u ∧
      s.auxEdge q rev = u.modAux q fun x => { x with lastTick := some s.clk.tick, lastDir := some rev, discard := false } := by
  refine ⟨_, ?_, rfl⟩
  have hmoved := EdgeTimed.refl q (s.auxMove q rev)
  have hcounted (c : Prop) [Decidable c] :
      EdgeTimed q (s.auxMove q rev) (if c then (s.auxMove q rev).blockEv Pg.AUXP else s.auxMove q rev) := by
    split
    · exact hmoved.blockEv
    · exact hmoved
  split
  · exact hcounted _
  · split
    · exact hcounted _
    · exact ((hcounted _).setInterval _).auxSpeed

/-- A valid edge leaves the Hall state and the time of its change. -/
theorem State.auxEdge_hall (s : State) (q : Nat) (rev : Bool) :
    ((s.auxEdge q rev).aux q).hall = (s.aux q).hall ∧ ((s.auxEdge q rev).aux q).edgeAt = (s.aux q).edgeAt := by
  obtain ⟨u, htimed, heq⟩ := s.auxEdge_timed q rev
  have hport : u.aux q = s.aux q := congrArg (SMap.get aux0 q) htimed.auxs
  rw [heq, State.aux_modAux_eq, hport]
  exact ⟨rfl, rfl⟩

theorem State.getR_auxEdge (s : State) (q : Nat) (rev : Bool) {a : Nat} (ha : a ∉ edgeTimeRegs q) :
    (s.auxEdge q rev).getR a = (s.auxMove q rev).getR a := by
  obtain ⟨u, htimed, heq⟩ := s.auxEdge_timed q rev
  rw [heq, State.getR_modAux, htimed.regs a ha]

theorem State.auxEdge_pos (s : State) (q : Fin 2) (rev : Bool) :
    (s.auxEdge q rev).getF (Reg.AUXP_P_POS q) 0 16 =
      (if rev then s.getF (Reg.AUXP_P_POS q) 0 16 + 65535 else s.getF (Reg.AUXP_P_POS q) 0 16 + 1) % 65536 := by
  have hstat : Reg.AUXP_P_POS q ≠ Reg.AUXP_P_STAT q := (by decide : ∀ q : Fin 2, Reg.AUXP_P_POS q ≠ Reg.AUXP_P_STAT q) q
  rw [State.getF, State.getR_auxEdge s q rev ((by decide : ∀ q : Fin 2, Reg.AUXP_P_POS q ∉ edgeTimeRegs q) q), State.auxMove,
    State.getR_setB_ne _ _ _ hstat, State.getR_setB_ne _ _ _ hstat]
  exact State.getF_setF_eq _ _ (by decide)

theorem State.auxEdge_forward (s : State) (q : Fin 2) :
    (s.auxEdge q false).getF (Reg.AUXP_P_POS q) 0 16 = (s.getF (Reg.AUXP_P_POS q) 0 16 + 1) % 65536 := by
  rw [State.auxEdge_pos, if_neg Bool.false_ne_true]

theorem State.auxEdge_reverse (s : State) (q : Fin 2) :
    (s.auxEdge q true).getF (Reg.AUXP_P_POS q) 0 16 = (s.getF (Reg.AUXP_P_POS q) 0 16 + 65535) % 65536 := by
  rw [State.auxEdge_pos, if_pos rfl]

theorem State.auxEdge_stat (s : State) (q : Fin 2) (rev : Bool) :
    (s.auxEdge q rev).getB (Reg.AUXP_P_STAT q) 5 = rev ∧ (s.auxEdge q rev).getB (Reg.AUXP_P_STAT q) 6 = false := by
  have hreg := State.getR_auxEdge s q rev ((by decide : ∀ q : Fin 2, Reg.AUXP_P_STAT q ∉ edgeTimeRegs q) q)
  refine ⟨?_, ?_⟩
  · rw [State.getB, hreg, State.auxMove, State.setB_eq, State.getR_setR_eq, bit_putBit_ne _ (by decide) (by decide)]
    exact State.getB_setB_eq _ rev (by decide)
  · rw [State.getB, hreg]
    exact State.getB_setB_eq _ false (by decide)

/-! ## A change of the Hall state (R399, R405) -/

/-- A count that has not reached its last value goes one up. -/
theorem State.getR_incSat_lt {s : State} {a : Nat} (h : s.getR a ≠ 0xFFFFFFFF) : (s.incSat a).getR a = s.getR a + 1 := by
  rw [State.getR_incSat_eq, if_neg h]

/-- `s` with Hall state `h` of port `q` noted. -/
def State.hallSeen (s : State) (q : Nat) (h : BitVec 3) : State :=
  s.modAux q fun x => { x with known := true, hall := h, edgeAt := s.clk.tick }

/-- An invalid Hall state: it counts and interrupts, and the first of a run goes to the log. -/
def State.hallError (s : State) (q : Nat) (first : Bool) : State :=
  let t := (s.incSat (Reg.AUXP_P_HALL_ERR_CNT q)).irq Pg.AUXP 2
  if first then t.logE 2 (some 2) Pg.AUXP 0 [] else t

/-- What the change from `old` to `h` writes; from an invalid state to a valid one it is a skip (log entry 131, the model's choice). -/
def State.hallMove (s : State) (q : Nat) (old h : BitVec 3) : State :=
  match hallPlace h with
  | none => s.hallError q (hallPlace old).isSome
  | some n =>
    match hallPlace old with
    | none => s.incSat (Reg.AUXP_P_SKIP_CNT q)
    | some o =>
      if n = (o + 1) % 6 then s.auxEdge q false else if o = (n + 1) % 6 then s.auxEdge q true else s.incSat (Reg.AUXP_P_SKIP_CNT q)

/-- A running port whose Hall state is known and changes. -/
theorem exec_hallEdge_change {s : State} {q : Fin 2} {h : BitVec 3} (hon : s.auxOn q = true) (hknown : (s.aux q).known = true)
    (hne : h ≠ (s.aux q).hall) :
    exec (.hallEdge q h) s = .next (((s.hallSeen q h).hallMove q (s.aux q).hall h).endEdge q) := by
  show execHallEdge q h s = _
  unfold execHallEdge
  simp only [hon, hknown, decide_eq_false (Ne.symm hne)]
  unfold State.hallMove
  cases hallPlace h with
  | none => cases hallPlace (s.aux q).hall <;> rfl
  | some n => cases hallPlace (s.aux q).hall <;> rfl

/-- No change, or a port that does not run. -/
theorem exec_hallEdge_same {s : State} {q : Fin 2} {h : BitVec 3}
    (hsame : s.auxOn q = false ∨ ((s.aux q).known = true ∧ (s.aux q).hall = h)) : exec (.hallEdge q h) s = .next s.flushLog := by
  show execHallEdge q h s = _
  unfold execHallEdge
  rcases hsame with hoff | ⟨hknown, hhall⟩
  · rw [hoff]
    rfl
  · simp only [hknown, decide_eq_true hhall, Bool.and_self, Bool.or_true]
    rfl

section
variable (s : State) (q : Fin 2) {old h : BitVec 3}

/-- Whatever the change writes, the Hall state and its time stand as noted. -/
theorem State.hallMove_hall : ((s.hallMove q old h).aux q).hall = (s.aux q).hall ∧
    ((s.hallMove q old h).aux q).edgeAt = (s.aux q).edgeAt := by
  unfold State.hallMove
  split
  · unfold State.hallError
    dsimp only
    split <;> exact ⟨rfl, rfl⟩
  · split
    · exact ⟨rfl, rfl⟩
    · split
      · exact s.auxEdge_hall q false
      · split
        · exact s.auxEdge_hall q true
        · exact ⟨rfl, rfl⟩

theorem State.hallMove_invalid (hh : hallPlace h = none) : s.hallMove q old h = s.hallError q (hallPlace old).isSome := by
  rw [State.hallMove, hh]

theorem State.getR_hallError (first : Bool) (a : Nat) :
    (s.hallError q first).getR a = ((s.incSat (Reg.AUXP_P_HALL_ERR_CNT q)).irq Pg.AUXP 2).getR a := by
  cases first <;> rfl

theorem State.hallError_irq (first : Bool) : (s.hallError q first).getB (Hdr.IRQ_RAW Pg.AUXP) 2 = true := by
  rw [State.getB, State.getR_hallError]
  exact State.getB_irq_eq Pg.AUXP (by decide)

theorem State.hallError_pos (first : Bool) : (s.hallError q first).getR (Reg.AUXP_P_POS q) = s.getR (Reg.AUXP_P_POS q) := by
  rw [State.getR_hallError, State.getR_irq_ne _ ((by decide : ∀ q : Fin 2, Reg.AUXP_P_POS q ≠ Hdr.IRQ_RAW Pg.AUXP) q),
    State.getR_incSat_ne _ ((by decide : ∀ q : Fin 2, Reg.AUXP_P_POS q ≠ Reg.AUXP_P_HALL_ERR_CNT q) q)]

theorem State.hallError_count (first : Bool) (hmax : s.getR (Reg.AUXP_P_HALL_ERR_CNT q) ≠ 0xFFFFFFFF) :
    (s.hallError q first).getR (Reg.AUXP_P_HALL_ERR_CNT q) = s.getR (Reg.AUXP_P_HALL_ERR_CNT q) + 1 := by
  rw [State.getR_hallError, State.getR_irq_ne _ ((by decide : ∀ q : Fin 2, Reg.AUXP_P_HALL_ERR_CNT q ≠ Hdr.IRQ_RAW Pg.AUXP) q),
    State.getR_incSat_lt hmax]

section
variable {n o : Nat} (hh : hallPlace h = some n) (ho : hallPlace old = some o)
include hh ho

theorem State.hallMove_valid : s.hallMove q old h = if n = (o + 1) % 6 then s.auxEdge q false
    else if o = (n + 1) % 6 then s.auxEdge q true else s.incSat (Reg.AUXP_P_SKIP_CNT q) := by
  rw [State.hallMove, hh, ho]

theorem State.hallMove_forward (hf : n = (o + 1) % 6) : s.hallMove q old h = s.auxEdge q false := by
  rw [s.hallMove_valid q hh ho, if_pos hf]

/-- Of six places none is next to another on both sides. -/
theorem State.hallMove_reverse (hr : o = (n + 1) % 6) : s.hallMove q old h = s.auxEdge q true := by
  rw [s.hallMove_valid q hh ho, if_neg (by omega), if_pos hr]

theorem State.hallMove_skip (hf : n ≠ (o + 1) % 6) (hr : o ≠ (n + 1) % 6) :
    s.hallMove q old h = s.incSat (Reg.AUXP_P_SKIP_CNT q) := by
  rw [s.hallMove_valid q hh ho, if_neg hf, if_neg hr]

end

end

/-! ## The stall and the clear (R401, R405) -/

/-- What a stall writes. -/
def State.stalled (s : State) (q : Nat) : State :=
  (((s.setR (Reg.AUXP_P_SPEED q) 0).setB (Reg.AUXP_P_STAT q) 6 true).irq Pg.AUXP q).modAux q fun x => { x with discard := true }

theorem State.stalled_logq (s : State) (q : Nat) : (s.stalled q).logq = s.logq := by
  simp only [State.stalled, State.modAux, State.irq_eq, State.setB_eq, State.setR_logq]

theorem State.stalled_clk (s : State) (q : Nat) : (s.stalled q).clk = s.clk := by
  simp only [State.stalled, State.modAux, State.irq_eq, State.setB_eq, State.setR_clk]

/-- A running port that is not yet stalled is so once STALL_T has passed since its last edge, at `due`. -/
theorem exec_hallStall {s : State} {q : Fin 2} {due : Nat} (hq : s.logq = []) (hon : s.auxOn q = true)
    (hnot : s.getB (Reg.AUXP_P_STAT q) 6 = false)
    (hdue : (s.aux q).edgeAt + s.getF (Reg.AUXP_P_STALL_T q) 0 16 * tickMs = due) :
    exec (.hallStall q) s = .next ((s.advanceTo due).stalled q) := by
  have hnotes : ((s.advanceTo due).stalled q).logq = [] := (State.stalled_logq _ q).trans ((s.advanceTo_logq due).trans hq)
  show execHallStall q s = _
  unfold execHallStall
  rw [hdue, hon, hnot, ← State.flushLog_nil hnotes]
  rfl

theorem exec_auxpClear {s : State} {q : Fin 2} (h : s.HostReady Pg.AUXP) : exec (.auxpClear q) s = .next (s.auxClearOp q).flushLog :=
  hostCmd_ready (fun s => s.auxClearOp q) h

theorem State.le_advanceTo_tick (s : State) (t : Nat) : t ≤ (s.advanceTo t).clk.tick := by
  show t ≤ s.clk.tick + (t - s.clk.tick)
  omega

section
variable (s : State) (q : Fin 2)

theorem State.stalled_speed : (s.stalled q).getR (Reg.AUXP_P_SPEED q) = 0 := by
  rw [State.stalled, State.getR_modAux,
    State.getR_irq_ne _ ((by decide : ∀ q : Fin 2, Reg.AUXP_P_SPEED q ≠ Hdr.IRQ_RAW Pg.AUXP) q),
    State.getR_setB_ne _ _ _ ((by decide : ∀ q : Fin 2, Reg.AUXP_P_SPEED q ≠ Reg.AUXP_P_STAT q) q), State.getR_setR_eq]

theorem State.stalled_stat : (s.stalled q).getB (Reg.AUXP_P_STAT q) 6 = true := by
  rw [State.stalled, State.getB, State.getR_modAux,
    State.getR_irq_ne _ ((by decide : ∀ q : Fin 2, Reg.AUXP_P_STAT q ≠ Hdr.IRQ_RAW Pg.AUXP) q)]
  exact State.getB_setB_eq _ true (by decide)

theorem State.stalled_irq : (s.stalled q).getB (Hdr.IRQ_RAW Pg.AUXP) q = true := by
  rw [State.stalled, State.getB, State.getR_modAux]
  exact State.getB_irq_eq Pg.AUXP (Nat.lt_trans q.isLt (by decide))

/-- P.CLEAR changes the two counts and nothing else. -/
theorem State.auxClearOp_onlyRegs :
    s.onlyRegs [Reg.AUXP_P_SKIP_CNT q, Reg.AUXP_P_HALL_ERR_CNT q] (s.auxClearOp q) :=
  State.onlyRegs_trans (State.onlyRegs_setR s 0 (by simp)) (State.onlyRegs_setR _ 0 (by simp))

theorem State.auxClearOp_counts :
    (s.auxClearOp q).getR (Reg.AUXP_P_SKIP_CNT q) = 0 ∧ (s.auxClearOp q).getR (Reg.AUXP_P_HALL_ERR_CNT q) = 0 := by
  refine ⟨?_, State.getR_setR_eq _ _ 0⟩
  rw [State.auxClearOp,
    State.getR_setR_ne _ _ ((by decide : ∀ q : Fin 2, Reg.AUXP_P_SKIP_CNT q ≠ Reg.AUXP_P_HALL_ERR_CNT q) q), State.getR_setR_eq]

end

end Sys2Proof.Machine
end

section
/-! CLAIMS. The Hall sensor of an auxiliary pump. -/
namespace Sys2Proof.Machine
open Sys2Proof

/-- Settles O58: a change of the Hall state is an edge, a skip or an error by its two places in the forward sequence, and the commutation
that follows touches no register of the page AUXP. -/
theorem hallStatesMoveThePosition : Obligations.HallStatesMoveThePosition := by
  intro s q hq
  obtain ⟨hstat, hpos, hskip, herr⟩ := auxpPort_pages q
  refine ⟨fun hon hknown h hne => ?_, fun h hsame => ?_, fun hon hnot => ?_, fun hready => ?_⟩
  · obtain ⟨hhall, hedgeAt⟩ := (s.hallSeen q h).hallMove_hall q (old := (s.aux q).hall) (h := h)
    refine ⟨_, exec_hallEdge_change hon hknown hne, ?_, ?_, fun n o hn ho => ⟨fun hforward => ?_, fun hreverse => ?_, fun hf hr => ?_⟩,
      fun hinvalid => ?_⟩
    · rw [State.aux_endEdge, hhall, State.hallSeen, State.aux_modAux_eq]
    · rw [State.aux_endEdge, hedgeAt, State.hallSeen, State.aux_modAux_eq]
    · rw [State.hallMove_forward _ q hn ho hforward, State.getF, State.getB, State.getB, State.getR_endEdge _ q hpos,
        State.getR_endEdge _ q hstat]
      exact ⟨(s.hallSeen q h).auxEdge_forward q, (s.hallSeen q h).auxEdge_stat q false⟩
    · rw [State.hallMove_reverse _ q hn ho hreverse, State.getF, State.getB, State.getB, State.getR_endEdge _ q hpos,
        State.getR_endEdge _ q hstat]
      exact ⟨(s.hallSeen q h).auxEdge_reverse q, (s.hallSeen q h).auxEdge_stat q true⟩
    · rw [State.hallMove_skip _ q hn ho hf hr, State.getR_endEdge _ q hpos, State.getR_endEdge _ q hskip]
      have hne : Reg.AUXP_P_POS q ≠ Reg.AUXP_P_SKIP_CNT q := (by decide : ∀ q : Fin 2, Reg.AUXP_P_POS q ≠ Reg.AUXP_P_SKIP_CNT q) q
      exact ⟨State.getR_incSat_ne _ hne, fun hmax => State.getR_incSat_lt (s := s.hallSeen q h) hmax⟩
    · have hirq : Hdr.IRQ_RAW Pg.AUXP / 4096 = Pg.AUXP := by decide
      rw [State.hallMove_invalid _ q hinvalid, State.getB, State.getR_endEdge _ q hpos, State.getR_endEdge _ q hirq,
        State.getR_endEdge _ q herr]
      exact ⟨(s.hallSeen q h).hallError_pos q _, (s.hallSeen q h).hallError_irq q _, (s.hallSeen q h).hallError_count q _⟩
  · rw [exec_hallEdge_same hsame, State.flushLog_nil hq]
  · generalize hdue : (s.aux q).edgeAt + s.getF (Reg.AUXP_P_STALL_T q) 0 16 * tickMs = due
    refine ⟨_, exec_hallStall hq hon hnot hdue, State.stalled_speed _ q, State.stalled_stat _ q, State.stalled_irq _ q, ?_⟩
    rw [State.stalled_clk]
    exact s.le_advanceTo_tick due
  · obtain ⟨hskips, herrors⟩ := s.auxClearOp_counts q
    have hframe := s.auxClearOp_onlyRegs q
    refine ⟨s.auxClearOp q, ?_, hskips, herrors, hframe⟩
    rw [exec_auxpClear hready, State.flushLog_nil (hframe.logq_eq.trans hq)]

end Sys2Proof.Machine
end
